-- ==== Sys2Proof/Word.lean ====
section
/-!
DEFINITION. The words of the 80286 (spec/00_scope.md R7, R10) and their plainest splitting and joining.
-/

namespace Sys2Proof

/-- A byte, bits 7..0 (R121). -/
abbrev Byte := BitVec 8

/-- A 16-bit word: registers, offsets, selectors (R7). -/
abbrev Word := BitVec 16

/-- A 24-bit physical address (R7). -/
abbrev PAddr := BitVec 24

/-- The low byte of a word, the one at the lower address (R122). -/
def Word.lo (w : Word) : Byte := w.extractLsb' 0 8

/-- The high byte of a word. -/
def Word.hi (w : Word) : Byte := w.extractLsb' 8 8

/-- The word whose low byte is `lo` and whose high byte is `hi` (R122). -/
def Word.ofBytes (lo hi : Byte) : Word := hi ++ lo

end Sys2Proof
end

