-- ==== Sys2Proof/Syntax.lean ====
section
/-!
DEFINITION. The instructions of the 80286: one constructor for every row of spec/opcode_table.json, the rows of
prefixes, of undefined encodings and of encodings the source does not list included (spec/30_encoding.md).
Operands are already pulled apart: register numbers are names, a ModRM memory operand is an address form.
-/

namespace Sys2Proof

/-- The eight byte registers (R42). -/
inductive Reg8 | al | cl | dl | bl | ah | ch | dh | bh
  deriving DecidableEq, Repr

/-- The eight word registers (R41). -/
inductive Reg16 | ax | cx | dx | bx | sp | bp | si | di
  deriving DecidableEq, Repr

/-- The four segment registers (R58). -/
inductive SReg | es | cs | ss | ds
  deriving DecidableEq, Repr

/-- The register part of an effective address, one per value of the r/m field (R234). -/
inductive Base | bxsi | bxdi | bpsi | bpdi | si | di | bp | bx
  deriving DecidableEq, Repr

/-- A ModRM memory operand (R233, R234): a direct 16-bit address, or a register part with no, an 8-bit or a
16-bit displacement. `ind bp` has no encoding (its place is the direct form); WellFormed refuses it. -/
inductive Mem
  | direct (d : Word)
  | ind (b : Base)
  | disp8 (b : Base) (d : Byte)
  | disp16 (b : Base) (d : Word)
  deriving DecidableEq, Repr

/-- A byte operand named by ModRM (`eb`, R13). -/
inductive E8
  | reg (r : Reg8)
  | mem (m : Mem)
  deriving DecidableEq, Repr

/-- A word operand named by ModRM (`ew`, R13); also the operand of `m`, `md`, `ed` rows, where the register form
raises #UD (R261), and of ESC, where the register form names no operand (R254). -/
inductive E16
  | reg (r : Reg16)
  | mem (m : Mem)
  deriving DecidableEq, Repr

/-- One constructor per row of spec/opcode_table.json; the docstrings name the row and its rule. The rows with
operands come first. The rows of undefined and unlisted reg fields carry nothing: mod, r/m and what they would call for
bear on nothing (R263). -/
inductive Instr
  /-- `00 /r` ADD eb,rb (R353). -/
  | addEbRb (e : E8) (r : Reg8)
  /-- `01 /r` ADD ew,rw (R353). -/
  | addEwRw (e : E16) (r : Reg16)
  /-- `02 /r` ADD rb,eb (R353). -/
  | addRbEb (r : Reg8) (e : E8)
  /-- `03 /r` ADD rw,ew (R353). -/
  | addRwEw (r : Reg16) (e : E16)
  /-- `04 db` ADD AL,db (R353). -/
  | addAlDb (i : Byte)
  /-- `05 dw` ADD AX,dw (R353). -/
  | addAxDw (i : Word)
  /-- `80 /0 db` ADD eb,db (R353). -/
  | addEbDb (e : E8) (i : Byte)
  /-- `81 /0 dw` ADD ew,dw (R353). -/
  | addEwDw (e : E16) (i : Word)
  /-- `83 /0 db` ADD ew,db (R353). -/
  | addEwDb (e : E16) (i : Byte)
  /-- `08 /r` OR eb,rb (R402). -/
  | orEbRb (e : E8) (r : Reg8)
  /-- `09 /r` OR ew,rw (R402). -/
  | orEwRw (e : E16) (r : Reg16)
  /-- `0A /r` OR rb,eb (R402). -/
  | orRbEb (r : Reg8) (e : E8)
  /-- `0B /r` OR rw,ew (R402). -/
  | orRwEw (r : Reg16) (e : E16)
  /-- `0C db` OR AL,db (R402). -/
  | orAlDb (i : Byte)
  /-- `0D dw` OR AX,dw (R402). -/
  | orAxDw (i : Word)
  /-- `80 /1 db` OR eb,db (R402). -/
  | orEbDb (e : E8) (i : Byte)
  /-- `81 /1 dw` OR ew,dw (R402). -/
  | orEwDw (e : E16) (i : Word)
  /-- `10 /r` ADC eb,rb (R354). -/
  | adcEbRb (e : E8) (r : Reg8)
  /-- `11 /r` ADC ew,rw (R354). -/
  | adcEwRw (e : E16) (r : Reg16)
  /-- `12 /r` ADC rb,eb (R354). -/
  | adcRbEb (r : Reg8) (e : E8)
  /-- `13 /r` ADC rw,ew (R354). -/
  | adcRwEw (r : Reg16) (e : E16)
  /-- `14 db` ADC AL,db (R354). -/
  | adcAlDb (i : Byte)
  /-- `15 dw` ADC AX,dw (R354). -/
  | adcAxDw (i : Word)
  /-- `80 /2 db` ADC eb,db (R354). -/
  | adcEbDb (e : E8) (i : Byte)
  /-- `81 /2 dw` ADC ew,dw (R354). -/
  | adcEwDw (e : E16) (i : Word)
  /-- `83 /2 db` ADC ew,db (R354). -/
  | adcEwDb (e : E16) (i : Byte)
  /-- `18 /r` SBB eb,rb (R357). -/
  | sbbEbRb (e : E8) (r : Reg8)
  /-- `19 /r` SBB ew,rw (R357). -/
  | sbbEwRw (e : E16) (r : Reg16)
  /-- `1A /r` SBB rb,eb (R357). -/
  | sbbRbEb (r : Reg8) (e : E8)
  /-- `1B /r` SBB rw,ew (R357). -/
  | sbbRwEw (r : Reg16) (e : E16)
  /-- `1C db` SBB AL,db (R357). -/
  | sbbAlDb (i : Byte)
  /-- `1D dw` SBB AX,dw (R357). -/
  | sbbAxDw (i : Word)
  /-- `80 /3 db` SBB eb,db (R357). -/
  | sbbEbDb (e : E8) (i : Byte)
  /-- `81 /3 dw` SBB ew,dw (R357). -/
  | sbbEwDw (e : E16) (i : Word)
  /-- `83 /3 db` SBB ew,db (R357). -/
  | sbbEwDb (e : E16) (i : Byte)
  /-- `20 /r` AND eb,rb (R401). -/
  | andEbRb (e : E8) (r : Reg8)
  /-- `21 /r` AND ew,rw (R401). -/
  | andEwRw (e : E16) (r : Reg16)
  /-- `22 /r` AND rb,eb (R401). -/
  | andRbEb (r : Reg8) (e : E8)
  /-- `23 /r` AND rw,ew (R401). -/
  | andRwEw (r : Reg16) (e : E16)
  /-- `24 db` AND AL,db (R401). -/
  | andAlDb (i : Byte)
  /-- `25 dw` AND AX,dw (R401). -/
  | andAxDw (i : Word)
  /-- `80 /4 db` AND eb,db (R401). -/
  | andEbDb (e : E8) (i : Byte)
  /-- `81 /4 dw` AND ew,dw (R401). -/
  | andEwDw (e : E16) (i : Word)
  /-- `28 /r` SUB eb,rb (R356). -/
  | subEbRb (e : E8) (r : Reg8)
  /-- `29 /r` SUB ew,rw (R356). -/
  | subEwRw (e : E16) (r : Reg16)
  /-- `2A /r` SUB rb,eb (R356). -/
  | subRbEb (r : Reg8) (e : E8)
  /-- `2B /r` SUB rw,ew (R356). -/
  | subRwEw (r : Reg16) (e : E16)
  /-- `2C db` SUB AL,db (R356). -/
  | subAlDb (i : Byte)
  /-- `2D dw` SUB AX,dw (R356). -/
  | subAxDw (i : Word)
  /-- `80 /5 db` SUB eb,db (R356). -/
  | subEbDb (e : E8) (i : Byte)
  /-- `81 /5 dw` SUB ew,dw (R356). -/
  | subEwDw (e : E16) (i : Word)
  /-- `83 /5 db` SUB ew,db (R356). -/
  | subEwDb (e : E16) (i : Byte)
  /-- `30 /r` XOR eb,rb (R403). -/
  | xorEbRb (e : E8) (r : Reg8)
  /-- `31 /r` XOR ew,rw (R403). -/
  | xorEwRw (e : E16) (r : Reg16)
  /-- `32 /r` XOR rb,eb (R403). -/
  | xorRbEb (r : Reg8) (e : E8)
  /-- `33 /r` XOR rw,ew (R403). -/
  | xorRwEw (r : Reg16) (e : E16)
  /-- `34 db` XOR AL,db (R403). -/
  | xorAlDb (i : Byte)
  /-- `35 dw` XOR AX,dw (R403). -/
  | xorAxDw (i : Word)
  /-- `80 /6 db` XOR eb,db (R403). -/
  | xorEbDb (e : E8) (i : Byte)
  /-- `81 /6 dw` XOR ew,dw (R403). -/
  | xorEwDw (e : E16) (i : Word)
  /-- `38 /r` CMP eb,rb (R359). -/
  | cmpEbRb (e : E8) (r : Reg8)
  /-- `39 /r` CMP ew,rw (R359). -/
  | cmpEwRw (e : E16) (r : Reg16)
  /-- `3A /r` CMP rb,eb (R359). -/
  | cmpRbEb (r : Reg8) (e : E8)
  /-- `3B /r` CMP rw,ew (R359). -/
  | cmpRwEw (r : Reg16) (e : E16)
  /-- `3C db` CMP AL,db (R359). -/
  | cmpAlDb (i : Byte)
  /-- `3D dw` CMP AX,dw (R359). -/
  | cmpAxDw (i : Word)
  /-- `80 /7 db` CMP eb,db (R359). -/
  | cmpEbDb (e : E8) (i : Byte)
  /-- `81 /7 dw` CMP ew,dw (R359). -/
  | cmpEwDw (e : E16) (i : Word)
  /-- `83 /7 db` CMP ew,db (R359). -/
  | cmpEwDb (e : E16) (i : Byte)
  /-- `40+rw` INC rw (R355). -/
  | incRw (r : Reg16)
  /-- `48+rw` DEC rw (R358). -/
  | decRw (r : Reg16)
  /-- `50+rw` PUSH rw (R313). -/
  | pushRw (r : Reg16)
  /-- `58+rw` POP rw (R318). -/
  | popRw (r : Reg16)
  /-- `62 /r` BOUND rw,md (R654). -/
  | boundRwMd (r : Reg16) (e : E16)
  /-- `63 /r` ARPL ew,rw (R690). -/
  | arplEwRw (e : E16) (r : Reg16)
  /-- `68 dw` PUSH dw (R316). -/
  | pushDw (i : Word)
  /-- `69 /r dw` IMUL rw,ew,dw (R363). -/
  | imulRwEwDw (r : Reg16) (e : E16) (i : Word)
  /-- `6A db` PUSH db (R316). -/
  | pushDb (i : Byte)
  /-- `6B /r db` IMUL rw,ew,db (R363). -/
  | imulRwEwDb (r : Reg16) (e : E16) (i : Byte)
  /-- `70 cb` JO cb (R453). -/
  | jo (d : Byte)
  /-- `71 cb` JNO cb (R453). -/
  | jno (d : Byte)
  /-- `72 cb` JB cb (R453). -/
  | jb (d : Byte)
  /-- `73 cb` JNB cb (R453). -/
  | jnb (d : Byte)
  /-- `74 cb` JE cb (R453). -/
  | je (d : Byte)
  /-- `75 cb` JNE cb (R453). -/
  | jne (d : Byte)
  /-- `76 cb` JBE cb (R453). -/
  | jbe (d : Byte)
  /-- `77 cb` JNBE cb (R453). -/
  | jnbe (d : Byte)
  /-- `78 cb` JS cb (R453). -/
  | js (d : Byte)
  /-- `79 cb` JNS cb (R453). -/
  | jns (d : Byte)
  /-- `7A cb` JP cb (R453). -/
  | jp (d : Byte)
  /-- `7B cb` JNP cb (R453). -/
  | jnp (d : Byte)
  /-- `7C cb` JL cb (R453). -/
  | jl (d : Byte)
  /-- `7D cb` JNL cb (R453). -/
  | jnl (d : Byte)
  /-- `7E cb` JLE cb (R453). -/
  | jle (d : Byte)
  /-- `7F cb` JNLE cb (R453). -/
  | jnle (d : Byte)
  /-- `84 /r` TEST eb,rb (R405). -/
  | testEbRb (e : E8) (r : Reg8)
  /-- `85 /r` TEST ew,rw (R405). -/
  | testEwRw (e : E16) (r : Reg16)
  /-- `86 /r` XCHG eb,rb (R311). -/
  | xchgEbRb (e : E8) (r : Reg8)
  /-- `87 /r` XCHG ew,rw (R311). -/
  | xchgEwRw (e : E16) (r : Reg16)
  /-- `88 /r` MOV eb,rb (R303). -/
  | movEbRb (e : E8) (r : Reg8)
  /-- `89 /r` MOV ew,rw (R303). -/
  | movEwRw (e : E16) (r : Reg16)
  /-- `8A /r` MOV rb,eb (R304). -/
  | movRbEb (r : Reg8) (e : E8)
  /-- `8B /r` MOV rw,ew (R304). -/
  | movRwEw (r : Reg16) (e : E16)
  /-- `8C /0` MOV ew,ES (R305). -/
  | movEwEs (e : E16)
  /-- `8C /1` MOV ew,CS (R305). -/
  | movEwCs (e : E16)
  /-- `8C /2` MOV ew,SS (R305). -/
  | movEwSs (e : E16)
  /-- `8C /3` MOV ew,DS (R305). -/
  | movEwDs (e : E16)
  /-- `8D /r` LEA rw,m (R327). -/
  | leaRwM (r : Reg16) (e : E16)
  /-- `8E /0` MOV ES,ew (R306). -/
  | movEsEw (e : E16)
  /-- `8E /2` MOV SS,ew (R306). -/
  | movSsEw (e : E16)
  /-- `8E /3` MOV DS,ew (R306). -/
  | movDsEw (e : E16)
  /-- `8F /0` POP mw (R320). -/
  | popMw (e : E16)
  /-- `90+rw` XCHG AX,rw (R312). -/
  | xchgAxRw (r : Reg16)
  /-- `9A cd` CALL cd (R467). -/
  | callCd (off : Word) (sel : Word)
  /-- `A0 dw` MOV AL,xb (R307). -/
  | movAlXb (a : Word)
  /-- `A1 dw` MOV AX,xw (R307). -/
  | movAxXw (a : Word)
  /-- `A2 dw` MOV xb,AL (R308). -/
  | movXbAl (a : Word)
  /-- `A3 dw` MOV xw,AX (R308). -/
  | movXwAx (a : Word)
  /-- `A8 db` TEST AL,db (R405). -/
  | testAlDb (i : Byte)
  /-- `A9 dw` TEST AX,dw (R405). -/
  | testAxDw (i : Word)
  /-- `B0+rb db` MOV rb,db (R309). -/
  | movRbDb (r : Reg8) (i : Byte)
  /-- `B8+rw dw` MOV rw,dw (R309). -/
  | movRwDw (r : Reg16) (i : Word)
  /-- `C0 /0 db` ROL eb,db (R430). -/
  | rolEbDb (e : E8) (i : Byte)
  /-- `C0 /1 db` ROR eb,db (R431). -/
  | rorEbDb (e : E8) (i : Byte)
  /-- `C0 /2 db` RCL eb,db (R432). -/
  | rclEbDb (e : E8) (i : Byte)
  /-- `C0 /3 db` RCR eb,db (R433). -/
  | rcrEbDb (e : E8) (i : Byte)
  /-- `C0 /4 db` SAL eb,db (R420). -/
  | salEbDb (e : E8) (i : Byte)
  /-- `C0 /5 db` SHR eb,db (R421). -/
  | shrEbDb (e : E8) (i : Byte)
  /-- `C0 /7 db` SAR eb,db (R422). -/
  | sarEbDb (e : E8) (i : Byte)
  /-- `C1 /0 db` ROL ew,db (R430). -/
  | rolEwDb (e : E16) (i : Byte)
  /-- `C1 /1 db` ROR ew,db (R431). -/
  | rorEwDb (e : E16) (i : Byte)
  /-- `C1 /2 db` RCL ew,db (R432). -/
  | rclEwDb (e : E16) (i : Byte)
  /-- `C1 /3 db` RCR ew,db (R433). -/
  | rcrEwDb (e : E16) (i : Byte)
  /-- `C1 /4 db` SAL ew,db (R420). -/
  | salEwDb (e : E16) (i : Byte)
  /-- `C1 /5 db` SHR ew,db (R421). -/
  | shrEwDb (e : E16) (i : Byte)
  /-- `C1 /7 db` SAR ew,db (R422). -/
  | sarEwDb (e : E16) (i : Byte)
  /-- `D0 /0` ROL eb,1 (R430). -/
  | rolEbOne (e : E8)
  /-- `D0 /1` ROR eb,1 (R431). -/
  | rorEbOne (e : E8)
  /-- `D0 /2` RCL eb,1 (R432). -/
  | rclEbOne (e : E8)
  /-- `D0 /3` RCR eb,1 (R433). -/
  | rcrEbOne (e : E8)
  /-- `D0 /4` SAL eb,1 (R420). -/
  | salEbOne (e : E8)
  /-- `D0 /5` SHR eb,1 (R421). -/
  | shrEbOne (e : E8)
  /-- `D0 /7` SAR eb,1 (R422). -/
  | sarEbOne (e : E8)
  /-- `D1 /0` ROL ew,1 (R430). -/
  | rolEwOne (e : E16)
  /-- `D1 /1` ROR ew,1 (R431). -/
  | rorEwOne (e : E16)
  /-- `D1 /2` RCL ew,1 (R432). -/
  | rclEwOne (e : E16)
  /-- `D1 /3` RCR ew,1 (R433). -/
  | rcrEwOne (e : E16)
  /-- `D1 /4` SAL ew,1 (R420). -/
  | salEwOne (e : E16)
  /-- `D1 /5` SHR ew,1 (R421). -/
  | shrEwOne (e : E16)
  /-- `D1 /7` SAR ew,1 (R422). -/
  | sarEwOne (e : E16)
  /-- `D2 /0` ROL eb,CL (R430). -/
  | rolEbCl (e : E8)
  /-- `D2 /1` ROR eb,CL (R431). -/
  | rorEbCl (e : E8)
  /-- `D2 /2` RCL eb,CL (R432). -/
  | rclEbCl (e : E8)
  /-- `D2 /3` RCR eb,CL (R433). -/
  | rcrEbCl (e : E8)
  /-- `D2 /4` SAL eb,CL (R420). -/
  | salEbCl (e : E8)
  /-- `D2 /5` SHR eb,CL (R421). -/
  | shrEbCl (e : E8)
  /-- `D2 /7` SAR eb,CL (R422). -/
  | sarEbCl (e : E8)
  /-- `D3 /0` ROL ew,CL (R430). -/
  | rolEwCl (e : E16)
  /-- `D3 /1` ROR ew,CL (R431). -/
  | rorEwCl (e : E16)
  /-- `D3 /2` RCL ew,CL (R432). -/
  | rclEwCl (e : E16)
  /-- `D3 /3` RCR ew,CL (R433). -/
  | rcrEwCl (e : E16)
  /-- `D3 /4` SAL ew,CL (R420). -/
  | salEwCl (e : E16)
  /-- `D3 /5` SHR ew,CL (R421). -/
  | shrEwCl (e : E16)
  /-- `D3 /7` SAR ew,CL (R422). -/
  | sarEwCl (e : E16)
  /-- `C2 dw` RET dw (near) (R486). -/
  | retNearDw (i : Word)
  /-- `C4 /r` LES rw,ed (R329). -/
  | lesRwEd (r : Reg16) (e : E16)
  /-- `C5 /r` LDS rw,ed (R328). -/
  | ldsRwEd (r : Reg16) (e : E16)
  /-- `C6 /0 db` MOV eb,db (R310). -/
  | movEbDb (e : E8) (i : Byte)
  /-- `C7 /0 dw` MOV ew,dw (R310). -/
  | movEwDw (e : E16) (i : Word)
  /-- `C8 dw db` ENTER dw,db (R651). -/
  | enterDwDb (size : Word) (level : Byte)
  /-- `CA dw` RET dw (far) (R487). -/
  | retFarDw (i : Word)
  /-- `CD db` INT db (R496). -/
  | intDb (i : Byte)
  /-- `D4 xx, xx != 0A` not listed (R264). -/
  | unlistedD4xx (b : Byte)
  /-- `D5 xx, xx != 0A` not listed (R264). -/
  | unlistedD5xx (b : Byte)
  /-- `D8-DF /r` ESC opcode,ea (R751). -/
  | esc (x : BitVec 3) (y : BitVec 3) (e : E16)
  /-- `E0 cb` LOOPNE cb (R457). -/
  | loopne (d : Byte)
  /-- `E1 cb` LOOPE cb (R456). -/
  | loope (d : Byte)
  /-- `E2 cb` LOOP cb (R455). -/
  | loop (d : Byte)
  /-- `E3 cb` JCXZ cb (R454). -/
  | jcxz (d : Byte)
  /-- `E4 db` IN AL,db (R570). -/
  | inAlDb (i : Byte)
  /-- `E5 db` IN AX,db (R570). -/
  | inAxDb (i : Byte)
  /-- `E6 db` OUT db,AL (R571). -/
  | outDbAl (i : Byte)
  /-- `E7 db` OUT db,AX (R571). -/
  | outDbAx (i : Byte)
  /-- `E8 cw` CALL cw (R465). -/
  | callCw (d : Word)
  /-- `E9 cw` JMP cw (R461). -/
  | jmpCw (d : Word)
  /-- `EA cd` JMP cd (R463). -/
  | jmpCd (off : Word) (sel : Word)
  /-- `EB cb` JMP cb (R460). -/
  | jmpCb (d : Byte)
  /-- `F6 /0 db` TEST eb,db (R405). -/
  | testEbDb (e : E8) (i : Byte)
  /-- `F6 /2` NOT eb (R404). -/
  | notEb (e : E8)
  /-- `F6 /3` NEG eb (R360). -/
  | negEb (e : E8)
  /-- `F6 /4` MUL eb (R361). -/
  | mulEb (e : E8)
  /-- `F6 /5` IMUL eb (R362). -/
  | imulEb (e : E8)
  /-- `F6 /6` DIV eb (R364). -/
  | divEb (e : E8)
  /-- `F6 /7` IDIV eb (R365). -/
  | idivEb (e : E8)
  /-- `F7 /0 dw` TEST ew,dw (R405). -/
  | testEwDw (e : E16) (i : Word)
  /-- `F7 /2` NOT ew (R404). -/
  | notEw (e : E16)
  /-- `F7 /3` NEG ew (R360). -/
  | negEw (e : E16)
  /-- `F7 /4` MUL ew (R361). -/
  | mulEw (e : E16)
  /-- `F7 /5` IMUL ew (R362). -/
  | imulEw (e : E16)
  /-- `F7 /6` DIV ew (R364). -/
  | divEw (e : E16)
  /-- `F7 /7` IDIV ew (R365). -/
  | idivEw (e : E16)
  /-- `FE /0` INC eb (R355). -/
  | incEb (e : E8)
  /-- `FE /1` DEC eb (R358). -/
  | decEb (e : E8)
  /-- `FF /0` INC ew (R355). -/
  | incEw (e : E16)
  /-- `FF /1` DEC ew (R358). -/
  | decEw (e : E16)
  /-- `FF /2` CALL ew (R466). -/
  | callEw (e : E16)
  /-- `FF /3` CALL ed (R468). -/
  | callEd (e : E16)
  /-- `FF /4` JMP ew (R462). -/
  | jmpEw (e : E16)
  /-- `FF /5` JMP ed (R464). -/
  | jmpEd (e : E16)
  /-- `FF /6` PUSH mw (R315). -/
  | pushMw (e : E16)
  /-- `0F 00 /0` SLDT ew (R677). -/
  | sldtEw (e : E16)
  /-- `0F 00 /1` STR ew (R679). -/
  | strEw (e : E16)
  /-- `0F 00 /2` LLDT ew (R676). -/
  | lldtEw (e : E16)
  /-- `0F 00 /3` LTR ew (R678). -/
  | ltrEw (e : E16)
  /-- `0F 00 /4` VERR ew (R693). -/
  | verrEw (e : E16)
  /-- `0F 00 /5` VERW ew (R694). -/
  | verwEw (e : E16)
  /-- `0F 01 /0` SGDT m (R674). -/
  | sgdtM (e : E16)
  /-- `0F 01 /1` SIDT m (R675). -/
  | sidtM (e : E16)
  /-- `0F 01 /2` LGDT m (R672). -/
  | lgdtM (e : E16)
  /-- `0F 01 /3` LIDT m (R673). -/
  | lidtM (e : E16)
  /-- `0F 01 /4` SMSW ew (R681). -/
  | smswEw (e : E16)
  /-- `0F 01 /6` LMSW ew (R680). -/
  | lmswEw (e : E16)
  /-- `0F 02 /r` LAR rw,ew (R691). -/
  | larRwEw (r : Reg16) (e : E16)
  /-- `0F 03 /r` LSL rw,ew (R692). -/
  | lslRwEw (r : Reg16) (e : E16)
  /-- `0F xx, xx = 07H to FFH` undefined (R263). -/
  | undef0Fxx (op2 : Byte)
  /-- `83 /1` not listed (R264). -/
  | unlisted83n1
  /-- `83 /4` not listed (R264). -/
  | unlisted83n4
  /-- `83 /6` not listed (R264). -/
  | unlisted83n6
  /-- `06` PUSH ES (R314). -/
  | pushEs
  /-- `0E` PUSH CS (R314). -/
  | pushCs
  /-- `16` PUSH SS (R314). -/
  | pushSs
  /-- `1E` PUSH DS (R314). -/
  | pushDs
  /-- `07` POP ES (R319). -/
  | popEs
  /-- `17` POP SS (R319). -/
  | popSs
  /-- `1F` POP DS (R319). -/
  | popDs
  /-- `0F` two-byte escape (R230). -/
  | twoByteEscape
  /-- `26` prefix ES (R225). -/
  | prefixEs
  /-- `2E` prefix CS (R225). -/
  | prefixCs
  /-- `36` prefix SS (R225). -/
  | prefixSs
  /-- `3E` prefix DS (R225). -/
  | prefixDs
  /-- `27` DAA (R621). -/
  | daa
  /-- `2F` DAS (R622). -/
  | das
  /-- `37` AAA (R623). -/
  | aaa
  /-- `3F` AAS (R624). -/
  | aas
  /-- `60` PUSHA (R317). -/
  | pusha
  /-- `61` POPA (R321). -/
  | popa
  /-- `64` undefined (R263). -/
  | undef64
  /-- `65` undefined (R263). -/
  | undef65
  /-- `66` undefined (R263). -/
  | undef66
  /-- `67` undefined (R263). -/
  | undef67
  /-- `6C` INS eb,DX (R565). -/
  | insb
  /-- `6D` INS ew,DX (R565). -/
  | insw
  /-- `6E` OUTS DX,eb (R566). -/
  | outsb
  /-- `6F` OUTS DX,ew (R566). -/
  | outsw
  /-- `82` not listed (R264). -/
  | unlisted82
  /-- `8C /4 to /7` not listed (R264). -/
  | unlisted8Chi
  /-- `8E /1` undefined (R262). -/
  | undef8En1
  /-- `8E /4 to /7` not listed (R264). -/
  | unlisted8Ehi
  /-- `8F /1` undefined (R252). -/
  | undef8Fn1
  /-- `8F /2` undefined (R252). -/
  | undef8Fn2
  /-- `8F /3` undefined (R252). -/
  | undef8Fn3
  /-- `8F /4` undefined (R252). -/
  | undef8Fn4
  /-- `8F /5` undefined (R252). -/
  | undef8Fn5
  /-- `8F /6` undefined (R252). -/
  | undef8Fn6
  /-- `8F /7` undefined (R252). -/
  | undef8Fn7
  /-- `90` NOP (R610). -/
  | nop
  /-- `98` CBW (R366). -/
  | cbw
  /-- `99` CWD (R367). -/
  | cwd
  /-- `9B` WAIT (R752). -/
  | wait
  /-- `9C` PUSHF (R322). -/
  | pushf
  /-- `9D` POPF (R323). -/
  | popf
  /-- `9E` SAHF (R325). -/
  | sahf
  /-- `9F` LAHF (R324). -/
  | lahf
  /-- `A4` MOVS mb,mb (R560). -/
  | movsb
  /-- `A5` MOVS mw,mw (R560). -/
  | movsw
  /-- `A6` CMPS mb,mb (R561). -/
  | cmpsb
  /-- `A7` CMPS mw,mw (R561). -/
  | cmpsw
  /-- `AA` STOS mb (R564). -/
  | stosb
  /-- `AB` STOS mw (R564). -/
  | stosw
  /-- `AC` LODS mb (R563). -/
  | lodsb
  /-- `AD` LODS mw (R563). -/
  | lodsw
  /-- `AE` SCAS mb (R562). -/
  | scasb
  /-- `AF` SCAS mw (R562). -/
  | scasw
  /-- `C0 /6` not listed (R264). -/
  | unlistedC0n6
  /-- `C1 /6` not listed (R264). -/
  | unlistedC1n6
  /-- `D0 /6` not listed (R264). -/
  | unlistedD0n6
  /-- `D1 /6` not listed (R264). -/
  | unlistedD1n6
  /-- `D2 /6` not listed (R264). -/
  | unlistedD2n6
  /-- `D3 /6` not listed (R264). -/
  | unlistedD3n6
  /-- `C3` RET (near) (R485). -/
  | retNear
  /-- `C6 /1` undefined (R263). -/
  | undefC6n1
  /-- `C6 /2` undefined (R263). -/
  | undefC6n2
  /-- `C6 /3` undefined (R263). -/
  | undefC6n3
  /-- `C6 /4` undefined (R263). -/
  | undefC6n4
  /-- `C6 /5` undefined (R263). -/
  | undefC6n5
  /-- `C6 /6` undefined (R263). -/
  | undefC6n6
  /-- `C6 /7` undefined (R263). -/
  | undefC6n7
  /-- `C7 /1` undefined (R263). -/
  | undefC7n1
  /-- `C7 /2` undefined (R263). -/
  | undefC7n2
  /-- `C7 /3` undefined (R263). -/
  | undefC7n3
  /-- `C7 /4` undefined (R263). -/
  | undefC7n4
  /-- `C7 /5` undefined (R263). -/
  | undefC7n5
  /-- `C7 /6` undefined (R263). -/
  | undefC7n6
  /-- `C7 /7` undefined (R263). -/
  | undefC7n7
  /-- `C9` LEAVE (R653). -/
  | leave
  /-- `CB` RET (far) (R487). -/
  | retFar
  /-- `CC` INT 3 (R495). -/
  | int3
  /-- `CE` INTO (R497). -/
  | into
  /-- `CF` IRET (R500). -/
  | iret
  /-- `D4 0A` AAM (R625). -/
  | aam
  /-- `D5 0A` AAD (R626). -/
  | aad
  /-- `D6` not listed (R264). -/
  | unlistedD6
  /-- `D7` XLAT mb (R326). -/
  | xlat
  /-- `EC` IN AL,DX (R570). -/
  | inAlDx
  /-- `ED` IN AX,DX (R570). -/
  | inAxDx
  /-- `EE` OUT DX,AL (R571). -/
  | outDxAl
  /-- `EF` OUT DX,AX (R571). -/
  | outDxAx
  /-- `F0` prefix LOCK (R608). -/
  | prefixLock
  /-- `F1` not listed (R264). -/
  | unlistedF1
  /-- `F2` prefix REPNE (R551). -/
  | prefixRepne
  /-- `F3` prefix REP (R551). -/
  | prefixRep
  /-- `F4` HLT (R609). -/
  | hlt
  /-- `F5` CMC (R603). -/
  | cmc
  /-- `F6 /1` undefined (R368). -/
  | undefF6n1
  /-- `F7 /1` undefined (R368). -/
  | undefF7n1
  /-- `F8` CLC (R601). -/
  | clc
  /-- `F9` STC (R602). -/
  | stc
  /-- `FA` CLI (R606). -/
  | cli
  /-- `FB` STI (R607). -/
  | sti
  /-- `FC` CLD (R604). -/
  | cld
  /-- `FD` STD (R605). -/
  | std
  /-- `FE /2` undefined (R263). -/
  | undefFEn2
  /-- `FE /3` undefined (R263). -/
  | undefFEn3
  /-- `FE /4` undefined (R263). -/
  | undefFEn4
  /-- `FE /5` undefined (R263). -/
  | undefFEn5
  /-- `FE /6` undefined (R263). -/
  | undefFEn6
  /-- `FE /7` undefined (R263). -/
  | undefFEn7
  /-- `FF /7` undefined (R252). -/
  | undefFFn7
  /-- `0F 00 /6` undefined (R263). -/
  | undef0F00n6
  /-- `0F 00 /7` undefined (R263). -/
  | undef0F00n7
  /-- `0F 01 /5` undefined (R263). -/
  | undef0F01n5
  /-- `0F 01 /7` undefined (R263). -/
  | undef0F01n7
  /-- `0F 04` not listed (R264). -/
  | unlisted0F04
  /-- `0F 05` not listed (R264). -/
  | unlisted0F05
  /-- `0F 06` CLTS (R682). -/
  | clts
  deriving DecidableEq, Repr

end Sys2Proof
end

