-- ==== Sys2Proof/WellFormed.lean ====
section
/-!
DEFINITION. The instructions that have an encoding (spec/30_encoding.md R233, R234, R240, R263, R264).
-/

namespace Sys2Proof

/-- A memory operand with an encoding: [BP] alone has none, its place is the direct form (R233, R234). -/
def Mem.wf : Mem → Bool
  | .direct _ => true
  | .ind b => b != .bp
  | .disp8 _ _ => true
  | .disp16 _ _ => true

/-- A byte operand with an encoding. -/
def E8.wf : E8 → Bool
  | .reg _ => true
  | .mem m => m.wf

/-- A word operand with an encoding. -/
def E16.wf : E16 → Bool
  | .reg _ => true
  | .mem m => m.wf

/-- An instruction with an encoding of its own: operands with an encoding, no `xchgAxRw ax` (90H is NOP, R240), no second
byte that another row owns (R253, R264). -/
def Instr.wf : Instr → Bool
  | .addEbRb e _ => e.wf
  | .addEwRw e _ => e.wf
  | .addRbEb _ e => e.wf
  | .addRwEw _ e => e.wf
  | .addAlDb _ => true
  | .addAxDw _ => true
  | .addEbDb e _ => e.wf
  | .addEwDw e _ => e.wf
  | .addEwDb e _ => e.wf
  | .orEbRb e _ => e.wf
  | .orEwRw e _ => e.wf
  | .orRbEb _ e => e.wf
  | .orRwEw _ e => e.wf
  | .orAlDb _ => true
  | .orAxDw _ => true
  | .orEbDb e _ => e.wf
  | .orEwDw e _ => e.wf
  | .adcEbRb e _ => e.wf
  | .adcEwRw e _ => e.wf
  | .adcRbEb _ e => e.wf
  | .adcRwEw _ e => e.wf
  | .adcAlDb _ => true
  | .adcAxDw _ => true
  | .adcEbDb e _ => e.wf
  | .adcEwDw e _ => e.wf
  | .adcEwDb e _ => e.wf
  | .sbbEbRb e _ => e.wf
  | .sbbEwRw e _ => e.wf
  | .sbbRbEb _ e => e.wf
  | .sbbRwEw _ e => e.wf
  | .sbbAlDb _ => true
  | .sbbAxDw _ => true
  | .sbbEbDb e _ => e.wf
  | .sbbEwDw e _ => e.wf
  | .sbbEwDb e _ => e.wf
  | .andEbRb e _ => e.wf
  | .andEwRw e _ => e.wf
  | .andRbEb _ e => e.wf
  | .andRwEw _ e => e.wf
  | .andAlDb _ => true
  | .andAxDw _ => true
  | .andEbDb e _ => e.wf
  | .andEwDw e _ => e.wf
  | .subEbRb e _ => e.wf
  | .subEwRw e _ => e.wf
  | .subRbEb _ e => e.wf
  | .subRwEw _ e => e.wf
  | .subAlDb _ => true
  | .subAxDw _ => true
  | .subEbDb e _ => e.wf
  | .subEwDw e _ => e.wf
  | .subEwDb e _ => e.wf
  | .xorEbRb e _ => e.wf
  | .xorEwRw e _ => e.wf
  | .xorRbEb _ e => e.wf
  | .xorRwEw _ e => e.wf
  | .xorAlDb _ => true
  | .xorAxDw _ => true
  | .xorEbDb e _ => e.wf
  | .xorEwDw e _ => e.wf
  | .cmpEbRb e _ => e.wf
  | .cmpEwRw e _ => e.wf
  | .cmpRbEb _ e => e.wf
  | .cmpRwEw _ e => e.wf
  | .cmpAlDb _ => true
  | .cmpAxDw _ => true
  | .cmpEbDb e _ => e.wf
  | .cmpEwDw e _ => e.wf
  | .cmpEwDb e _ => e.wf
  | .incRw _ => true
  | .decRw _ => true
  | .pushRw _ => true
  | .popRw _ => true
  | .boundRwMd _ e => e.wf
  | .arplEwRw e _ => e.wf
  | .pushDw _ => true
  | .imulRwEwDw _ e _ => e.wf
  | .pushDb _ => true
  | .imulRwEwDb _ e _ => e.wf
  | .jo _ => true
  | .jno _ => true
  | .jb _ => true
  | .jnb _ => true
  | .je _ => true
  | .jne _ => true
  | .jbe _ => true
  | .jnbe _ => true
  | .js _ => true
  | .jns _ => true
  | .jp _ => true
  | .jnp _ => true
  | .jl _ => true
  | .jnl _ => true
  | .jle _ => true
  | .jnle _ => true
  | .testEbRb e _ => e.wf
  | .testEwRw e _ => e.wf
  | .xchgEbRb e _ => e.wf
  | .xchgEwRw e _ => e.wf
  | .movEbRb e _ => e.wf
  | .movEwRw e _ => e.wf
  | .movRbEb _ e => e.wf
  | .movRwEw _ e => e.wf
  | .movEwEs e => e.wf
  | .movEwCs e => e.wf
  | .movEwSs e => e.wf
  | .movEwDs e => e.wf
  | .leaRwM _ e => e.wf
  | .movEsEw e => e.wf
  | .movSsEw e => e.wf
  | .movDsEw e => e.wf
  | .popMw e => e.wf
  | .xchgAxRw r => r != .ax
  | .callCd _ _ => true
  | .movAlXb _ => true
  | .movAxXw _ => true
  | .movXbAl _ => true
  | .movXwAx _ => true
  | .testAlDb _ => true
  | .testAxDw _ => true
  | .movRbDb _ _ => true
  | .movRwDw _ _ => true
  | .rolEbDb e _ => e.wf
  | .rorEbDb e _ => e.wf
  | .rclEbDb e _ => e.wf
  | .rcrEbDb e _ => e.wf
  | .salEbDb e _ => e.wf
  | .shrEbDb e _ => e.wf
  | .sarEbDb e _ => e.wf
  | .rolEwDb e _ => e.wf
  | .rorEwDb e _ => e.wf
  | .rclEwDb e _ => e.wf
  | .rcrEwDb e _ => e.wf
  | .salEwDb e _ => e.wf
  | .shrEwDb e _ => e.wf
  | .sarEwDb e _ => e.wf
  | .rolEbOne e => e.wf
  | .rorEbOne e => e.wf
  | .rclEbOne e => e.wf
  | .rcrEbOne e => e.wf
  | .salEbOne e => e.wf
  | .shrEbOne e => e.wf
  | .sarEbOne e => e.wf
  | .rolEwOne e => e.wf
  | .rorEwOne e => e.wf
  | .rclEwOne e => e.wf
  | .rcrEwOne e => e.wf
  | .salEwOne e => e.wf
  | .shrEwOne e => e.wf
  | .sarEwOne e => e.wf
  | .rolEbCl e => e.wf
  | .rorEbCl e => e.wf
  | .rclEbCl e => e.wf
  | .rcrEbCl e => e.wf
  | .salEbCl e => e.wf
  | .shrEbCl e => e.wf
  | .sarEbCl e => e.wf
  | .rolEwCl e => e.wf
  | .rorEwCl e => e.wf
  | .rclEwCl e => e.wf
  | .rcrEwCl e => e.wf
  | .salEwCl e => e.wf
  | .shrEwCl e => e.wf
  | .sarEwCl e => e.wf
  | .retNearDw _ => true
  | .lesRwEd _ e => e.wf
  | .ldsRwEd _ e => e.wf
  | .movEbDb e _ => e.wf
  | .movEwDw e _ => e.wf
  | .enterDwDb _ _ => true
  | .retFarDw _ => true
  | .intDb _ => true
  | .unlistedD4xx b => b != 0x0A
  | .unlistedD5xx b => b != 0x0A
  | .esc _ _ e => e.wf
  | .loopne _ => true
  | .loope _ => true
  | .loop _ => true
  | .jcxz _ => true
  | .inAlDb _ => true
  | .inAxDb _ => true
  | .outDbAl _ => true
  | .outDbAx _ => true
  | .callCw _ => true
  | .jmpCw _ => true
  | .jmpCd _ _ => true
  | .jmpCb _ => true
  | .testEbDb e _ => e.wf
  | .notEb e => e.wf
  | .negEb e => e.wf
  | .mulEb e => e.wf
  | .imulEb e => e.wf
  | .divEb e => e.wf
  | .idivEb e => e.wf
  | .testEwDw e _ => e.wf
  | .notEw e => e.wf
  | .negEw e => e.wf
  | .mulEw e => e.wf
  | .imulEw e => e.wf
  | .divEw e => e.wf
  | .idivEw e => e.wf
  | .incEb e => e.wf
  | .decEb e => e.wf
  | .incEw e => e.wf
  | .decEw e => e.wf
  | .callEw e => e.wf
  | .callEd e => e.wf
  | .jmpEw e => e.wf
  | .jmpEd e => e.wf
  | .pushMw e => e.wf
  | .sldtEw e => e.wf
  | .strEw e => e.wf
  | .lldtEw e => e.wf
  | .ltrEw e => e.wf
  | .verrEw e => e.wf
  | .verwEw e => e.wf
  | .sgdtM e => e.wf
  | .sidtM e => e.wf
  | .lgdtM e => e.wf
  | .lidtM e => e.wf
  | .smswEw e => e.wf
  | .lmswEw e => e.wf
  | .larRwEw _ e => e.wf
  | .lslRwEw _ e => e.wf
  | .undef0Fxx op2 => decide (7 ≤ op2.toNat)
  | .unlisted83n1 => true
  | .unlisted83n4 => true
  | .unlisted83n6 => true
  | .pushEs => true
  | .pushCs => true
  | .pushSs => true
  | .pushDs => true
  | .popEs => true
  | .popSs => true
  | .popDs => true
  | .twoByteEscape => true
  | .prefixEs => true
  | .prefixCs => true
  | .prefixSs => true
  | .prefixDs => true
  | .daa => true
  | .das => true
  | .aaa => true
  | .aas => true
  | .pusha => true
  | .popa => true
  | .undef64 => true
  | .undef65 => true
  | .undef66 => true
  | .undef67 => true
  | .insb => true
  | .insw => true
  | .outsb => true
  | .outsw => true
  | .unlisted82 => true
  | .unlisted8Chi => true
  | .undef8En1 => true
  | .unlisted8Ehi => true
  | .undef8Fn1 => true
  | .undef8Fn2 => true
  | .undef8Fn3 => true
  | .undef8Fn4 => true
  | .undef8Fn5 => true
  | .undef8Fn6 => true
  | .undef8Fn7 => true
  | .nop => true
  | .cbw => true
  | .cwd => true
  | .wait => true
  | .pushf => true
  | .popf => true
  | .sahf => true
  | .lahf => true
  | .movsb => true
  | .movsw => true
  | .cmpsb => true
  | .cmpsw => true
  | .stosb => true
  | .stosw => true
  | .lodsb => true
  | .lodsw => true
  | .scasb => true
  | .scasw => true
  | .unlistedC0n6 => true
  | .unlistedC1n6 => true
  | .unlistedD0n6 => true
  | .unlistedD1n6 => true
  | .unlistedD2n6 => true
  | .unlistedD3n6 => true
  | .retNear => true
  | .undefC6n1 => true
  | .undefC6n2 => true
  | .undefC6n3 => true
  | .undefC6n4 => true
  | .undefC6n5 => true
  | .undefC6n6 => true
  | .undefC6n7 => true
  | .undefC7n1 => true
  | .undefC7n2 => true
  | .undefC7n3 => true
  | .undefC7n4 => true
  | .undefC7n5 => true
  | .undefC7n6 => true
  | .undefC7n7 => true
  | .leave => true
  | .retFar => true
  | .int3 => true
  | .into => true
  | .iret => true
  | .aam => true
  | .aad => true
  | .unlistedD6 => true
  | .xlat => true
  | .inAlDx => true
  | .inAxDx => true
  | .outDxAl => true
  | .outDxAx => true
  | .prefixLock => true
  | .unlistedF1 => true
  | .prefixRepne => true
  | .prefixRep => true
  | .hlt => true
  | .cmc => true
  | .undefF6n1 => true
  | .undefF7n1 => true
  | .clc => true
  | .stc => true
  | .cli => true
  | .sti => true
  | .cld => true
  | .std => true
  | .undefFEn2 => true
  | .undefFEn3 => true
  | .undefFEn4 => true
  | .undefFEn5 => true
  | .undefFEn6 => true
  | .undefFEn7 => true
  | .undefFFn7 => true
  | .undef0F00n6 => true
  | .undef0F00n7 => true
  | .undef0F01n5 => true
  | .undef0F01n7 => true
  | .unlisted0F04 => true
  | .unlisted0F05 => true
  | .clts => true

end Sys2Proof
end

