-- ==== Sys2Proof/Decode.lean ====
section
/-!
DEFINITION. The decoder, total on any bytes, and after it the encoder, both from the encoding tables of
spec/30_encoding.md (R220-R264). The decoder reads one element: a prefix byte, or an instruction without its prefixes.
Its one rejection is `truncated`: the bytes end inside the element; every other byte sequence is some row's.
-/

namespace Sys2Proof

/-- Register numbers of the word registers (R232). -/
def Reg16.code : Reg16 → BitVec 3
  | .ax => 0
  | .cx => 1
  | .dx => 2
  | .bx => 3
  | .sp => 4
  | .bp => 5
  | .si => 6
  | .di => 7

/-- The word register of a number (R232). -/
def Reg16.ofCode (c : BitVec 3) : Reg16 :=
  match c.toNat with
  | 0 => .ax
  | 1 => .cx
  | 2 => .dx
  | 3 => .bx
  | 4 => .sp
  | 5 => .bp
  | 6 => .si
  | _ => .di

/-- Register numbers of the byte registers (R232). -/
def Reg8.code : Reg8 → BitVec 3
  | .al => 0
  | .cl => 1
  | .dl => 2
  | .bl => 3
  | .ah => 4
  | .ch => 5
  | .dh => 6
  | .bh => 7

/-- The byte register of a number (R232). -/
def Reg8.ofCode (c : BitVec 3) : Reg8 :=
  match c.toNat with
  | 0 => .al
  | 1 => .cl
  | 2 => .dl
  | 3 => .bl
  | 4 => .ah
  | 5 => .ch
  | 6 => .dh
  | _ => .bh

/-- The r/m values of the address forms (R234). -/
def Base.code : Base → BitVec 3
  | .bxsi => 0
  | .bxdi => 1
  | .bpsi => 2
  | .bpdi => 3
  | .si => 4
  | .di => 5
  | .bp => 6
  | .bx => 7

/-- The address form of an r/m value (R234). -/
def Base.ofCode (c : BitVec 3) : Base :=
  match c.toNat with
  | 0 => .bxsi
  | 1 => .bxdi
  | 2 => .bpsi
  | 3 => .bpdi
  | 4 => .si
  | 5 => .di
  | 6 => .bp
  | _ => .bx

/-- Why bytes are no instruction. -/
inductive DecodeError
  /-- The bytes end before the instruction does. -/
  | truncated
  deriving DecidableEq, Repr

/-- What the decoder answers: the element and the bytes behind it. -/
abbrev Decoded := Except DecodeError (Instr × List Byte)

/-- A reader of bytes. -/
abbrev Parse := List Byte → Decoded

/-- Nothing more to read. -/
def one (i : Instr) : Parse := fun bs => .ok (i, bs)

/-- `Fetch8` (R221). -/
def take8 (k : Byte → Parse) : Parse
  | [] => .error .truncated
  | b :: bs => k b bs

/-- `Fetch16`: low byte first (R221). -/
def take16 (k : Word → Parse) : Parse := take8 fun lo => take8 fun hi => k (Word.ofBytes lo hi)

/-- The ModRM byte: mod, reg and r/m (R231). -/
def modRM (k : BitVec 2 → BitVec 3 → BitVec 3 → Parse) : Parse :=
  take8 fun b => k (b.extractLsb' 6 2) (b.extractLsb' 3 3) (b.extractLsb' 0 3)

/-- The memory operand of a ModRM byte whose mod is not 3, with its displacement (R233, R234). -/
def takeMem (m : BitVec 2) (r : BitVec 3) (k : Mem → Parse) : Parse :=
  match m.toNat with
  | 0 => if r = 6 then take16 fun d => k (.direct d) else k (.ind (Base.ofCode r))
  | 1 => take8 fun d => k (.disp8 (Base.ofCode r) d)
  | _ => take16 fun d => k (.disp16 (Base.ofCode r) d)

/-- The byte operand of a ModRM byte (R232-R234). -/
def takeE8 (m : BitVec 2) (r : BitVec 3) (k : E8 → Parse) : Parse :=
  if m = 3 then k (.reg (Reg8.ofCode r)) else takeMem m r fun e => k (.mem e)

/-- The word operand of a ModRM byte (R232-R234). -/
def takeE16 (m : BitVec 2) (r : BitVec 3) (k : E16 → Parse) : Parse :=
  if m = 3 then k (.reg (Reg16.ofCode r)) else takeMem m r fun e => k (.mem e)

/-- `/r` with a byte operand and a byte register. -/
def rmE8 (k : E8 → Reg8 → Instr) : Parse := modRM fun m n r => takeE8 m r fun e => one (k e (Reg8.ofCode n))

/-- `/r` with a word operand and a word register. -/
def rmE16 (k : E16 → Reg16 → Instr) : Parse := modRM fun m n r => takeE16 m r fun e => one (k e (Reg16.ofCode n))

/-- `/r` with a word operand, a word register and what follows. -/
def rmE16Then (k : E16 → Reg16 → Parse) : Parse := modRM fun m n r => takeE16 m r fun e => k e (Reg16.ofCode n)

/-- `db` or `cb`. -/
def imm8 (k : Byte → Instr) : Parse := take8 fun i => one (k i)

/-- `dw` or `cw`. -/
def imm16 (k : Word → Instr) : Parse := take16 fun i => one (k i)

/-- `cd`: the offset, then the selector (R239). -/
def imm32 (k : Word → Word → Instr) : Parse := take16 fun o => take16 fun s => one (k o s)

/-- The choice a `/n` opcode makes by its reg field: from that field as a number, mod and r/m (R251). -/
abbrev Group := Nat → BitVec 2 → BitVec 3 → Parse

/-- A `/n` opcode (R251). -/
def group (g : Group) : Parse := modRM fun m n r => g n.toNat m r

/-- `/n` with a byte operand. -/
def opE8 (k : E8 → Instr) (m : BitVec 2) (r : BitVec 3) : Parse := takeE8 m r fun e => one (k e)

/-- `/n` with a word operand. -/
def opE16 (k : E16 → Instr) (m : BitVec 2) (r : BitVec 3) : Parse := takeE16 m r fun e => one (k e)

/-- `/n db` with a byte operand. -/
def opE8Imm8 (k : E8 → Byte → Instr) (m : BitVec 2) (r : BitVec 3) : Parse := takeE8 m r fun e => imm8 (k e)

/-- `/n db` with a word operand. -/
def opE16Imm8 (k : E16 → Byte → Instr) (m : BitVec 2) (r : BitVec 3) : Parse := takeE16 m r fun e => imm8 (k e)

/-- `/n dw` with a word operand. -/
def opE16Imm16 (k : E16 → Word → Instr) (m : BitVec 2) (r : BitVec 3) : Parse := takeE16 m r fun e => imm16 (k e)

/-- A reg field that names no instruction: no displacement is fetched (R263). -/
def bad (i : Instr) (_m : BitVec 2) (_r : BitVec 3) : Parse := one i

/-- The reg field of `80 /n` (R251). -/
def group80 : Group
  | 0 => opE8Imm8 .addEbDb
  | 1 => opE8Imm8 .orEbDb
  | 2 => opE8Imm8 .adcEbDb
  | 3 => opE8Imm8 .sbbEbDb
  | 4 => opE8Imm8 .andEbDb
  | 5 => opE8Imm8 .subEbDb
  | 6 => opE8Imm8 .xorEbDb
  | _ => opE8Imm8 .cmpEbDb

/-- The reg field of `81 /n` (R251). -/
def group81 : Group
  | 0 => opE16Imm16 .addEwDw
  | 1 => opE16Imm16 .orEwDw
  | 2 => opE16Imm16 .adcEwDw
  | 3 => opE16Imm16 .sbbEwDw
  | 4 => opE16Imm16 .andEwDw
  | 5 => opE16Imm16 .subEwDw
  | 6 => opE16Imm16 .xorEwDw
  | _ => opE16Imm16 .cmpEwDw

/-- The reg field of `83 /n` (R251). -/
def group83 : Group
  | 0 => opE16Imm8 .addEwDb
  | 1 => bad .unlisted83n1
  | 2 => opE16Imm8 .adcEwDb
  | 3 => opE16Imm8 .sbbEwDb
  | 4 => bad .unlisted83n4
  | 5 => opE16Imm8 .subEwDb
  | 6 => bad .unlisted83n6
  | _ => opE16Imm8 .cmpEwDb

/-- The reg field of `8C /n` (R251). -/
def group8C : Group
  | 0 => opE16 .movEwEs
  | 1 => opE16 .movEwCs
  | 2 => opE16 .movEwSs
  | 3 => opE16 .movEwDs
  | 4 => bad .unlisted8Chi
  | 5 => bad .unlisted8Chi
  | 6 => bad .unlisted8Chi
  | _ => bad .unlisted8Chi

/-- The reg field of `8E /n` (R251). -/
def group8E : Group
  | 0 => opE16 .movEsEw
  | 1 => bad .undef8En1
  | 2 => opE16 .movSsEw
  | 3 => opE16 .movDsEw
  | 4 => bad .unlisted8Ehi
  | 5 => bad .unlisted8Ehi
  | 6 => bad .unlisted8Ehi
  | _ => bad .unlisted8Ehi

/-- The reg field of `8F /n` (R251). -/
def group8F : Group
  | 0 => opE16 .popMw
  | 1 => bad .undef8Fn1
  | 2 => bad .undef8Fn2
  | 3 => bad .undef8Fn3
  | 4 => bad .undef8Fn4
  | 5 => bad .undef8Fn5
  | 6 => bad .undef8Fn6
  | _ => bad .undef8Fn7

/-- The reg field of `C0 /n` (R251). -/
def groupC0 : Group
  | 0 => opE8Imm8 .rolEbDb
  | 1 => opE8Imm8 .rorEbDb
  | 2 => opE8Imm8 .rclEbDb
  | 3 => opE8Imm8 .rcrEbDb
  | 4 => opE8Imm8 .salEbDb
  | 5 => opE8Imm8 .shrEbDb
  | 6 => bad .unlistedC0n6
  | _ => opE8Imm8 .sarEbDb

/-- The reg field of `C1 /n` (R251). -/
def groupC1 : Group
  | 0 => opE16Imm8 .rolEwDb
  | 1 => opE16Imm8 .rorEwDb
  | 2 => opE16Imm8 .rclEwDb
  | 3 => opE16Imm8 .rcrEwDb
  | 4 => opE16Imm8 .salEwDb
  | 5 => opE16Imm8 .shrEwDb
  | 6 => bad .unlistedC1n6
  | _ => opE16Imm8 .sarEwDb

/-- The reg field of `D0 /n` (R251). -/
def groupD0 : Group
  | 0 => opE8 .rolEbOne
  | 1 => opE8 .rorEbOne
  | 2 => opE8 .rclEbOne
  | 3 => opE8 .rcrEbOne
  | 4 => opE8 .salEbOne
  | 5 => opE8 .shrEbOne
  | 6 => bad .unlistedD0n6
  | _ => opE8 .sarEbOne

/-- The reg field of `D1 /n` (R251). -/
def groupD1 : Group
  | 0 => opE16 .rolEwOne
  | 1 => opE16 .rorEwOne
  | 2 => opE16 .rclEwOne
  | 3 => opE16 .rcrEwOne
  | 4 => opE16 .salEwOne
  | 5 => opE16 .shrEwOne
  | 6 => bad .unlistedD1n6
  | _ => opE16 .sarEwOne

/-- The reg field of `D2 /n` (R251). -/
def groupD2 : Group
  | 0 => opE8 .rolEbCl
  | 1 => opE8 .rorEbCl
  | 2 => opE8 .rclEbCl
  | 3 => opE8 .rcrEbCl
  | 4 => opE8 .salEbCl
  | 5 => opE8 .shrEbCl
  | 6 => bad .unlistedD2n6
  | _ => opE8 .sarEbCl

/-- The reg field of `D3 /n` (R251). -/
def groupD3 : Group
  | 0 => opE16 .rolEwCl
  | 1 => opE16 .rorEwCl
  | 2 => opE16 .rclEwCl
  | 3 => opE16 .rcrEwCl
  | 4 => opE16 .salEwCl
  | 5 => opE16 .shrEwCl
  | 6 => bad .unlistedD3n6
  | _ => opE16 .sarEwCl

/-- The reg field of `C6 /n` (R251). -/
def groupC6 : Group
  | 0 => opE8Imm8 .movEbDb
  | 1 => bad .undefC6n1
  | 2 => bad .undefC6n2
  | 3 => bad .undefC6n3
  | 4 => bad .undefC6n4
  | 5 => bad .undefC6n5
  | 6 => bad .undefC6n6
  | _ => bad .undefC6n7

/-- The reg field of `C7 /n` (R251). -/
def groupC7 : Group
  | 0 => opE16Imm16 .movEwDw
  | 1 => bad .undefC7n1
  | 2 => bad .undefC7n2
  | 3 => bad .undefC7n3
  | 4 => bad .undefC7n4
  | 5 => bad .undefC7n5
  | 6 => bad .undefC7n6
  | _ => bad .undefC7n7

/-- The reg field of `F6 /n` (R251). -/
def groupF6 : Group
  | 0 => opE8Imm8 .testEbDb
  | 1 => bad .undefF6n1
  | 2 => opE8 .notEb
  | 3 => opE8 .negEb
  | 4 => opE8 .mulEb
  | 5 => opE8 .imulEb
  | 6 => opE8 .divEb
  | _ => opE8 .idivEb

/-- The reg field of `F7 /n` (R251). -/
def groupF7 : Group
  | 0 => opE16Imm16 .testEwDw
  | 1 => bad .undefF7n1
  | 2 => opE16 .notEw
  | 3 => opE16 .negEw
  | 4 => opE16 .mulEw
  | 5 => opE16 .imulEw
  | 6 => opE16 .divEw
  | _ => opE16 .idivEw

/-- The reg field of `FE /n` (R251). -/
def groupFE : Group
  | 0 => opE8 .incEb
  | 1 => opE8 .decEb
  | 2 => bad .undefFEn2
  | 3 => bad .undefFEn3
  | 4 => bad .undefFEn4
  | 5 => bad .undefFEn5
  | 6 => bad .undefFEn6
  | _ => bad .undefFEn7

/-- The reg field of `FF /n` (R251). -/
def groupFF : Group
  | 0 => opE16 .incEw
  | 1 => opE16 .decEw
  | 2 => opE16 .callEw
  | 3 => opE16 .callEd
  | 4 => opE16 .jmpEw
  | 5 => opE16 .jmpEd
  | 6 => opE16 .pushMw
  | _ => bad .undefFFn7

/-- The reg field of `0F 00 /n` (R251, R253). -/
def group0F00 : Group
  | 0 => opE16 .sldtEw
  | 1 => opE16 .strEw
  | 2 => opE16 .lldtEw
  | 3 => opE16 .ltrEw
  | 4 => opE16 .verrEw
  | 5 => opE16 .verwEw
  | 6 => bad .undef0F00n6
  | _ => bad .undef0F00n7

/-- The reg field of `0F 01 /n` (R251, R253). -/
def group0F01 : Group
  | 0 => opE16 .sgdtM
  | 1 => opE16 .sidtM
  | 2 => opE16 .lgdtM
  | 3 => opE16 .lidtM
  | 4 => opE16 .smswEw
  | 5 => bad .undef0F01n5
  | 6 => opE16 .lmswEw
  | _ => bad .undef0F01n7

/-- The second byte of the two-byte opcodes; without one, the escape stands alone (R230, R253, R263, R264). -/
def decode0F : Parse
  | [] => .ok (.twoByteEscape, [])
  | b :: bs =>
    match b.toNat with
    | 0 => (group group0F00) bs
    | 1 => (group group0F01) bs
    | 2 => (rmE16 fun e r => .larRwEw r e) bs
    | 3 => (rmE16 fun e r => .lslRwEw r e) bs
    | 4 => (one .unlisted0F04) bs
    | 5 => (one .unlisted0F05) bs
    | 6 => (one .clts) bs
    | _ => .ok (.undef0Fxx b, bs)

/-- The opcode bytes 00H to 0FH, by their low digit (R250). -/
def row0 : Nat → Parse
  | 0x0 => rmE8 .addEbRb
  | 0x1 => rmE16 .addEwRw
  | 0x2 => rmE8 fun e r => .addRbEb r e
  | 0x3 => rmE16 fun e r => .addRwEw r e
  | 0x4 => imm8 .addAlDb
  | 0x5 => imm16 .addAxDw
  | 0x6 => one .pushEs
  | 0x7 => one .popEs
  | 0x8 => rmE8 .orEbRb
  | 0x9 => rmE16 .orEwRw
  | 0xA => rmE8 fun e r => .orRbEb r e
  | 0xB => rmE16 fun e r => .orRwEw r e
  | 0xC => imm8 .orAlDb
  | 0xD => imm16 .orAxDw
  | 0xE => one .pushCs
  | _ => decode0F

/-- The opcode bytes 10H to 1FH, by their low digit (R250). -/
def row1 : Nat → Parse
  | 0x0 => rmE8 .adcEbRb
  | 0x1 => rmE16 .adcEwRw
  | 0x2 => rmE8 fun e r => .adcRbEb r e
  | 0x3 => rmE16 fun e r => .adcRwEw r e
  | 0x4 => imm8 .adcAlDb
  | 0x5 => imm16 .adcAxDw
  | 0x6 => one .pushSs
  | 0x7 => one .popSs
  | 0x8 => rmE8 .sbbEbRb
  | 0x9 => rmE16 .sbbEwRw
  | 0xA => rmE8 fun e r => .sbbRbEb r e
  | 0xB => rmE16 fun e r => .sbbRwEw r e
  | 0xC => imm8 .sbbAlDb
  | 0xD => imm16 .sbbAxDw
  | 0xE => one .pushDs
  | _ => one .popDs

/-- The opcode bytes 20H to 2FH, by their low digit (R250). -/
def row2 : Nat → Parse
  | 0x0 => rmE8 .andEbRb
  | 0x1 => rmE16 .andEwRw
  | 0x2 => rmE8 fun e r => .andRbEb r e
  | 0x3 => rmE16 fun e r => .andRwEw r e
  | 0x4 => imm8 .andAlDb
  | 0x5 => imm16 .andAxDw
  | 0x6 => one .prefixEs
  | 0x7 => one .daa
  | 0x8 => rmE8 .subEbRb
  | 0x9 => rmE16 .subEwRw
  | 0xA => rmE8 fun e r => .subRbEb r e
  | 0xB => rmE16 fun e r => .subRwEw r e
  | 0xC => imm8 .subAlDb
  | 0xD => imm16 .subAxDw
  | 0xE => one .prefixCs
  | _ => one .das

/-- The opcode bytes 30H to 3FH, by their low digit (R250). -/
def row3 : Nat → Parse
  | 0x0 => rmE8 .xorEbRb
  | 0x1 => rmE16 .xorEwRw
  | 0x2 => rmE8 fun e r => .xorRbEb r e
  | 0x3 => rmE16 fun e r => .xorRwEw r e
  | 0x4 => imm8 .xorAlDb
  | 0x5 => imm16 .xorAxDw
  | 0x6 => one .prefixSs
  | 0x7 => one .aaa
  | 0x8 => rmE8 .cmpEbRb
  | 0x9 => rmE16 .cmpEwRw
  | 0xA => rmE8 fun e r => .cmpRbEb r e
  | 0xB => rmE16 fun e r => .cmpRwEw r e
  | 0xC => imm8 .cmpAlDb
  | 0xD => imm16 .cmpAxDw
  | 0xE => one .prefixDs
  | _ => one .aas

/-- The opcode bytes 40H to 4FH, by their low digit (R250). -/
def row4 : Nat → Parse
  | 0x0 => one (.incRw .ax)
  | 0x1 => one (.incRw .cx)
  | 0x2 => one (.incRw .dx)
  | 0x3 => one (.incRw .bx)
  | 0x4 => one (.incRw .sp)
  | 0x5 => one (.incRw .bp)
  | 0x6 => one (.incRw .si)
  | 0x7 => one (.incRw .di)
  | 0x8 => one (.decRw .ax)
  | 0x9 => one (.decRw .cx)
  | 0xA => one (.decRw .dx)
  | 0xB => one (.decRw .bx)
  | 0xC => one (.decRw .sp)
  | 0xD => one (.decRw .bp)
  | 0xE => one (.decRw .si)
  | _ => one (.decRw .di)

/-- The opcode bytes 50H to 5FH, by their low digit (R250). -/
def row5 : Nat → Parse
  | 0x0 => one (.pushRw .ax)
  | 0x1 => one (.pushRw .cx)
  | 0x2 => one (.pushRw .dx)
  | 0x3 => one (.pushRw .bx)
  | 0x4 => one (.pushRw .sp)
  | 0x5 => one (.pushRw .bp)
  | 0x6 => one (.pushRw .si)
  | 0x7 => one (.pushRw .di)
  | 0x8 => one (.popRw .ax)
  | 0x9 => one (.popRw .cx)
  | 0xA => one (.popRw .dx)
  | 0xB => one (.popRw .bx)
  | 0xC => one (.popRw .sp)
  | 0xD => one (.popRw .bp)
  | 0xE => one (.popRw .si)
  | _ => one (.popRw .di)

/-- The opcode bytes 60H to 6FH, by their low digit (R250). -/
def row6 : Nat → Parse
  | 0x0 => one .pusha
  | 0x1 => one .popa
  | 0x2 => rmE16 fun e r => .boundRwMd r e
  | 0x3 => rmE16 .arplEwRw
  | 0x4 => one .undef64
  | 0x5 => one .undef65
  | 0x6 => one .undef66
  | 0x7 => one .undef67
  | 0x8 => imm16 .pushDw
  | 0x9 => rmE16Then fun e r => imm16 (.imulRwEwDw r e)
  | 0xA => imm8 .pushDb
  | 0xB => rmE16Then fun e r => imm8 (.imulRwEwDb r e)
  | 0xC => one .insb
  | 0xD => one .insw
  | 0xE => one .outsb
  | _ => one .outsw

/-- The opcode bytes 70H to 7FH, by their low digit (R250). -/
def row7 : Nat → Parse
  | 0x0 => imm8 .jo
  | 0x1 => imm8 .jno
  | 0x2 => imm8 .jb
  | 0x3 => imm8 .jnb
  | 0x4 => imm8 .je
  | 0x5 => imm8 .jne
  | 0x6 => imm8 .jbe
  | 0x7 => imm8 .jnbe
  | 0x8 => imm8 .js
  | 0x9 => imm8 .jns
  | 0xA => imm8 .jp
  | 0xB => imm8 .jnp
  | 0xC => imm8 .jl
  | 0xD => imm8 .jnl
  | 0xE => imm8 .jle
  | _ => imm8 .jnle

/-- The opcode bytes 80H to 8FH, by their low digit (R250). -/
def row8 : Nat → Parse
  | 0x0 => group group80
  | 0x1 => group group81
  | 0x2 => one .unlisted82
  | 0x3 => group group83
  | 0x4 => rmE8 .testEbRb
  | 0x5 => rmE16 .testEwRw
  | 0x6 => rmE8 .xchgEbRb
  | 0x7 => rmE16 .xchgEwRw
  | 0x8 => rmE8 .movEbRb
  | 0x9 => rmE16 .movEwRw
  | 0xA => rmE8 fun e r => .movRbEb r e
  | 0xB => rmE16 fun e r => .movRwEw r e
  | 0xC => group group8C
  | 0xD => rmE16 fun e r => .leaRwM r e
  | 0xE => group group8E
  | _ => group group8F

/-- The opcode bytes 90H to 9FH, by their low digit (R250). -/
def row9 : Nat → Parse
  | 0x0 => one .nop
  | 0x1 => one (.xchgAxRw .cx)
  | 0x2 => one (.xchgAxRw .dx)
  | 0x3 => one (.xchgAxRw .bx)
  | 0x4 => one (.xchgAxRw .sp)
  | 0x5 => one (.xchgAxRw .bp)
  | 0x6 => one (.xchgAxRw .si)
  | 0x7 => one (.xchgAxRw .di)
  | 0x8 => one .cbw
  | 0x9 => one .cwd
  | 0xA => imm32 .callCd
  | 0xB => one .wait
  | 0xC => one .pushf
  | 0xD => one .popf
  | 0xE => one .sahf
  | _ => one .lahf

/-- The opcode bytes A0H to AFH, by their low digit (R250). -/
def rowA : Nat → Parse
  | 0x0 => imm16 .movAlXb
  | 0x1 => imm16 .movAxXw
  | 0x2 => imm16 .movXbAl
  | 0x3 => imm16 .movXwAx
  | 0x4 => one .movsb
  | 0x5 => one .movsw
  | 0x6 => one .cmpsb
  | 0x7 => one .cmpsw
  | 0x8 => imm8 .testAlDb
  | 0x9 => imm16 .testAxDw
  | 0xA => one .stosb
  | 0xB => one .stosw
  | 0xC => one .lodsb
  | 0xD => one .lodsw
  | 0xE => one .scasb
  | _ => one .scasw

/-- The opcode bytes B0H to BFH, by their low digit (R250). -/
def rowB : Nat → Parse
  | 0x0 => imm8 (.movRbDb .al)
  | 0x1 => imm8 (.movRbDb .cl)
  | 0x2 => imm8 (.movRbDb .dl)
  | 0x3 => imm8 (.movRbDb .bl)
  | 0x4 => imm8 (.movRbDb .ah)
  | 0x5 => imm8 (.movRbDb .ch)
  | 0x6 => imm8 (.movRbDb .dh)
  | 0x7 => imm8 (.movRbDb .bh)
  | 0x8 => imm16 (.movRwDw .ax)
  | 0x9 => imm16 (.movRwDw .cx)
  | 0xA => imm16 (.movRwDw .dx)
  | 0xB => imm16 (.movRwDw .bx)
  | 0xC => imm16 (.movRwDw .sp)
  | 0xD => imm16 (.movRwDw .bp)
  | 0xE => imm16 (.movRwDw .si)
  | _ => imm16 (.movRwDw .di)

/-- The opcode bytes C0H to CFH, by their low digit (R250). -/
def rowC : Nat → Parse
  | 0x0 => group groupC0
  | 0x1 => group groupC1
  | 0x2 => imm16 .retNearDw
  | 0x3 => one .retNear
  | 0x4 => rmE16 fun e r => .lesRwEd r e
  | 0x5 => rmE16 fun e r => .ldsRwEd r e
  | 0x6 => group groupC6
  | 0x7 => group groupC7
  | 0x8 => take16 fun d => imm8 (.enterDwDb d)
  | 0x9 => one .leave
  | 0xA => imm16 .retFarDw
  | 0xB => one .retFar
  | 0xC => one .int3
  | 0xD => imm8 .intDb
  | 0xE => one .into
  | _ => one .iret

/-- The opcode bytes D0H to DFH, by their low digit (R250). -/
def rowD : Nat → Parse
  | 0x0 => group groupD0
  | 0x1 => group groupD1
  | 0x2 => group groupD2
  | 0x3 => group groupD3
  | 0x4 => take8 fun b => if b = 0x0A then one .aam else one (.unlistedD4xx b)
  | 0x5 => take8 fun b => if b = 0x0A then one .aad else one (.unlistedD5xx b)
  | 0x6 => one .unlistedD6
  | 0x7 => one .xlat
  | 0x8 => modRM fun m n r => takeE16 m r fun e => one (.esc 0 n e)
  | 0x9 => modRM fun m n r => takeE16 m r fun e => one (.esc 1 n e)
  | 0xA => modRM fun m n r => takeE16 m r fun e => one (.esc 2 n e)
  | 0xB => modRM fun m n r => takeE16 m r fun e => one (.esc 3 n e)
  | 0xC => modRM fun m n r => takeE16 m r fun e => one (.esc 4 n e)
  | 0xD => modRM fun m n r => takeE16 m r fun e => one (.esc 5 n e)
  | 0xE => modRM fun m n r => takeE16 m r fun e => one (.esc 6 n e)
  | _ => modRM fun m n r => takeE16 m r fun e => one (.esc 7 n e)

/-- The opcode bytes E0H to EFH, by their low digit (R250). -/
def rowE : Nat → Parse
  | 0x0 => imm8 .loopne
  | 0x1 => imm8 .loope
  | 0x2 => imm8 .loop
  | 0x3 => imm8 .jcxz
  | 0x4 => imm8 .inAlDb
  | 0x5 => imm8 .inAxDb
  | 0x6 => imm8 .outDbAl
  | 0x7 => imm8 .outDbAx
  | 0x8 => imm16 .callCw
  | 0x9 => imm16 .jmpCw
  | 0xA => imm32 .jmpCd
  | 0xB => imm8 .jmpCb
  | 0xC => one .inAlDx
  | 0xD => one .inAxDx
  | 0xE => one .outDxAl
  | _ => one .outDxAx

/-- The opcode bytes F0H to FFH, by their low digit (R250). -/
def rowF : Nat → Parse
  | 0x0 => one .prefixLock
  | 0x1 => one .unlistedF1
  | 0x2 => one .prefixRepne
  | 0x3 => one .prefixRep
  | 0x4 => one .hlt
  | 0x5 => one .cmc
  | 0x6 => group groupF6
  | 0x7 => group groupF7
  | 0x8 => one .clc
  | 0x9 => one .stc
  | 0xA => one .cli
  | 0xB => one .sti
  | 0xC => one .cld
  | 0xD => one .std
  | 0xE => group groupFE
  | _ => group groupFF

/-- The one-byte opcode map, by its high digit (R250). -/
def decodeOp (b : Byte) : Parse :=
  let lo := (b.extractLsb' 0 4).toNat
  match (b.extractLsb' 4 4).toNat with
  | 0x0 => row0 lo
  | 0x1 => row1 lo
  | 0x2 => row2 lo
  | 0x3 => row3 lo
  | 0x4 => row4 lo
  | 0x5 => row5 lo
  | 0x6 => row6 lo
  | 0x7 => row7 lo
  | 0x8 => row8 lo
  | 0x9 => row9 lo
  | 0xA => rowA lo
  | 0xB => rowB lo
  | 0xC => rowC lo
  | 0xD => rowD lo
  | 0xE => rowE lo
  | _ => rowF lo

/-- THE DECODER: one element from the front of the bytes (R220, R230, R275). -/
def decode (bs : List Byte) : Decoded := take8 decodeOp bs

/-- A word's bytes, low first (R221). -/
def encW (w : Word) : List Byte := [w.lo, w.hi]

/-- The ModRM byte (R231). -/
def encRaw (m : BitVec 2) (n r : BitVec 3) : Byte := m ++ n ++ r

/-- The ModRM byte and displacement of a memory operand with reg field `n` (R233, R234). -/
def encMem (n : BitVec 3) : Mem → List Byte
  | .direct d => encRaw 0 n 6 :: encW d
  | .ind b => [encRaw 0 n b.code]
  | .disp8 b d => [encRaw 1 n b.code, d]
  | .disp16 b d => encRaw 2 n b.code :: encW d

/-- The ModRM byte and displacement of a byte operand (R231-R234). -/
def encE8 (n : BitVec 3) : E8 → List Byte
  | .reg r => [encRaw 3 n r.code]
  | .mem m => encMem n m

/-- The ModRM byte and displacement of a word operand (R231-R234). -/
def encE16 (n : BitVec 3) : E16 → List Byte
  | .reg r => [encRaw 3 n r.code]
  | .mem m => encMem n m

/-- THE ENCODER: the bytes of a well-formed instruction (R250-R254). -/
def encode : Instr → List Byte
  | .addEbRb e r => 0x00 :: encE8 r.code e
  | .addEwRw e r => 0x01 :: encE16 r.code e
  | .addRbEb r e => 0x02 :: encE8 r.code e
  | .addRwEw r e => 0x03 :: encE16 r.code e
  | .addAlDb i => [0x04, i]
  | .addAxDw i => 0x05 :: encW i
  | .addEbDb e i => 0x80 :: encE8 0 e ++ [i]
  | .addEwDw e i => 0x81 :: encE16 0 e ++ encW i
  | .addEwDb e i => 0x83 :: encE16 0 e ++ [i]
  | .orEbRb e r => 0x08 :: encE8 r.code e
  | .orEwRw e r => 0x09 :: encE16 r.code e
  | .orRbEb r e => 0x0A :: encE8 r.code e
  | .orRwEw r e => 0x0B :: encE16 r.code e
  | .orAlDb i => [0x0C, i]
  | .orAxDw i => 0x0D :: encW i
  | .orEbDb e i => 0x80 :: encE8 1 e ++ [i]
  | .orEwDw e i => 0x81 :: encE16 1 e ++ encW i
  | .adcEbRb e r => 0x10 :: encE8 r.code e
  | .adcEwRw e r => 0x11 :: encE16 r.code e
  | .adcRbEb r e => 0x12 :: encE8 r.code e
  | .adcRwEw r e => 0x13 :: encE16 r.code e
  | .adcAlDb i => [0x14, i]
  | .adcAxDw i => 0x15 :: encW i
  | .adcEbDb e i => 0x80 :: encE8 2 e ++ [i]
  | .adcEwDw e i => 0x81 :: encE16 2 e ++ encW i
  | .adcEwDb e i => 0x83 :: encE16 2 e ++ [i]
  | .sbbEbRb e r => 0x18 :: encE8 r.code e
  | .sbbEwRw e r => 0x19 :: encE16 r.code e
  | .sbbRbEb r e => 0x1A :: encE8 r.code e
  | .sbbRwEw r e => 0x1B :: encE16 r.code e
  | .sbbAlDb i => [0x1C, i]
  | .sbbAxDw i => 0x1D :: encW i
  | .sbbEbDb e i => 0x80 :: encE8 3 e ++ [i]
  | .sbbEwDw e i => 0x81 :: encE16 3 e ++ encW i
  | .sbbEwDb e i => 0x83 :: encE16 3 e ++ [i]
  | .andEbRb e r => 0x20 :: encE8 r.code e
  | .andEwRw e r => 0x21 :: encE16 r.code e
  | .andRbEb r e => 0x22 :: encE8 r.code e
  | .andRwEw r e => 0x23 :: encE16 r.code e
  | .andAlDb i => [0x24, i]
  | .andAxDw i => 0x25 :: encW i
  | .andEbDb e i => 0x80 :: encE8 4 e ++ [i]
  | .andEwDw e i => 0x81 :: encE16 4 e ++ encW i
  | .subEbRb e r => 0x28 :: encE8 r.code e
  | .subEwRw e r => 0x29 :: encE16 r.code e
  | .subRbEb r e => 0x2A :: encE8 r.code e
  | .subRwEw r e => 0x2B :: encE16 r.code e
  | .subAlDb i => [0x2C, i]
  | .subAxDw i => 0x2D :: encW i
  | .subEbDb e i => 0x80 :: encE8 5 e ++ [i]
  | .subEwDw e i => 0x81 :: encE16 5 e ++ encW i
  | .subEwDb e i => 0x83 :: encE16 5 e ++ [i]
  | .xorEbRb e r => 0x30 :: encE8 r.code e
  | .xorEwRw e r => 0x31 :: encE16 r.code e
  | .xorRbEb r e => 0x32 :: encE8 r.code e
  | .xorRwEw r e => 0x33 :: encE16 r.code e
  | .xorAlDb i => [0x34, i]
  | .xorAxDw i => 0x35 :: encW i
  | .xorEbDb e i => 0x80 :: encE8 6 e ++ [i]
  | .xorEwDw e i => 0x81 :: encE16 6 e ++ encW i
  | .cmpEbRb e r => 0x38 :: encE8 r.code e
  | .cmpEwRw e r => 0x39 :: encE16 r.code e
  | .cmpRbEb r e => 0x3A :: encE8 r.code e
  | .cmpRwEw r e => 0x3B :: encE16 r.code e
  | .cmpAlDb i => [0x3C, i]
  | .cmpAxDw i => 0x3D :: encW i
  | .cmpEbDb e i => 0x80 :: encE8 7 e ++ [i]
  | .cmpEwDw e i => 0x81 :: encE16 7 e ++ encW i
  | .cmpEwDb e i => 0x83 :: encE16 7 e ++ [i]
  | .incRw r => [0b01000#5 ++ r.code]
  | .decRw r => [0b01001#5 ++ r.code]
  | .pushRw r => [0b01010#5 ++ r.code]
  | .popRw r => [0b01011#5 ++ r.code]
  | .boundRwMd r e => 0x62 :: encE16 r.code e
  | .arplEwRw e r => 0x63 :: encE16 r.code e
  | .pushDw i => 0x68 :: encW i
  | .imulRwEwDw r e i => 0x69 :: encE16 r.code e ++ encW i
  | .pushDb i => [0x6A, i]
  | .imulRwEwDb r e i => 0x6B :: encE16 r.code e ++ [i]
  | .jo d => [0x70, d]
  | .jno d => [0x71, d]
  | .jb d => [0x72, d]
  | .jnb d => [0x73, d]
  | .je d => [0x74, d]
  | .jne d => [0x75, d]
  | .jbe d => [0x76, d]
  | .jnbe d => [0x77, d]
  | .js d => [0x78, d]
  | .jns d => [0x79, d]
  | .jp d => [0x7A, d]
  | .jnp d => [0x7B, d]
  | .jl d => [0x7C, d]
  | .jnl d => [0x7D, d]
  | .jle d => [0x7E, d]
  | .jnle d => [0x7F, d]
  | .testEbRb e r => 0x84 :: encE8 r.code e
  | .testEwRw e r => 0x85 :: encE16 r.code e
  | .xchgEbRb e r => 0x86 :: encE8 r.code e
  | .xchgEwRw e r => 0x87 :: encE16 r.code e
  | .movEbRb e r => 0x88 :: encE8 r.code e
  | .movEwRw e r => 0x89 :: encE16 r.code e
  | .movRbEb r e => 0x8A :: encE8 r.code e
  | .movRwEw r e => 0x8B :: encE16 r.code e
  | .movEwEs e => 0x8C :: encE16 0 e
  | .movEwCs e => 0x8C :: encE16 1 e
  | .movEwSs e => 0x8C :: encE16 2 e
  | .movEwDs e => 0x8C :: encE16 3 e
  | .leaRwM r e => 0x8D :: encE16 r.code e
  | .movEsEw e => 0x8E :: encE16 0 e
  | .movSsEw e => 0x8E :: encE16 2 e
  | .movDsEw e => 0x8E :: encE16 3 e
  | .popMw e => 0x8F :: encE16 0 e
  | .xchgAxRw r => [0b10010#5 ++ r.code]
  | .callCd off sel => 0x9A :: encW off ++ encW sel
  | .movAlXb a => 0xA0 :: encW a
  | .movAxXw a => 0xA1 :: encW a
  | .movXbAl a => 0xA2 :: encW a
  | .movXwAx a => 0xA3 :: encW a
  | .testAlDb i => [0xA8, i]
  | .testAxDw i => 0xA9 :: encW i
  | .movRbDb r i => (0b10110#5 ++ r.code) :: [i]
  | .movRwDw r i => (0b10111#5 ++ r.code) :: encW i
  | .rolEbDb e i => 0xC0 :: encE8 0 e ++ [i]
  | .rorEbDb e i => 0xC0 :: encE8 1 e ++ [i]
  | .rclEbDb e i => 0xC0 :: encE8 2 e ++ [i]
  | .rcrEbDb e i => 0xC0 :: encE8 3 e ++ [i]
  | .salEbDb e i => 0xC0 :: encE8 4 e ++ [i]
  | .shrEbDb e i => 0xC0 :: encE8 5 e ++ [i]
  | .sarEbDb e i => 0xC0 :: encE8 7 e ++ [i]
  | .rolEwDb e i => 0xC1 :: encE16 0 e ++ [i]
  | .rorEwDb e i => 0xC1 :: encE16 1 e ++ [i]
  | .rclEwDb e i => 0xC1 :: encE16 2 e ++ [i]
  | .rcrEwDb e i => 0xC1 :: encE16 3 e ++ [i]
  | .salEwDb e i => 0xC1 :: encE16 4 e ++ [i]
  | .shrEwDb e i => 0xC1 :: encE16 5 e ++ [i]
  | .sarEwDb e i => 0xC1 :: encE16 7 e ++ [i]
  | .rolEbOne e => 0xD0 :: encE8 0 e
  | .rorEbOne e => 0xD0 :: encE8 1 e
  | .rclEbOne e => 0xD0 :: encE8 2 e
  | .rcrEbOne e => 0xD0 :: encE8 3 e
  | .salEbOne e => 0xD0 :: encE8 4 e
  | .shrEbOne e => 0xD0 :: encE8 5 e
  | .sarEbOne e => 0xD0 :: encE8 7 e
  | .rolEwOne e => 0xD1 :: encE16 0 e
  | .rorEwOne e => 0xD1 :: encE16 1 e
  | .rclEwOne e => 0xD1 :: encE16 2 e
  | .rcrEwOne e => 0xD1 :: encE16 3 e
  | .salEwOne e => 0xD1 :: encE16 4 e
  | .shrEwOne e => 0xD1 :: encE16 5 e
  | .sarEwOne e => 0xD1 :: encE16 7 e
  | .rolEbCl e => 0xD2 :: encE8 0 e
  | .rorEbCl e => 0xD2 :: encE8 1 e
  | .rclEbCl e => 0xD2 :: encE8 2 e
  | .rcrEbCl e => 0xD2 :: encE8 3 e
  | .salEbCl e => 0xD2 :: encE8 4 e
  | .shrEbCl e => 0xD2 :: encE8 5 e
  | .sarEbCl e => 0xD2 :: encE8 7 e
  | .rolEwCl e => 0xD3 :: encE16 0 e
  | .rorEwCl e => 0xD3 :: encE16 1 e
  | .rclEwCl e => 0xD3 :: encE16 2 e
  | .rcrEwCl e => 0xD3 :: encE16 3 e
  | .salEwCl e => 0xD3 :: encE16 4 e
  | .shrEwCl e => 0xD3 :: encE16 5 e
  | .sarEwCl e => 0xD3 :: encE16 7 e
  | .retNearDw i => 0xC2 :: encW i
  | .lesRwEd r e => 0xC4 :: encE16 r.code e
  | .ldsRwEd r e => 0xC5 :: encE16 r.code e
  | .movEbDb e i => 0xC6 :: encE8 0 e ++ [i]
  | .movEwDw e i => 0xC7 :: encE16 0 e ++ encW i
  | .enterDwDb size level => 0xC8 :: encW size ++ [level]
  | .retFarDw i => 0xCA :: encW i
  | .intDb i => [0xCD, i]
  | .unlistedD4xx b => [0xD4, b]
  | .unlistedD5xx b => [0xD5, b]
  | .esc x y e => (0b11011#5 ++ x) :: encE16 y e
  | .loopne d => [0xE0, d]
  | .loope d => [0xE1, d]
  | .loop d => [0xE2, d]
  | .jcxz d => [0xE3, d]
  | .inAlDb i => [0xE4, i]
  | .inAxDb i => [0xE5, i]
  | .outDbAl i => [0xE6, i]
  | .outDbAx i => [0xE7, i]
  | .callCw d => 0xE8 :: encW d
  | .jmpCw d => 0xE9 :: encW d
  | .jmpCd off sel => 0xEA :: encW off ++ encW sel
  | .jmpCb d => [0xEB, d]
  | .testEbDb e i => 0xF6 :: encE8 0 e ++ [i]
  | .notEb e => 0xF6 :: encE8 2 e
  | .negEb e => 0xF6 :: encE8 3 e
  | .mulEb e => 0xF6 :: encE8 4 e
  | .imulEb e => 0xF6 :: encE8 5 e
  | .divEb e => 0xF6 :: encE8 6 e
  | .idivEb e => 0xF6 :: encE8 7 e
  | .testEwDw e i => 0xF7 :: encE16 0 e ++ encW i
  | .notEw e => 0xF7 :: encE16 2 e
  | .negEw e => 0xF7 :: encE16 3 e
  | .mulEw e => 0xF7 :: encE16 4 e
  | .imulEw e => 0xF7 :: encE16 5 e
  | .divEw e => 0xF7 :: encE16 6 e
  | .idivEw e => 0xF7 :: encE16 7 e
  | .incEb e => 0xFE :: encE8 0 e
  | .decEb e => 0xFE :: encE8 1 e
  | .incEw e => 0xFF :: encE16 0 e
  | .decEw e => 0xFF :: encE16 1 e
  | .callEw e => 0xFF :: encE16 2 e
  | .callEd e => 0xFF :: encE16 3 e
  | .jmpEw e => 0xFF :: encE16 4 e
  | .jmpEd e => 0xFF :: encE16 5 e
  | .pushMw e => 0xFF :: encE16 6 e
  | .sldtEw e => 0x0F :: 0x00 :: encE16 0 e
  | .strEw e => 0x0F :: 0x00 :: encE16 1 e
  | .lldtEw e => 0x0F :: 0x00 :: encE16 2 e
  | .ltrEw e => 0x0F :: 0x00 :: encE16 3 e
  | .verrEw e => 0x0F :: 0x00 :: encE16 4 e
  | .verwEw e => 0x0F :: 0x00 :: encE16 5 e
  | .sgdtM e => 0x0F :: 0x01 :: encE16 0 e
  | .sidtM e => 0x0F :: 0x01 :: encE16 1 e
  | .lgdtM e => 0x0F :: 0x01 :: encE16 2 e
  | .lidtM e => 0x0F :: 0x01 :: encE16 3 e
  | .smswEw e => 0x0F :: 0x01 :: encE16 4 e
  | .lmswEw e => 0x0F :: 0x01 :: encE16 6 e
  | .larRwEw r e => 0x0F :: 0x02 :: encE16 r.code e
  | .lslRwEw r e => 0x0F :: 0x03 :: encE16 r.code e
  | .undef0Fxx op2 => [0x0F, op2]
  | .unlisted83n1 => [0x83, encRaw 0 1 0]
  | .unlisted83n4 => [0x83, encRaw 0 4 0]
  | .unlisted83n6 => [0x83, encRaw 0 6 0]
  | .pushEs => [0x06]
  | .pushCs => [0x0E]
  | .pushSs => [0x16]
  | .pushDs => [0x1E]
  | .popEs => [0x07]
  | .popSs => [0x17]
  | .popDs => [0x1F]
  | .twoByteEscape => [0x0F]
  | .prefixEs => [0x26]
  | .prefixCs => [0x2E]
  | .prefixSs => [0x36]
  | .prefixDs => [0x3E]
  | .daa => [0x27]
  | .das => [0x2F]
  | .aaa => [0x37]
  | .aas => [0x3F]
  | .pusha => [0x60]
  | .popa => [0x61]
  | .undef64 => [0x64]
  | .undef65 => [0x65]
  | .undef66 => [0x66]
  | .undef67 => [0x67]
  | .insb => [0x6C]
  | .insw => [0x6D]
  | .outsb => [0x6E]
  | .outsw => [0x6F]
  | .unlisted82 => [0x82]
  | .unlisted8Chi => [0x8C, encRaw 0 4 0]
  | .undef8En1 => [0x8E, encRaw 0 1 0]
  | .unlisted8Ehi => [0x8E, encRaw 0 4 0]
  | .undef8Fn1 => [0x8F, encRaw 0 1 0]
  | .undef8Fn2 => [0x8F, encRaw 0 2 0]
  | .undef8Fn3 => [0x8F, encRaw 0 3 0]
  | .undef8Fn4 => [0x8F, encRaw 0 4 0]
  | .undef8Fn5 => [0x8F, encRaw 0 5 0]
  | .undef8Fn6 => [0x8F, encRaw 0 6 0]
  | .undef8Fn7 => [0x8F, encRaw 0 7 0]
  | .nop => [0x90]
  | .cbw => [0x98]
  | .cwd => [0x99]
  | .wait => [0x9B]
  | .pushf => [0x9C]
  | .popf => [0x9D]
  | .sahf => [0x9E]
  | .lahf => [0x9F]
  | .movsb => [0xA4]
  | .movsw => [0xA5]
  | .cmpsb => [0xA6]
  | .cmpsw => [0xA7]
  | .stosb => [0xAA]
  | .stosw => [0xAB]
  | .lodsb => [0xAC]
  | .lodsw => [0xAD]
  | .scasb => [0xAE]
  | .scasw => [0xAF]
  | .unlistedC0n6 => [0xC0, encRaw 0 6 0]
  | .unlistedC1n6 => [0xC1, encRaw 0 6 0]
  | .unlistedD0n6 => [0xD0, encRaw 0 6 0]
  | .unlistedD1n6 => [0xD1, encRaw 0 6 0]
  | .unlistedD2n6 => [0xD2, encRaw 0 6 0]
  | .unlistedD3n6 => [0xD3, encRaw 0 6 0]
  | .retNear => [0xC3]
  | .undefC6n1 => [0xC6, encRaw 0 1 0]
  | .undefC6n2 => [0xC6, encRaw 0 2 0]
  | .undefC6n3 => [0xC6, encRaw 0 3 0]
  | .undefC6n4 => [0xC6, encRaw 0 4 0]
  | .undefC6n5 => [0xC6, encRaw 0 5 0]
  | .undefC6n6 => [0xC6, encRaw 0 6 0]
  | .undefC6n7 => [0xC6, encRaw 0 7 0]
  | .undefC7n1 => [0xC7, encRaw 0 1 0]
  | .undefC7n2 => [0xC7, encRaw 0 2 0]
  | .undefC7n3 => [0xC7, encRaw 0 3 0]
  | .undefC7n4 => [0xC7, encRaw 0 4 0]
  | .undefC7n5 => [0xC7, encRaw 0 5 0]
  | .undefC7n6 => [0xC7, encRaw 0 6 0]
  | .undefC7n7 => [0xC7, encRaw 0 7 0]
  | .leave => [0xC9]
  | .retFar => [0xCB]
  | .int3 => [0xCC]
  | .into => [0xCE]
  | .iret => [0xCF]
  | .aam => [0xD4, 0x0A]
  | .aad => [0xD5, 0x0A]
  | .unlistedD6 => [0xD6]
  | .xlat => [0xD7]
  | .inAlDx => [0xEC]
  | .inAxDx => [0xED]
  | .outDxAl => [0xEE]
  | .outDxAx => [0xEF]
  | .prefixLock => [0xF0]
  | .unlistedF1 => [0xF1]
  | .prefixRepne => [0xF2]
  | .prefixRep => [0xF3]
  | .hlt => [0xF4]
  | .cmc => [0xF5]
  | .undefF6n1 => [0xF6, encRaw 0 1 0]
  | .undefF7n1 => [0xF7, encRaw 0 1 0]
  | .clc => [0xF8]
  | .stc => [0xF9]
  | .cli => [0xFA]
  | .sti => [0xFB]
  | .cld => [0xFC]
  | .std => [0xFD]
  | .undefFEn2 => [0xFE, encRaw 0 2 0]
  | .undefFEn3 => [0xFE, encRaw 0 3 0]
  | .undefFEn4 => [0xFE, encRaw 0 4 0]
  | .undefFEn5 => [0xFE, encRaw 0 5 0]
  | .undefFEn6 => [0xFE, encRaw 0 6 0]
  | .undefFEn7 => [0xFE, encRaw 0 7 0]
  | .undefFFn7 => [0xFF, encRaw 0 7 0]
  | .undef0F00n6 => [0x0F, 0x00, encRaw 0 6 0]
  | .undef0F00n7 => [0x0F, 0x00, encRaw 0 7 0]
  | .undef0F01n5 => [0x0F, 0x01, encRaw 0 5 0]
  | .undef0F01n7 => [0x0F, 0x01, encRaw 0 7 0]
  | .unlisted0F04 => [0x0F, 0x04]
  | .unlisted0F05 => [0x0F, 0x05]
  | .clts => [0x0F, 0x06]

/-- Byte `k` of the `nbits` bits `w`, as spec/opcode_table.json numbers them: "the first byte in the most significant
position" (INDEX.md, note 1); zero behind them. -/
def tableByte (nbits w k : Nat) : Byte :=
  if 8 * (k + 1) ≤ nbits then BitVec.ofNat 8 (w / 2 ^ (nbits - 8 * (k + 1))) else 0

/-- The ten bytes, the most an instruction can have (R222), that begin with the table's bits (note 1). -/
def tableBytes (nbits w : Nat) : List Byte := (List.range 10).map (tableByte nbits w)

/-- The instruction the decoder reads from the bits of an opcode table row (note 1). -/
def decodeTableWord (nbits w : Nat) : Option Instr :=
  match decode (tableBytes nbits w) with
  | .ok r => some r.1
  | .error _ => none

end Sys2Proof
end

