-- ==== Sys2Proof/Config.lean ====
section
/-!
DEFINITION. What the source leaves open and an implementation or the host fixes: free values with no body, so that
nothing can be proved of them (spec/92_eei_decisions.md D5, D7; notes/assumptions 9 and 10).
-/

namespace Sys2Proof

/-- The places at which the source leaves a value undefined; a free value is a function of the step's counter
(`State.free`) and of its place, so that two uses never share a value by construction. -/
inductive Site
  | cf | pf | af | zf | sf | of
  /-- One of the undefined bits of AH after LAHF (R324). -/
  | lahf (bit : Nat)
  /-- The sixth byte SGDT and SIDT store (R674, R675). -/
  | tablePad
  /-- The register operand of an XCHG whose write is refused (R149). -/
  | xchgReg
  /-- Whether word `i` of a PUSHA, or register `i` of a POPA, that wraps the stack is new (R317, R321). -/
  | wrap (i : Nat)
  /-- AX after the store-status-to-AX form of ESC: the NPX supplies it (R751). -/
  | npxStatus
  deriving DecidableEq, Repr

/-- What a read of memory is for, within an instruction or one attempt at delivering an interrupt: no address is read twice
for one purpose, so a purpose and an address name one read. -/
inductive Part
  /-- Operands, the stack, and the first descriptor or interrupt vector. -/
  | operand
  /-- The second element of CMPS. -/
  | second
  /-- The bytes of the instruction. -/
  | code
  /-- What a gate or a return names: a code segment or a TSS. -/
  | target
  /-- SS:SP of an inner level in the current TSS. -/
  | innerStack
  /-- SS:SP of an outer level, beyond the parameters that a far RET releases. -/
  | outerStack
  /-- A stack segment. -/
  | stackSeg
  /-- The parameters a call gate copies. -/
  | parameters
  /-- The back link of the current TSS. -/
  | backLink
  /-- The TSS descriptor of the task being left. -/
  | oldTask
  /-- The registers in the TSS of the task being entered. -/
  | task
  /-- The LDT of the task being entered. -/
  | ldt
  /-- The code segment of the task being entered. -/
  | codeSeg
  /-- DS of the task being entered. -/
  | dsSeg
  /-- ES of the task being entered. -/
  | esSeg
  deriving DecidableEq, Repr

/-- Which read of its step a read is: of the instruction (attempt 0) or of the first, second or third attempt at delivering
an interrupt or exception; its purpose; and whether it is of a descriptor. -/
structure Use where
  attempt : Nat := 0
  part : Part := .operand
  table : Bool := false
  deriving DecidableEq, Repr

namespace Config

/-- A free bit (D5). -/
opaque freeBit : Nat → Site → Bool

/-- A free byte (D5). -/
opaque freeByte : Nat → Site → Byte

/-- A free word (D5). -/
opaque freeWord : Nat → Site → Word

/-- The byte the host answers when port `p` is read in the step numbered by the first argument; the second says
whether it is the first or the second byte of the access (R170, D7). -/
opaque portByte : Nat → Nat → Word → Byte

/-- The byte read from a physical address at which there is nothing, in the step numbered by the first argument and its
read numbered by the second: independent at each use (R12, R127, D2). -/
opaque openBusByte : Nat → Use → PAddr → Byte

/-- The byte a memory-mapped device answers, at each read anew (R128, D2, D7). -/
opaque deviceByte : Nat → Use → PAddr → Byte

/-- Whether the ESC instruction with these ModRM `reg` field and opcode low bits has the NPX store to its memory operand
(true: a write, false: a read). The 80287's own instruction table is not in the source (R751, N30). -/
opaque escStores : BitVec 3 → BitVec 3 → Bool

/-- Whether a LOCK prefix asserts bus LOCK for a MOV with a memory operand: the source's two lists differ
(R125, R608, C45). -/
opaque lockHeldForMov : Bool

/-- Whether a single-step trap follows each iteration of a repeated string instruction (R552, R860, D28: OPEN). -/
opaque repSingleStepPerIteration : Bool

end Config

end Sys2Proof
end

