-- ==== Sys2Proof/Machine/State.lean ====
section
/-!
DEFINITION. The state of the machine, all of it plain data (spec/10_state.md R40-R81), the reasons a step can stop,
and the state after reset (R80, R81, spec/70_reset_and_hazards.md R950-R952).
-/

namespace Sys2Proof.Machine

/-- The eight general registers (R41). -/
structure Regs where
  ax : Word
  cx : Word
  dx : Word
  bx : Word
  sp : Word
  bp : Word
  si : Word
  di : Word
  deriving DecidableEq, Repr

/-- The flags that are storage (R45-R57). Bits 1, 3, 5 and 15 of the FLAGS word are no storage (D9). `ie` is IF. -/
structure Flags where
  cf : Bool
  pf : Bool
  af : Bool
  zf : Bool
  sf : Bool
  tf : Bool
  ie : Bool
  df : Bool
  of : Bool
  iopl : BitVec 2
  nt : Bool
  deriving DecidableEq, Repr

/-- A segment register: the visible selector and the hidden cache with its valid flag (R59, R141). -/
structure SegReg where
  sel : Word
  base : PAddr
  limit : Word
  ar : Byte
  valid : Bool
  deriving DecidableEq, Repr

/-- GDTR and IDTR (R62, R63). -/
structure TableReg where
  base : PAddr
  limit : Word
  deriving DecidableEq, Repr

/-- LDTR and TR: visible selector and hidden cache with its valid flag (R64, R65, R59). -/
structure SysReg where
  sel : Word
  base : PAddr
  limit : Word
  valid : Bool
  deriving DecidableEq, Repr

/-- The storage bits of the machine status word (R66-R70); bits 15-4 are hardwired to 1 (R71, D11). -/
structure Msw where
  pe : Bool
  mp : Bool
  em : Bool
  ts : Bool
  deriving DecidableEq, Repr

/-- Whether the machine executes, is halted by HLT, or is shut down (R74). -/
inductive RunState | running | halted | shutdown
  deriving DecidableEq, Repr

/-- The repeat prefixes: F2H and F3H (R226). -/
inductive Rep | repne | rep
  deriving DecidableEq, Repr

/-- How far the instruction being executed has come: nothing decoded or finished, a prefix was executed and its
instruction follows, an iteration of a repeated string instruction has ended with more to do (R552), or a WAIT or ESC
waits for BUSY (R752). Between steps the phase is always `idle`. -/
inductive Phase | idle | prefixed | repeating | waiting
  deriving DecidableEq, Repr

/-- What the decoder remembers of the instruction being executed: its prefixes (R224) and how many of its bytes have been
fetched (R222). The model's own state; between steps it is `{}`. -/
structure Dec where
  seg : Option SReg := none
  rep : Option Rep := none
  lock : Bool := false
  len : Nat := 0
  phase : Phase := .idle
  deriving DecidableEq, Repr

/-- What is at a range of physical addresses (R127, R128). -/
inductive MemKind | ram | rom | absent | device
  deriving DecidableEq, Repr

/-- One range of the physical memory map `MemMap` (R127, D2): `size` bytes from `base`. -/
structure Region where
  base : Nat
  size : Nat
  kind : MemKind
  deriving DecidableEq, Repr

/-- What the processor sends to the host, one entry per event (D7, D38). -/
inductive HostEvent
  /-- Byte `v` written to port `p` (R170). -/
  | port (p : Word) (v : Byte)
  /-- Byte `v` written to a memory-mapped device (R128). -/
  | device (a : PAddr) (v : Byte)
  /-- An ESC handed to the NPX: the opcode byte, the ModRM byte, and the segment register, as it is cached, and the offset
  of its memory operand if it has one (R751). -/
  | esc (opcode modrm : Byte) (operand : Option (SegReg × Word))
  /-- A word of a memory operand that the data channel has read for the NPX (R750). -/
  | npxWord (v : Word)
  /-- One interrupt acknowledge (R811). -/
  | intAck
  /-- Bus LOCK asserted for the group of bus cycles, or for the instruction, that follows (R16, R125, note 52). -/
  | lock
  deriving DecidableEq, Repr

/-- The memory operand of an ESC in the processor extension data channel: its segment register and the mode as they were
when the ESC executed, the offset of the next word, and whether the NPX stores (R750, R751, R756). -/
structure Transfer where
  seg : SegReg
  prot : Bool
  next : Nat
  store : Bool
  deriving DecidableEq, Repr

/-- The processor extension data channel: it has no operand, or one, or has overrun a segment and waits for FNINIT
(R750, R756). -/
inductive Channel
  | idle
  | moving (t : Transfer)
  | overrun
  deriving DecidableEq, Repr

/-- What the NPX agent can do to the 80286 (R16, R750, R751, D38). -/
inductive NpxAct
  /-- Drives the BUSY pin. -/
  | busy (b : Bool)
  /-- Drives the ERROR pin. -/
  | error (b : Bool)
  /-- Asks the data channel for the next word of its operand. -/
  | read
  /-- Gives the data channel the next word to store. -/
  | write (v : Word)
  deriving DecidableEq, Repr

/-- The state of one 80286 and of the host signals it samples. -/
structure State where
  regs : Regs
  ip : Word
  flags : Flags
  es : SegReg
  cs : SegReg
  ss : SegReg
  ds : SegReg
  gdtr : TableReg
  idtr : TableReg
  ldtr : SysReg
  tr : SysReg
  msw : Msw
  /-- Running, halted or shut down (R74). -/
  runState : RunState
  /-- The interrupt-inhibit latch of MOV SS and POP SS (R72). -/
  inhibit : Bool
  /-- An NMI is being serviced (R73). -/
  nmiInService : Bool
  /-- The remembered NMI request (R73). -/
  nmiPending : Bool
  /-- A single-step interrupt is due (R79). -/
  trapPending : Bool
  /-- The processor-extension segment overrun request, interrupt 9 (R79, R756). -/
  overrunReq : Bool
  /-- The INTR line and the vector the host will supply on acknowledge (R811, D7). -/
  intr : Option Byte
  /-- The RESET line (R950). -/
  resetReq : Bool
  /-- `NPX_PRESENT`: whether an 80287 is attached (R8, R750, D8, note 49). -/
  npxPresent : Bool
  /-- The BUSY pin as the NPX drives it; `npx_busy` is `State.busy` (R76). -/
  npxBusy : Bool
  /-- The ERROR pin as the NPX drives it; `npx_error` is `State.mathError` (R76). -/
  npxError : Bool
  /-- What the NPX does before the boundary of the next step, in this order (D7, D38, note 48). -/
  npxIn : List NpxAct
  /-- The processor extension data channel (R750). -/
  channel : Channel
  /-- Physical memory: address and byte, addresses strictly rising, no zero byte listed (`Memory.wf`). -/
  mem : List Host.Cell
  /-- The physical memory map; an address in no region is RAM (D2). -/
  memMap : List Region
  /-- What has been sent to the host, newest first. -/
  hostOut : List HostEvent
  /-- The counter free values are drawn from; the step advances it (D5). The model's own. -/
  free : Nat
  /-- Which read of its step the next read is. The model's own; between steps it is `{}` (R12, note 51). -/
  use : Use
  /-- The prefixes and length of the instruction being executed. The model's own. -/
  dec : Dec
  deriving DecidableEq, Repr

/-- A model fault. The 80286 reports every error by an exception that the step takes, by shutdown or not at all, and
every address exists or is classed by `memMap`, so no step answers with one. -/
inductive Fault
  /-- Raised by nothing: the machine has no way to stop other than halt and shutdown, which are states. Safe. -/
  | none
  deriving DecidableEq, Repr

/-- Why the model does not step. -/
inductive Refusal
  /-- Raised by an arm of `exec` whose instruction has no meaning yet. Safe. -/
  | notModelled (mnemonic : String)
  /-- Raised by an encoding the source does not list and the hardware is known to execute: "a model must refuse to step"
  (R264, D19). Safe. -/
  | unlistedEncoding
  /-- Raised by F2H before LODS, INS, MOVS, OUTS or STOS, which have no row (R553, D16). Safe. -/
  | repneNotListed
  /-- Raised by a JMP or CALL to a TSS descriptor in an LDT (R479, D23). Safe. -/
  | tssInLdt
  /-- Raised by a task switch or an inner-level stack read with TR not loaded, or too short for the stack read
  (R477, R840, R962, D24). Safe. -/
  | trNotLoaded
  deriving DecidableEq, Repr

/-- A segment register after reset: valid, selector and base given, limit FFFFH. The access byte, of which the source
says "protection bits are set to 0", is that of a present writable data segment of DPL 0 (note 3). -/
def SegReg.atReset (sel : Word) (base : PAddr) : SegReg :=
  { sel, base, limit := 0xFFFF, ar := 0x93, valid := true }

/-- The machine right after RESET (R80); what R80 does not give is zero (R81, notes 2, 3, 7). -/
def State.reset : State where
  regs := { ax := 0, cx := 0, dx := 0, bx := 0, sp := 0, bp := 0, si := 0, di := 0 }
  ip := 0xFFF0
  flags := { cf := false, pf := false, af := false, zf := false, sf := false, tf := false, ie := false,
             df := false, of := false, iopl := 0, nt := false }
  es := SegReg.atReset 0 0
  cs := SegReg.atReset 0xF000 0xFF0000
  ss := SegReg.atReset 0 0
  ds := SegReg.atReset 0 0
  gdtr := { base := 0, limit := 0 }
  idtr := { base := 0, limit := 0x03FF }
  ldtr := { sel := 0, base := 0, limit := 0, valid := false }
  tr := { sel := 0, base := 0, limit := 0, valid := false }
  msw := { pe := false, mp := false, em := false, ts := false }
  runState := .running
  inhibit := false
  nmiInService := false
  nmiPending := false
  trapPending := false
  overrunReq := false
  intr := none
  resetReq := false
  npxPresent := true
  npxBusy := false
  npxError := false
  npxIn := []
  channel := .idle
  mem := []
  memMap := []
  hostOut := []
  free := 0
  use := {}
  dec := {}

end Sys2Proof.Machine
end

