-- ==== Sys2Proof/Machine/Flags.lean ====
section
/-!
DEFINITION. The FLAGS and MSW words, and every flag computation the instructions share
(spec/10_state.md R45-R57, R66-R71; spec/41_arithmetic.md R350, R351; spec/42_logic_shift.md R400, R410-R415).
-/

namespace Sys2Proof.Machine

/-- A Boolean as a 1-bit vector. -/
def bit (b : Bool) : BitVec 1 := BitVec.ofBool b

/-- The FLAGS word: bits 15, 5 and 3 read 0, bit 1 reads 1 (R45, D9). -/
def Flags.toWord (f : Flags) : Word :=
  0#1 ++ bit f.nt ++ f.iopl ++ bit f.of ++ bit f.df ++ bit f.ie ++ bit f.tf
    ++ bit f.sf ++ bit f.zf ++ 0#1 ++ bit f.af ++ 0#1 ++ bit f.pf ++ 1#1 ++ bit f.cf

/-- The flags a FLAGS word holds; bits 15, 5, 3 and 1 are ignored (R45, D9). -/
def Flags.ofWord (w : Word) : Flags where
  cf := w.getLsbD 0
  pf := w.getLsbD 2
  af := w.getLsbD 4
  zf := w.getLsbD 6
  sf := w.getLsbD 7
  tf := w.getLsbD 8
  ie := w.getLsbD 9
  df := w.getLsbD 10
  of := w.getLsbD 11
  iopl := w.extractLsb' 12 2
  nt := w.getLsbD 14

/-- The MSW word: bits 15-4 read 1 (R66, R71, D11). -/
def Msw.toWord (m : Msw) : Word :=
  0xFFF#12 ++ bit m.ts ++ bit m.em ++ bit m.mp ++ bit m.pe

/-- Whether the number of 1 bits of a byte is even (R47). -/
def evenParity (b : Byte) : Bool :=
  ((List.range 8).countP (fun i => b.getLsbD i)) % 2 == 0

/-- `SetSZP`: SF, ZF and PF from a result of any width (R350). -/
def Flags.szp {w : Nat} (f : Flags) (r : BitVec w) : Flags :=
  { f with sf := r.msb, zf := r == 0, pf := evenParity (r.setWidth 8) }

/-- The result of `AddFlags` (R351). -/
def addResult {w : Nat} (a b : BitVec w) (c : Bool) : BitVec w :=
  BitVec.ofNat w (a.toNat + b.toNat + c.toNat)

/-- The flags of `AddFlags` (R351). -/
def Flags.add {w : Nat} (f : Flags) (a b : BitVec w) (c : Bool) : Flags :=
  let r := addResult a b c
  { f.szp r with
    cf := decide (2 ^ w ≤ a.toNat + b.toNat + c.toNat)
    af := decide (16 ≤ a.toNat % 16 + b.toNat % 16 + c.toNat)
    of := (a.msb == b.msb) && (r.msb != a.msb) }

/-- The result of `SubFlags` (R351). -/
def subResult {w : Nat} (a b : BitVec w) (c : Bool) : BitVec w :=
  BitVec.ofInt w ((a.toNat : Int) - b.toNat - c.toNat)

/-- The flags of `SubFlags` (R351). -/
def Flags.sub {w : Nat} (f : Flags) (a b : BitVec w) (c : Bool) : Flags :=
  let r := subResult a b c
  { f.szp r with
    cf := decide (a.toNat < b.toNat + c.toNat)
    af := decide (a.toNat % 16 < b.toNat % 16 + c.toNat)
    of := (a.msb != b.msb) && (r.msb != a.msb) }

/-- `LogicFlags`: CF and OF cleared, AF free (R400). -/
def Flags.logic {w : Nat} (f : Flags) (n : Nat) (r : BitVec w) : Flags :=
  { f.szp r with cf := false, of := false, af := Config.freeBit n .af }

/-- All six status flags free: DIV and IDIV, and a refused write of ADC and SBB (R364, R149, D5, D12). -/
def Flags.free (f : Flags) (n : Nat) : Flags :=
  { f with
    cf := Config.freeBit n .cf
    pf := Config.freeBit n .pf
    af := Config.freeBit n .af
    zf := Config.freeBit n .zf
    sf := Config.freeBit n .sf
    of := Config.freeBit n .of }

/-- CF and OF from the multiply instructions, SF, ZF, AF and PF free (R361-R363). -/
def Flags.mul (f : Flags) (n : Nat) (big : Bool) : Flags :=
  { f.free n with cf := big, of := big }

/-- The seven shift and rotate operations of the group (R410). -/
inductive ShiftOp | rol | ror | rcl | rcr | shl | shr | sar
  deriving DecidableEq, Repr

/-- One step of a shift or rotate on the operand and the carry (R413). -/
def shiftStep {w : Nat} (op : ShiftOp) (x : BitVec w) (c : Bool) : BitVec w × Bool :=
  let low (b : Bool) : BitVec w := BitVec.ofNat w b.toNat
  let high (b : Bool) : BitVec w := BitVec.ofNat w (b.toNat * 2 ^ (w - 1))
  let lsb := x.getLsbD 0
  match op with
  | .shl => (x <<< 1, x.msb)
  | .shr => (x >>> 1, lsb)
  | .sar => ((x >>> 1) ||| high x.msb, lsb)
  | .rol => ((x <<< 1) ||| low x.msb, x.msb)
  | .ror => ((x >>> 1) ||| high lsb, lsb)
  | .rcl => ((x <<< 1) ||| low c, x.msb)
  | .rcr => ((x >>> 1) ||| high c, lsb)

/-- `n` steps of a shift or rotate (R413, R416). -/
def shiftSteps {w : Nat} (op : ShiftOp) : Nat → BitVec w → Bool → BitVec w × Bool
  | 0, x, c => (x, c)
  | n + 1, x, c => let r := shiftStep op x c; shiftSteps op n r.1 r.2

/-- The count actually used: the low five bits (R411). -/
def shiftCount (cnt : Byte) : Nat := cnt.toNat % 32

/-- OF after a shift or rotate by one (R414): `x0` the operand, `r` the result, `c` the new CF. -/
def shiftOf {w : Nat} (op : ShiftOp) (x0 r : BitVec w) (c : Bool) : Bool :=
  match op with
  | .shl => c ^^ r.msb
  | .rol => c ^^ r.msb
  | .rcl => c ^^ r.msb
  | .ror => r.msb ^^ r.getLsbD (w - 2)
  | .rcr => r.msb ^^ r.getLsbD (w - 2)
  | .shr => x0.msb
  | .sar => false

/-- Whether the operation is a shift (SF, ZF, PF, AF written) and not a rotate (R415). -/
def ShiftOp.isShift : ShiftOp → Bool
  | .shl => true
  | .shr => true
  | .sar => true
  | .rol => false
  | .ror => false
  | .rcl => false
  | .rcr => false

/-- SF, ZF and PF of a shift's result with AF free; unchanged by a rotate (R415). -/
def Flags.shiftSzp {w : Nat} (f : Flags) (op : ShiftOp) (n : Nat) (r : BitVec w) : Flags :=
  if op.isShift then { f.szp r with af := Config.freeBit n .af } else f

/-- SF, ZF, PF and AF free after a shift by zero; unchanged by a rotate (R412, D22). -/
def Flags.shiftZero (f : Flags) (op : ShiftOp) (n : Nat) : Flags :=
  if op.isShift then
    { f with
      sf := Config.freeBit n .sf
      zf := Config.freeBit n .zf
      pf := Config.freeBit n .pf
      af := Config.freeBit n .af }
  else f

/-- The flags after a shift or rotate of `x0` by the masked count `k` (R412, R414, R415); `n` is the counter of the
free values. -/
def Flags.shift {w : Nat} (f : Flags) (n : Nat) (op : ShiftOp) (k : Nat) (x0 : BitVec w) : Flags :=
  let r := shiftSteps op k x0 f.cf
  if k = 0 then f.shiftZero op n
  else
    { f.shiftSzp op n r.1 with
      cf := r.2
      of := if k = 1 then shiftOf op x0 r.1 r.2 else Config.freeBit n .of }

end Sys2Proof.Machine
end

