-- ==== Sys2Proof/Machine/Memory.lean ====
section
/-!
DEFINITION. Physical memory as a list of cells in one canonical form, the physical memory map, and the byte and word
accesses by physical address (spec/20_memory.md R120-R128).
-/

namespace Sys2Proof.Machine

/-- The canonical form of a memory: addresses strictly rising and inside the 2^24 bytes of R120, and no entry equal to
what an unlisted address reads as (0, note 4). -/
abbrev Memory.wf (m : List Host.Cell) : Prop :=
  m.Pairwise (fun c d => c.1 < d.1) ∧ ∀ c ∈ m, c.2 ≠ 0 ∧ c.1 < 0x1000000

/-- The byte at `a`: the listed one, or 0 (note 4). -/
def Memory.read : List Host.Cell → Nat → Byte
  | [], _ => 0
  | (k, v) :: m, a => if a = k then v else Memory.read m a

/-- Puts a cell before the first one of a higher address. -/
def Memory.insert (a : Nat) (v : Byte) : List Host.Cell → List Host.Cell
  | [] => [(a, v)]
  | (k, w) :: m => if a < k then (a, v) :: (k, w) :: m else (k, w) :: Memory.insert a v m

/-- The memory with byte `a` made `v`, again in canonical form. -/
def Memory.write (m : List Host.Cell) (a : Nat) (v : Byte) : List Host.Cell :=
  let rest := m.filter (fun c => c.1 ≠ a)
  if v = 0 then rest else Memory.insert a v rest

/-- What is at physical address `a`: the first region that holds it says; an address in no region is RAM (R127, D2). -/
def kindAt : List Region → PAddr → MemKind
  | [], _ => .ram
  | r :: rs, a => if r.base ≤ a.toNat ∧ a.toNat < r.base + r.size then r.kind else kindAt rs a

/-- The state in which a read is for the purpose `p` (R12, note 10). -/
def State.reading (s : State) (p : Part) : State := { s with use := { s.use with part := p } }

/-- The state in which a read is of a descriptor (R12, note 10). -/
def State.readingTable (s : State) : State := { s with use := { s.use with table := true } }

/-- `MemRead(a, 1)` (R122, R127, R128). -/
def State.readPhys (s : State) (a : PAddr) : Byte :=
  match kindAt s.memMap a with
  | .ram => Memory.read s.mem a.toNat
  | .rom => Memory.read s.mem a.toNat
  | .absent => Config.openBusByte s.free s.use a
  | .device => Config.deviceByte s.free s.use a

/-- `MemRead(a, 2)`: low byte first, addresses modulo 2^24 (R122, R126). -/
def State.readPhys16 (s : State) (a : PAddr) : Word :=
  Word.ofBytes (s.readPhys a) (s.readPhys (a + 1))

/-- The host sees that bus LOCK is asserted for what follows (R125, D7, note 52). -/
def State.lockBus (s : State) : State := { s with hostOut := .lock :: s.hostOut }

/-- `MemWrite(a, 1, v)`: a write to ROM or to nothing changes nothing, a device's byte goes to the host
(R122, R127, R128). -/
def State.writePhys (s : State) (a : PAddr) (v : Byte) : State :=
  match kindAt s.memMap a with
  | .ram => { s with mem := Memory.write s.mem a.toNat v }
  | .rom => s
  | .absent => s
  | .device => { s with hostOut := .device a v :: s.hostOut }

/-- `MemWrite(a, 2, v)` (R122, R126). -/
def State.writePhys16 (s : State) (a : PAddr) (v : Word) : State :=
  (s.writePhys a v.lo).writePhys (a + 1) v.hi

end Sys2Proof.Machine
end

