-- ==== Sys2Proof/Machine/Access.lean ====
section
/-!
DEFINITION. Checked accesses: how a meaning stops, the privilege level, the access-rights byte, references through a
segment register, the stack and the ports (spec/20_memory.md R129-R171; spec/10_state.md R59-R61).
-/

namespace Sys2Proof.Machine

/-- How a meaning ends other than by completing: an exception with its vector and error code, and, where the source
leaves something changed by the faulting instruction, the state it leaves (R149, R723, R820); or a refusal. -/
inductive Stop
  | exc (vec : Byte) (code : Option Word) (left : Option State)
  | refuse (r : Refusal)
  deriving DecidableEq, Repr

/-- A computation that may stop. -/
abbrev Run (α : Type) := Except Stop α

/-- `raise #XX(code)` with nothing changed by the instruction (R12, R300). -/
def raise {α : Type} (vec : Byte) (code : Option Word := none) : Run α :=
  .error (.exc vec code none)

/-- Goes on if `b`, stops with `e` otherwise. -/
def check (b : Bool) (e : Stop) : Run Unit := if b then .ok () else .error e

/-- #UD, vector 6, no error code (R260). -/
def excUd : Stop := .exc 6 none none

/-- #GP with an error code, vector 13. -/
def excGp (code : Word) : Stop := .exc 13 (some code) none

/-- #NP with an error code, vector 11. -/
def excNp (code : Word) : Stop := .exc 11 (some code) none

/-- #SS with an error code, vector 12. -/
def excSs (code : Word) : Stop := .exc 12 (some code) none

/-- #TS with an error code, vector 10. -/
def excTs (code : Word) : Stop := .exc 10 (some code) none

/-- Protected mode: MSW.PE (R2, R67). -/
def State.prot (s : State) : Bool := s.msw.pe

/-- CPL: the low bits of CS's selector in protected mode, 0 in real mode (R61). -/
def State.cpl (s : State) : BitVec 2 := if s.prot then s.cs.sel.extractLsb' 0 2 else 0

/-- The selector's requested privilege level (R134). -/
def rplOf (sel : Word) : BitVec 2 := sel.extractLsb' 0 2

/-- The selector with its RPL made `p`. -/
def withRpl (sel : Word) (p : BitVec 2) : Word := (sel &&& 0xFFFC) ||| p.setWidth 16

/-- The null selectors 0000H-0003H (R134). -/
def isNull (sel : Word) : Bool := sel &&& 0xFFFC == 0

/-- The error code that names a selector: its RPL bits cleared (R153). -/
def selCode (sel : Word) : Word := sel &&& 0xFFFC

/-- Whether IOPL lets the current privilege level use the trusted instructions (R171). -/
def State.ioAllowed (s : State) : Bool := !s.prot || decide (s.cpl ≤ s.flags.iopl)

/-- P, bit 7 of an access-rights byte (R137). -/
def arPresent (ar : Byte) : Bool := ar.getLsbD 7

/-- DPL, bits 6-5 (R137). -/
def arDpl (ar : Byte) : BitVec 2 := ar.extractLsb' 5 2

/-- S, bit 4: a code or data segment (R137). -/
def arSegment (ar : Byte) : Bool := ar.getLsbD 4

/-- E, bit 3: executable (R137). -/
def arExec (ar : Byte) : Bool := ar.getLsbD 3

/-- Bit 2: conforming for code, expand down for data (R137). -/
def arConfDown (ar : Byte) : Bool := ar.getLsbD 2

/-- Bit 1: readable for code, writable for data (R137). -/
def arReadWrite (ar : Byte) : Bool := ar.getLsbD 1

/-- TYPE of a control descriptor: S = 0 and the low four bits `t` (R138). -/
def arIsType (ar : Byte) (t : BitVec 4) : Bool := !arSegment ar && ar.extractLsb' 0 4 == t

/-- The segment register of a name (R58). -/
def State.seg (s : State) : SReg → SegReg
  | .es => s.es
  | .cs => s.cs
  | .ss => s.ss
  | .ds => s.ds

/-- The state with a segment register replaced. -/
def State.setSeg (s : State) : SReg → SegReg → State
  | .es, x => { s with es := x }
  | .cs, x => { s with cs := x }
  | .ss, x => { s with ss := x }
  | .ds, x => { s with ds := x }

/-- `Lin(X, off)`: the physical address of a reference (R133). -/
def SegReg.lin (x : SegReg) (off : Word) : PAddr := x.base + off.setWidth 24

/-- `InLimit(X, off, n)`: the `n` bytes at `off` are inside the segment (R142, R143). -/
def SegReg.inLimit (x : SegReg) (off : Word) (n : Nat) : Bool :=
  if !arExec x.ar && arConfDown x.ar then
    decide (x.limit.toNat < off.toNat) && decide (off.toNat + n ≤ 0x10000)
  else decide (off.toNat + n ≤ x.limit.toNat + 1)

/-- The segment may be read through (R144). -/
def SegReg.readable (x : SegReg) : Bool := !arExec x.ar || arReadWrite x.ar

/-- The segment may be written through (R145). -/
def SegReg.writable (x : SegReg) : Bool := !arExec x.ar && arReadWrite x.ar

/-- A reference of `n` bytes that reads passes its checks (R140-R144, R147, R151). -/
def State.canRead (s : State) (x : SReg) (off : Word) (n : Nat) : Bool :=
  if s.prot then (s.seg x).valid && (s.seg x).readable && (s.seg x).inLimit off n
  else decide (off.toNat + n ≤ 0x10000)

/-- A reference of `n` bytes that writes passes its checks (R140-R145, R148, R151). -/
def State.canWrite (s : State) (x : SReg) (off : Word) (n : Nat) : Bool :=
  if s.prot then (s.seg x).valid && (s.seg x).writable && (s.seg x).inLimit off n
  else decide (off.toNat + n ≤ 0x10000)

/-- What a failed reference raises: #SS(0) through SS and #GP(0) otherwise in protected mode, interrupt 13 in real mode
(R146, R151). -/
def State.segFault (s : State) (x : SReg) : Stop :=
  if s.prot && x == .ss then excSs 0 else excGp 0

/-- `ReadSeg(X, off, 1)` (R147). -/
def State.readSeg8 (s : State) (x : SReg) (off : Word) : Run Byte := do
  check (s.canRead x off 1) (s.segFault x)
  pure (s.readPhys ((s.seg x).lin off))

/-- `ReadSeg(X, off, 2)` (R147). -/
def State.readSeg16 (s : State) (x : SReg) (off : Word) : Run Word := do
  check (s.canRead x off 2) (s.segFault x)
  pure (s.readPhys16 ((s.seg x).lin off))

/-- `WriteSeg(X, off, 1, v)` (R148). -/
def State.writeSeg8 (s : State) (x : SReg) (off : Word) (v : Byte) : Run State := do
  check (s.canWrite x off 1) (s.segFault x)
  pure (s.writePhys ((s.seg x).lin off) v)

/-- `WriteSeg(X, off, 2, v)` (R148). -/
def State.writeSeg16 (s : State) (x : SReg) (off : Word) (v : Word) : Run State := do
  check (s.canWrite x off 2) (s.segFault x)
  pure (s.writePhys16 ((s.seg x).lin off) v)

/-- Two words at `off`, the whole operand checked first (R147): (word at `off`, word at `off + 2`). -/
def State.readSeg32 (s : State) (x : SReg) (off : Word) : Run (Word × Word) := do
  check (s.canRead x off 4) (s.segFault x)
  pure (s.readPhys16 ((s.seg x).lin off), s.readPhys16 ((s.seg x).lin (off + 2)))

/-- Three words at `off`, the whole operand checked first (R147). -/
def State.readSeg48 (s : State) (x : SReg) (off : Word) : Run (Word × Word × Word) := do
  check (s.canRead x off 6) (s.segFault x)
  pure (s.readPhys16 ((s.seg x).lin off), s.readPhys16 ((s.seg x).lin (off + 2)),
    s.readPhys16 ((s.seg x).lin (off + 4)))

/-- The state with SP replaced. -/
def State.setSp (s : State) (v : Word) : State := { s with regs := { s.regs with sp := v } }

/-- `Push(v)`: SP changes only when the write has passed its checks (R160). -/
def State.push (s : State) (v : Word) : Run State := do
  let t := s.regs.sp - 2
  let s' ← s.writeSeg16 .ss t v
  pure (s'.setSp t)

/-- `Pop()` (R161). -/
def State.pop (s : State) : Run (Word × State) := do
  let v ← s.readSeg16 .ss s.regs.sp
  pure (v, s.setSp (s.regs.sp + 2))

/-- The `n` words that `n` pushes would write all lie where pushing is allowed (R162). -/
def State.canPush (s : State) : Nat → Bool
  | 0 => true
  | n + 1 => s.canPush n && s.canWrite .ss (s.regs.sp - BitVec.ofNat 16 (2 * (n + 1))) 2

/-- `PortRead(p, 1)`: the host answers (R170). -/
def State.portIn8 (s : State) (p : Word) : Byte := Config.portByte s.free 0 p

/-- `PortRead(p, 2)`: the second byte's port wraps to 0000H (R170, D18). -/
def State.portIn16 (s : State) (p : Word) : Word :=
  Word.ofBytes (Config.portByte s.free 0 p) (Config.portByte s.free 1 (p + 1))

/-- `PortWrite(p, 1, v)` (R170). -/
def State.portOut8 (s : State) (p : Word) (v : Byte) : State :=
  { s with hostOut := .port p v :: s.hostOut }

/-- `PortWrite(p, 2, v)` (R170, D18). -/
def State.portOut16 (s : State) (p : Word) (v : Word) : State :=
  (s.portOut8 p v.lo).portOut8 (p + 1) v.hi

/-- The offset of the next sequential instruction (R44, R275, note 50). -/
def State.nextIp (s : State) : Word := s.ip + BitVec.ofNat 16 s.dec.len

/-- IP at `ip` and nothing remembered of the instruction: how an instruction completes (R44, R300). -/
def State.goto (s : State) (ip : Word) : State := { s with ip, dec := {} }

/-- Completion by `IP <- next_ip` (R300). -/
def State.advance (s : State) : State := s.goto s.nextIp

end Sys2Proof.Machine
end

