-- ==== Sys2Proof/Machine/Segment.lean ====
section
/-!
DEFINITION. Descriptor lookup and the loading of segment registers (spec/20_memory.md R134-R136, R153-R158;
spec/10_state.md R59, R60).
-/

namespace Sys2Proof.Machine

/-- Bytes 0-5 of a descriptor and where it stands (R136); bytes 6-7 are never read (D14). -/
structure Desc where
  addr : PAddr
  w0 : Word
  w1 : Word
  b4 : Byte
  ar : Byte
  deriving DecidableEq, Repr

/-- The limit of a segment, LDT or TSS descriptor (R136). -/
def Desc.limit (d : Desc) : Word := d.w0

/-- The base of a segment, LDT or TSS descriptor (R136). -/
def Desc.base (d : Desc) : PAddr := d.b4 ++ d.w1

/-- The offset in a gate (R136). -/
def Desc.gateOffset (d : Desc) : Word := d.w0

/-- The selector in a gate (R136). -/
def Desc.gateSel (d : Desc) : Word := d.w1

/-- The word count of a call gate, masked to 5 bits (R136). -/
def Desc.wordCount (d : Desc) : Nat := d.b4.toNat % 32

/-- A code segment descriptor (R137). -/
def Desc.isCode (d : Desc) : Bool := arSegment d.ar && arExec d.ar

/-- A conforming code segment descriptor (R137). -/
def Desc.isConforming (d : Desc) : Bool := d.isCode && arConfDown d.ar

/-- A writable data segment descriptor (R137). -/
def Desc.isWritableData (d : Desc) : Bool := arSegment d.ar && !arExec d.ar && arReadWrite d.ar

/-- A data or readable code segment descriptor (R153). -/
def Desc.isDataOrReadable (d : Desc) : Bool := arSegment d.ar && (!arExec d.ar || arReadWrite d.ar)

/-- `Desc(s)` at a physical address: bytes 0-5 (R135, R136). -/
def State.descAt (s : State) (a : PAddr) : Desc where
  addr := a
  w0 := s.readingTable.readPhys16 a
  w1 := s.readingTable.readPhys16 (a + 2)
  b4 := s.readingTable.readPhys (a + 4)
  ar := s.readingTable.readPhys (a + 5)

/-- Base and limit of the table a selector names; none for TI = 1 with the LDT invalid (R135, R64). -/
def State.tableOf (s : State) (sel : Word) : Option (PAddr × Word) :=
  if sel.getLsbD 2 then
    if s.ldtr.valid then some (s.ldtr.base, s.ldtr.limit) else none
  else some (s.gdtr.base, s.gdtr.limit)

/-- The descriptor a selector names, or none if it lies outside its table (R135, D17). -/
def State.desc? (s : State) (sel : Word) : Option Desc :=
  match s.tableOf sel with
  | none => none
  | some (base, limit) =>
    let off := sel &&& 0xFFF8
    if off.toNat + 7 ≤ limit.toNat then some (s.descAt (base + off.setWidth 24)) else none

/-- The descriptor a selector names; outside its table the given stop (R135). -/
def State.desc (s : State) (sel : Word) (e : Stop) : Run Desc :=
  match s.desc? sel with
  | some d => .ok d
  | none => .error e

/-- The access byte with the Accessed bit set (R155). -/
def accessed (ar : Byte) : Byte := ar ||| 1

/-- A segment descriptor loaded into a cache, Accessed set (R153, R155). -/
def Desc.toSeg (d : Desc) (sel : Word) : SegReg :=
  { sel, base := d.base, limit := d.limit, ar := accessed d.ar, valid := true }

/-- The Accessed bit set in the descriptor table, under bus LOCK (R125, R155, D13). -/
def State.markAccessed (s : State) (d : Desc) : State := s.lockBus.writePhys (d.addr + 5) (accessed d.ar)

/-- The register loaded from its descriptor and the Accessed bit written, one group under bus LOCK: the end of every
successful load (R125, R153, note 52). -/
def State.loadCache (s : State) (x : SReg) (sel : Word) (d : Desc) : State :=
  (s.markAccessed d).setSeg x (d.toSeg sel)

/-- A real-mode load of a segment register: base 16 times the selector, limit FFFFH, access rights kept, valid
(R60, R141). -/
def SegReg.realLoad (x : SegReg) (sel : Word) : SegReg :=
  { sel, base := sel.setWidth 24 <<< 4, limit := 0xFFFF, ar := x.ar, valid := true }

/-- `LoadSS(s)` in protected mode (R153). -/
def State.loadSsProt (s : State) (sel : Word) : Run State := do
  let ec := selCode sel
  check (!isNull sel) (excGp 0)
  let d ← s.desc sel (excGp ec)
  check (rplOf sel == s.cpl) (excGp ec)
  check d.isWritableData (excGp ec)
  check (arDpl d.ar == s.cpl) (excGp ec)
  check (arPresent d.ar) (excSs ec)
  pure (s.loadCache .ss sel d)

/-- `LoadDataSeg(X, s)` of a non-null selector in protected mode (R153, R157). -/
def State.loadDataProt (s : State) (x : SReg) (sel : Word) : Run State := do
  let ec := selCode sel
  let d ← s.desc sel (excGp ec)
  check d.isDataOrReadable (excGp ec)
  check (d.isConforming || (decide (rplOf sel ≤ arDpl d.ar) && decide (s.cpl ≤ arDpl d.ar))) (excGp ec)
  check (arPresent d.ar) (excNp ec)
  pure (s.loadCache x sel d)

/-- A null selector in DS or ES: no fault, the register is invalid (R141, R153). -/
def State.loadNull (s : State) (x : SReg) (sel : Word) : State :=
  s.setSeg x { s.seg x with sel, valid := false }

/-- Loading SS by an instruction, either mode (R60, R153). -/
def State.loadSs (s : State) (sel : Word) : Run State :=
  if s.prot then s.loadSsProt sel else .ok (s.setSeg .ss (s.ss.realLoad sel))

/-- Loading DS or ES by an instruction, either mode (R60, R153). -/
def State.loadData (s : State) (x : SReg) (sel : Word) : Run State :=
  if s.prot then
    if isNull sel then .ok (s.loadNull x sel) else s.loadDataProt x sel
  else .ok (s.setSeg x ((s.seg x).realLoad sel))

end Sys2Proof.Machine
end

