-- ==== Sys2Proof/Machine/Task.lean ====
section
/-!
DEFINITION. The task switch (spec/47_protected_system.md R710-R724). A fault after the switch has begun leaves the state it
had reached (R723): such a stop carries that state.
-/

namespace Sys2Proof.Machine

/-- What started a task switch (R720). -/
inductive SwitchCause | jmp | call | int | iret
  deriving DecidableEq, Repr

/-- An exception raised with the state reached so far left as it is (R723). -/
def excLeaving (vec : Byte) (code : Word) (s : State) : Stop := .exc vec (some code) (some s)

/-- A TSS descriptor, available or busy: bits 0-4 of the access byte are 00001 or 00011 (R711). -/
def Desc.isTss (d : Desc) : Bool := arIsType d.ar 1 || arIsType d.ar 3

/-- The address in the GDT of the descriptor a selector with TI = 0 names (R135). -/
def State.gdtAddr (s : State) (sel : Word) : PAddr := s.gdtr.base + (sel &&& 0xFFF8).setWidth 24

/-- A selector outside the GDT, or with TI = 1 (R478, R503, R720, R841). -/
def State.inGdt (s : State) (sel : Word) : Bool :=
  !sel.getLsbD 2 && decide ((sel &&& 0xFFF8).toNat + 7 ≤ s.gdtr.limit.toNat)

/-- Step 3 of the switch: the outgoing state saved in the current TSS (R710, R720). -/
def State.saveTask (s : State) (outIp : Word) (f : Flags) : State :=
  let b := s.tr.base
  let w (k : PAddr) (v : Word) (t : State) : State := t.writePhys16 (b + k) v
  s |> w 14 outIp |> w 16 f.toWord
    |> w 18 s.regs.ax |> w 20 s.regs.cx |> w 22 s.regs.dx |> w 24 s.regs.bx
    |> w 26 s.regs.sp |> w 28 s.regs.bp |> w 30 s.regs.si |> w 32 s.regs.di
    |> w 34 s.es.sel |> w 36 s.cs.sel |> w 38 s.ss.sel |> w 40 s.ds.sel

/-- A segment register with a new selector and no descriptor yet (R720 step 7). -/
def SegReg.unloaded (x : SegReg) (sel : Word) : SegReg := { x with sel, valid := false }

/-- Steps 7-9: every register from the new TSS without loading descriptors, the NT flag, and MSW.TS (R720). -/
def State.loadTask (s : State) (nesting : Bool) (cause : SwitchCause) : State :=
  let r (k : PAddr) : Word := (s.reading .task).readPhys16 (s.tr.base + k)
  let f := Flags.ofWord (r 16)
  { s with
    ip := r 14
    dec := {}
    flags := { f with nt := if nesting then true else if cause = .jmp then false else f.nt }
    regs := { ax := r 18, cx := r 20, dx := r 22, bx := r 24, sp := r 26, bp := r 28, si := r 30, di := r 32 }
    es := s.es.unloaded (r 34)
    cs := s.cs.unloaded (r 36)
    ss := s.ss.unloaded (r 38)
    ds := s.ds.unloaded (r 40)
    ldtr := { s.ldtr with sel := r 42, valid := false }
    msw := { s.msw with ts := true } }

/-- Step 10: the LDT of the new task, loaded under bus LOCK; a null selector leaves it invalid (R125, R720, D31). -/
def State.loadTaskLdt (s : State) (ext : Word) : Run State :=
  let l := s.ldtr.sel
  let e := excLeaving 10 (selCode l + ext) s
  if isNull l then .ok s
  else do
    check (s.inGdt l) e
    let d := (s.reading .ldt).descAt (s.gdtAddr l)
    check (arIsType d.ar 2) e
    check (arPresent d.ar) e
    pure { s.lockBus with ldtr := { sel := l, base := d.base, limit := d.limit, valid := true } }

/-- Step 12: the stack segment of the new task (R720). -/
def State.loadTaskSs (s : State) (ext : Word) : Run State := do
  let x := s.ss.sel
  let e := excLeaving 10 (selCode x + ext) s
  check (!isNull x) e
  let d ← (s.reading .stackSeg).desc x e
  check (rplOf x == s.cpl) e
  check (arDpl d.ar == s.cpl) e
  check d.isWritableData e
  check (arPresent d.ar) (excLeaving 12 (selCode x + ext) s)
  pure (s.loadCache .ss x d)

/-- Step 13: the code segment of the new task (R720). -/
def State.loadTaskCs (s : State) (ext : Word) : Run State := do
  let x := s.cs.sel
  let e := excLeaving 10 (selCode x + ext) s
  check (!isNull x) e
  let d ← (s.reading .codeSeg).desc x e
  check d.isCode e
  check (if d.isConforming then decide (arDpl d.ar ≤ s.cpl) else arDpl d.ar == s.cpl) e
  check (arPresent d.ar) (excLeaving 11 (selCode x + ext) s)
  pure (s.loadCache .cs x d)

/-- Step 14 for one of DS and ES; a null selector leaves it invalid (R720). -/
def State.loadTaskData (s : State) (r : SReg) (part : Part) (ext : Word) : Run State :=
  let x := (s.seg r).sel
  let e := excLeaving 10 (selCode x + ext) s
  if isNull x then .ok s
  else do
    let d ← (s.reading part).desc x e
    check d.isDataOrReadable e
    check (d.isConforming || (decide (s.cpl ≤ arDpl d.ar) && decide (rplOf x ≤ arDpl d.ar))) e
    check (arPresent d.ar) (excLeaving 11 (selCode x + ext) s)
    pure (s.loadCache r x d)

/-- Steps 3-5: the outgoing task saved, linked or marked available, and TR replaced (R720, R722). -/
def State.leaveTask (s : State) (nsel : Word) (nd : Desc) (nesting : Bool) (cause : SwitchCause) (outIp : Word) : State :=
  let f := if cause = .iret then { s.flags with nt := false } else s.flags
  let s3 := s.saveTask outIp f
  let od := s3.gdtAddr s3.tr.sel
  let s4 :=
    if nesting then s3.writePhys16 nd.base s3.tr.sel
    else s3.writePhys (od + 5) ((s3.reading .oldTask).readPhys (od + 5) &&& 0xFD)
  { s4 with tr := { sel := nsel, base := nd.base, limit := nd.limit, valid := true } }

/-- `SwitchTasks(nsel, nesting, cause)` with the descriptor `nd` of `nsel` already read and checked by the caller; `ext`
is the EXT bit of the event that started the switch, 0 for an instruction. Bus LOCK is asserted for step 1
(R125, R720, R841). -/
def State.switchTasks (s : State) (nsel : Word) (nd : Desc) (nesting : Bool) (cause : SwitchCause) (outIp : Word)
    (ext : Word) : Run State := do
  let code := selCode nsel + ext
  let s1 := s.lockBus.writePhys (nd.addr + 5) (nd.ar ||| 2)
  check (s1.tr.valid && decide (41 ≤ s1.tr.limit.toNat)) (excLeaving 10 code s1)
  let s5 := s1.leaveTask nsel nd nesting cause outIp
  check (decide (43 ≤ s5.tr.limit.toNat)) (excLeaving 10 code s5)
  let s9 := s5.loadTask nesting cause
  let s10 ← s9.loadTaskLdt ext
  let s12 ← s10.loadTaskSs ext
  let s13 ← s12.loadTaskCs ext
  let sDs ← s13.loadTaskData .ds .dsSeg ext
  sDs.loadTaskData .es .esSeg ext

/-- The caller's last test after a switch: the new IP inside the new code segment, else #GP in the new task
(R478, R713). -/
def State.checkTaskIp (s : State) (ext : Word) : Run State := do
  check (decide (s.ip.toNat ≤ s.cs.limit.toNat)) (excLeaving 13 ext s)
  pure s

end Sys2Proof.Machine
end

