-- ==== Sys2Proof/Machine/Ops.lean ====
section
/-!
DEFINITION. Taking an interrupt or exception, in real mode and through the IDT, its escalation to double fault and shutdown,
and the return from one (spec/60_exceptions.md R805, R806, R820-R848, R880, R905; spec/43_control_transfer.md R489, R492,
R500-R503).
-/

namespace Sys2Proof.Machine

/-- The three kinds of event: a software interrupt, an exception of an instruction, an event external to the program
(R800). -/
inductive Kind | sw | exc | ext
  deriving DecidableEq, Repr

/-- `Interrupt(vec, kind, ret, code)` (R845). -/
structure Event where
  vec : Byte
  kind : Kind
  ret : Word
  code : Option Word
  deriving DecidableEq, Repr

/-- The EXT bit of the error codes raised while delivering an event: 1 for external events and for exceptions 7 and 16
(R806, D40). -/
def Event.extBit (e : Event) : Word :=
  match e.kind with
  | .ext => 1
  | .exc => if e.vec = 7 ∨ e.vec = 16 then 1 else 0
  | .sw => 0

/-- The vector is one whose failed delivery is a double fault (R880). -/
def contributory (vec : Byte) : Bool := vec == 0 || vec == 10 || vec == 11 || vec == 12 || vec == 13

/-- `Push(v)` after the room has been checked (R160). -/
def State.pushRaw (s : State) (v : Word) : State :=
  (s.writePhys16 (s.ss.lin (s.regs.sp - 2)) v).setSp (s.regs.sp - 2)

/-- The `n` words below `sp` lie inside the limits of `x`, word by word (R477, R840). -/
def SegReg.room (x : SegReg) (sp : Word) : Nat → Bool
  | 0 => true
  | n + 1 => x.room sp n && x.inLimit (sp - BitVec.ofNat 16 (2 * (n + 1))) 2

/-- The cache of CS loaded with a code segment, its selector's RPL made `p`, and the Accessed bit written
(R473, R840). -/
def State.loadCs (s : State) (sel : Word) (d : Desc) (p : BitVec 2) : State :=
  s.loadCache .cs (withRpl sel p) d

/-- A real-mode load of CS with a new IP (R60, R471). -/
def State.farReal (s : State) (sel off : Word) : State :=
  { s with cs := s.cs.realLoad sel, ip := off, dec := {} }

/-- The SP and SS that the current TSS holds for level `l`, with TR loaded and long enough (R477, R840, D24). -/
def State.innerStack (s : State) (l : BitVec 2) : Run (Word × Word) := do
  check (s.tr.valid && decide (4 * l.toNat + 5 ≤ s.tr.limit.toNat)) (.refuse .trNotLoaded)
  let a := s.tr.base + BitVec.ofNat 24 (4 * l.toNat)
  let r := s.reading .innerStack
  pure (r.readPhys16 (a + 2), r.readPhys16 (a + 4))

/-- The checks on the stack segment of an inner level (R477, R840). -/
def State.innerStackDesc (s : State) (nss : Word) (l : BitVec 2) (ext : Word) : Run Desc := do
  let e := excTs (selCode nss + ext)
  check (!isNull nss) (excTs ext)
  let d ← (s.reading .stackSeg).desc nss e
  check (rplOf nss == l) e
  check (arDpl d.ar == l) e
  check d.isWritableData e
  check (arPresent d.ar) (excSs (selCode nss + ext))
  pure d

/-- SS:SP loaded from the TSS (R477, R840). -/
def State.loadInnerStack (s : State) (nss nsp : Word) (d : Desc) : State :=
  (s.loadCache .ss nss d).setSp nsp

/-- The vector's entry in the real-mode table: new IP and new CS (R830). -/
def State.realVector (s : State) (vec : Byte) : Word × Word :=
  let a := s.idtr.base + vec.setWidth 24 <<< 2
  (s.readPhys16 a, s.readPhys16 (a + 2))

/-- `EnterReal(vec, ret)` (R830, D41, D42). -/
def State.enterReal (s : State) (e : Event) : Run State := do
  check (decide (e.vec.toNat * 4 + 3 ≤ s.idtr.limit.toNat)) (.exc 8 none none)
  check (s.canPush 3) (excGp 0)
  let p := ((s.pushRaw s.flags.toWord).pushRaw s.cs.sel).pushRaw e.ret
  let v := p.realVector e.vec
  pure ({ p with flags := { p.flags with ie := false, tf := false } }.farReal v.2 v.1)

/-- `TaskGateEntry(tsel, ret, code)` (R841). -/
def State.taskGateEntry (s : State) (tsel : Word) (e : Event) : Run State := do
  let x := e.extBit
  let ec := selCode tsel + x
  check (s.inGdt tsel) (excGp ec)
  let t := (s.reading .target).descAt (s.gdtAddr tsel)
  check (arIsType t.ar 1) (excGp ec)
  check (arPresent t.ar) (excNp ec)
  let n ← s.switchTasks tsel t true .int e.ret x
  match e.code with
  | none => n.checkTaskIp x
  | some c => do
    check (n.canPush 1) (excLeaving 12 x n)
    (n.pushRaw c).checkTaskIp x

/-- The words an entry pushes after the old stack pointer: FLAGS, CS and the return offset (R840, R844). -/
def State.pushFrame (s : State) (f cs ret : Word) : State := ((s.pushRaw f).pushRaw cs).pushRaw ret

/-- The error code, if there is one, pushed last (R844). -/
def State.pushCode (s : State) (code : Option Word) : State :=
  match code with
  | none => s
  | some c => s.pushRaw c

/-- The end of an entry through an interrupt or trap gate: IP, and IF, TF and NT (R840). -/
def State.enterHandler (s : State) (off : Word) (intGate : Bool) : State :=
  { s with
    ip := off
    dec := {}
    flags := { s.flags with ie := if intGate then false else s.flags.ie, tf := false, nt := false } }

/-- The branch of `EnterProt` to an inner level (R840). -/
def State.enterInner (s : State) (e : Event) (g c : Desc) (n : Nat) : Run State := do
  let x := e.extBit
  let l := arDpl c.ar
  let stk ← s.innerStack l
  let d ← s.innerStackDesc stk.2 l x
  let new := d.toSeg stk.2
  check (new.room stk.1 (n + 2)) (excSs x)
  check (decide (g.gateOffset.toNat ≤ c.limit.toNat)) (excGp x)
  let a := (s.loadInnerStack stk.2 stk.1 d).loadCs g.gateSel c l
  let b := (a.pushRaw s.ss.sel).pushRaw s.regs.sp
  pure ((b.pushFrame s.flags.toWord s.cs.sel e.ret).pushCode e.code)

/-- The branch of `EnterProt` at the same level (R840). -/
def State.enterSame (s : State) (e : Event) (g c : Desc) (n : Nat) : Run State := do
  let x := e.extBit
  check (s.canPush n) (excSs x)
  check (decide (g.gateOffset.toNat ≤ c.limit.toNat)) (excGp x)
  let a := s.pushFrame s.flags.toWord s.cs.sel e.ret
  pure ((a.loadCs g.gateSel c s.cpl).pushCode e.code)

/-- `EnterProt(vec, kind, ret, code)` (R840). -/
def State.enterProt (s : State) (e : Event) : Run State := do
  let x := e.extBit
  let iec := BitVec.ofNat 16 (e.vec.toNat * 8 + 2) + x
  check (decide (e.vec.toNat * 8 + 7 ≤ s.idtr.limit.toNat)) (excGp iec)
  let g := s.descAt (s.idtr.base + BitVec.ofNat 24 (e.vec.toNat * 8))
  let isTask := arIsType g.ar 5
  let isInt := arIsType g.ar 6
  check (isTask || isInt || arIsType g.ar 7) (excGp iec)
  check (e.kind != .sw || decide (s.cpl ≤ arDpl g.ar)) (excGp iec)
  check (arPresent g.ar) (excNp iec)
  if isTask then s.taskGateEntry g.gateSel e
  else do
    let cec := selCode g.gateSel + x
    check (!isNull g.gateSel) (excGp x)
    let c ← (s.reading .target).desc g.gateSel (excGp cec)
    check c.isCode (excGp cec)
    check (arPresent c.ar) (excNp cec)
    let n := match e.code with
      | none => 3
      | some _ => 4
    let inner := !c.isConforming && decide (arDpl c.ar < s.cpl)
    check (decide (arDpl c.ar ≤ s.cpl)) (excGp cec)
    let t ← if inner then s.enterInner e g c n else s.enterSame e g c n
    pure (t.enterHandler g.gateOffset isInt)

/-- One attempt at delivering an event, in the mode PE gives at that time (R845). -/
def State.enter (s : State) (e : Event) : Run State :=
  if s.prot then s.enterProt e else s.enterReal e

/-- The state in which reads are of the `n`-th attempt at delivering an interrupt or exception (R12, note 10). -/
def State.attempt (s : State) (n : Nat) : State := { s with use := { s.use with attempt := n } }

/-- Shutdown: nothing else changes (R905). -/
def State.shutdown (s : State) : State := { s with runState := .shutdown, dec := {} }

/-- The double fault, exception 8 with code 0; if it cannot be delivered, shutdown (R880, R905, D46). -/
def State.doubleFault (s : State) : Except Refusal State :=
  match (s.attempt 3).enter { vec := 8, kind := .exc, ret := s.ip, code := some 0 } with
  | .ok t => .ok t
  | .error (.exc _ _ left) => .ok (left.getD s).shutdown
  | .error (.refuse r) => .error r

/-- The exception `fv` raised by a failed delivery, itself a contributory one (vector 8: the real-mode limit failure,
which is the double fault's delivery) (R880, R832). -/
def State.deliverFailure (s : State) (fv : Byte) (fc : Option Word) : Except Refusal State :=
  if fv = 8 then s.doubleFault
  else
    match (s.attempt 2).enter { vec := fv, kind := .exc, ret := s.ip, code := fc } with
    | .ok t => .ok t
    | .error (.exc _ _ left) => (left.getD s).doubleFault
    | .error (.refuse r) => .error r

/-- An event delivered, or, if that fails, what its failure raises (R845, R880). -/
def State.escalate (s : State) (e : Event) : Except Refusal State :=
  match (s.attempt 1).enter e with
  | .ok t => .ok t
  | .error (.refuse r) => .error r
  | .error (.exc fv fc left) =>
    let t := left.getD s
    if e.kind = .exc ∧ e.vec = 8 then .ok t.shutdown
    else if e.kind = .exc ∧ contributory e.vec = true then t.doubleFault
    else t.deliverFailure fv fc

/-- TAKING AN INTERRUPT OR EXCEPTION: `Interrupt(vec, kind, ret, code)` with the escalation of a failed delivery
(R845, R880). -/
def State.deliver (s : State) (e : Event) : Except Refusal State :=
  match s.escalate e with
  | .ok t => .ok { t with use := s.use }
  | .error r => .error r

/-- The exception an instruction raises: delivered on the state R820 gives, with the saved IP at the instruction's first
byte (R820, R845). -/
def State.takeException (s : State) (vec : Byte) (code : Option Word) : Except Refusal State :=
  s.deliver { vec, kind := .exc, ret := s.ip, code }

/-- How a meaning becomes the outcome of an instruction: it completes, or its exception is taken, or it is refused. -/
def State.finish (s : State) (r : Run State) : Host.Outcome State Fault Refusal :=
  match r with
  | .ok t => .next t
  | .error (.refuse q) => .refused q
  | .error (.exc vec code left) =>
    match (left.getD s).takeException vec code with
    | .ok t => .next t
    | .error q => .refused q

/-- `LoadFlags(f, cpl0)` and its real-mode form: IOPL only at CPL 0, IF only with CPL at most IOPL, and in real mode IOPL
and NT unmodified (R500, R323, D10). -/
def State.loadFlags (s : State) (w : Word) : Flags :=
  let f := Flags.ofWord w
  let old := s.flags
  { f with
    ie := if s.cpl ≤ old.iopl then f.ie else old.ie
    iopl := if s.prot = true ∧ s.cpl = 0 then f.iopl else old.iopl
    nt := if s.prot = true then f.nt else old.nt }

/-- The tests on a return's code segment; the level returned to is the selector's RPL (R488, R489, R501, R502). -/
def State.returnCode (s : State) (rs : Word) : Run Desc := do
  let e := excGp (selCode rs)
  check (!isNull rs) (excGp 0)
  let c ← (s.reading .target).desc rs e
  check c.isCode e
  check (if c.isConforming then decide (arDpl c.ar ≤ rplOf rs) else arDpl c.ar == rplOf rs) e
  check (arPresent c.ar) (excNp (selCode rs))
  pure c

/-- The tests on the stack segment of a return to an outer level `n` (R489, R502). -/
def State.returnStack (s : State) (ns : Word) (n : BitVec 2) : Run Desc := do
  let e := excGp (selCode ns)
  check (!isNull ns) (excGp 0)
  let d ← (s.reading .stackSeg).desc ns e
  check (rplOf ns == n) e
  check d.isWritableData e
  check (arDpl d.ar == n) e
  check (arPresent d.ar) (excSs (selCode ns))
  pure d

/-- `NullIfInvalid(X)` at the new, outer level (R492, D26). -/
def State.nullIfInvalid (s : State) (r : SReg) : State :=
  let x := s.seg r
  let inTable := match s.desc? x.sel with
    | none => false
    | some _ => true
  let usable := arSegment x.ar && (!arExec x.ar || arReadWrite x.ar)
  let allowed := (arExec x.ar && arConfDown x.ar)
    || (decide (s.cpl ≤ arDpl x.ar) && decide (rplOf x.sel ≤ arDpl x.ar))
  if x.valid && !(inTable && usable && allowed) then
    s.setSeg r { x with sel := 0, ar := 0, valid := false }
  else s

/-- The word `k` bytes above SP (R488). -/
def State.stackWord (s : State) (k : Word) : Run Word := s.readSeg16 .ss (s.regs.sp + k)

/-- A completed IRET unmasks NMI (R500, R812). -/
def State.nmiDone (s : State) : State := { s with nmiInService := false }

/-- IRET in real mode (R500). -/
def State.iretReal (s : State) : Run State := do
  let t ← s.stackWord 0
  let c ← s.stackWord 2
  let f ← s.stackWord 4
  pure (({ s with flags := s.loadFlags f }.farReal c t).setSp (s.regs.sp + 6)).nmiDone

/-- IRET to the same level (R501). -/
def State.iretSame (s : State) (rs : Word) : Run State := do
  let t ← s.stackWord 0
  let f ← s.stackWord 4
  let c ← s.returnCode rs
  check (decide (t.toNat ≤ c.limit.toNat)) (excGp 0)
  let a := { s with flags := s.loadFlags f }.loadCs rs c (rplOf rs)
  pure ((a.goto t).setSp (s.regs.sp + 6)).nmiDone

/-- IRET to an outer level (R502). -/
def State.iretOuter (s : State) (rs : Word) : Run State := do
  let t ← s.stackWord 0
  let f ← s.stackWord 4
  let nsp ← s.stackWord 6
  let ns ← s.stackWord 8
  let c ← s.returnCode rs
  let d ← s.returnStack ns (rplOf rs)
  check (decide (t.toNat ≤ c.limit.toNat)) (excGp 0)
  let a := { s with flags := s.loadFlags f }.loadCs rs c (rplOf rs)
  let b := (((a.goto t).loadCache .ss ns d).setSp nsp)
  pure ((b.nullIfInvalid .ds).nullIfInvalid .es).nmiDone

/-- IRET with NT = 1: the task return (R503). -/
def State.iretTask (s : State) : Run State := do
  let bl := (s.reading .backLink).readPhys16 s.tr.base
  let e := excTs (selCode bl)
  check (s.inGdt bl) e
  let t := (s.reading .target).descAt (s.gdtAddr bl)
  check (arIsType t.ar 3) e
  check (arPresent t.ar) (excNp (selCode bl))
  let n ← s.switchTasks bl t false .iret s.nextIp 0
  let m ← n.checkTaskIp 0
  pure m.nmiDone

/-- THE RETURN FROM AN INTERRUPT OR EXCEPTION: IRET (R500-R503). -/
def State.iret (s : State) : Run State :=
  if !s.prot then s.iretReal
  else if s.flags.nt then s.iretTask
  else do
    let rs ← s.stackWord 2
    check (decide (s.cpl ≤ rplOf rs)) (excGp (selCode rs))
    if rplOf rs = s.cpl then s.iretSame rs else s.iretOuter rs

end Sys2Proof.Machine
end

