-- ==== Sys2Proof/Machine/Operands.lean ====
section
/-!
DEFINITION. The operand forms: byte and word registers, effective addresses with their segment, and the ModRM operands
(spec/10_state.md R41, R42; spec/20_memory.md R129; spec/30_encoding.md R225, R234, R236; spec/40_data_movement.md R301).
-/

namespace Sys2Proof

/-- The word register a byte register is half of (R42). -/
def Reg8.whole : Reg8 → Reg16
  | .al => .ax
  | .cl => .cx
  | .dl => .dx
  | .bl => .bx
  | .ah => .ax
  | .ch => .cx
  | .dh => .dx
  | .bh => .bx

/-- Whether a byte register is the high half (R42). -/
def Reg8.isHigh : Reg8 → Bool
  | .al => false
  | .cl => false
  | .dl => false
  | .bl => false
  | .ah => true
  | .ch => true
  | .dh => true
  | .bh => true

end Sys2Proof

namespace Sys2Proof.Machine

/-- A word register's value (R41). -/
def Regs.get (r : Regs) : Reg16 → Word
  | .ax => r.ax
  | .cx => r.cx
  | .dx => r.dx
  | .bx => r.bx
  | .sp => r.sp
  | .bp => r.bp
  | .si => r.si
  | .di => r.di

/-- The registers with one word register replaced (R41). -/
def Regs.set (r : Regs) : Reg16 → Word → Regs
  | .ax, v => { r with ax := v }
  | .cx, v => { r with cx := v }
  | .dx, v => { r with dx := v }
  | .bx, v => { r with bx := v }
  | .sp, v => { r with sp := v }
  | .bp, v => { r with bp := v }
  | .si, v => { r with si := v }
  | .di, v => { r with di := v }

/-- A byte register's value (R42). -/
def Regs.get8 (r : Regs) (x : Reg8) : Byte :=
  if x.isHigh then (r.get x.whole).hi else (r.get x.whole).lo

/-- The registers with one byte register replaced, the other half kept (R42). -/
def Regs.set8 (r : Regs) (x : Reg8) (v : Byte) : Regs :=
  let w := r.get x.whole
  r.set x.whole (if x.isHigh then Word.ofBytes w.lo v else Word.ofBytes v w.hi)

end Sys2Proof.Machine

namespace Sys2Proof

open Sys2Proof.Machine

/-- The register part of an address form (R234). -/
def Base.value (b : Base) (r : Regs) : Word :=
  match b with
  | .bxsi => r.bx + r.si
  | .bxdi => r.bx + r.di
  | .bpsi => r.bp + r.si
  | .bpdi => r.bp + r.di
  | .si => r.si
  | .di => r.di
  | .bp => r.bp
  | .bx => r.bx

/-- The default segment of an address form: SS when BP is in it (R129, R234). -/
def Base.seg : Base → SReg
  | .bxsi => .ds
  | .bxdi => .ds
  | .bpsi => .ss
  | .bpdi => .ss
  | .si => .ds
  | .di => .ds
  | .bp => .ss
  | .bx => .ds

/-- The offset of a memory operand, modulo 2^16 (R130, R236). -/
def Mem.off (m : Mem) (r : Regs) : Word :=
  match m with
  | .direct d => d
  | .ind b => b.value r
  | .disp8 b d => b.value r + d.signExtend 16
  | .disp16 b d => b.value r + d

/-- The default segment of a memory operand (R129, R234). -/
def Mem.seg : Mem → SReg
  | .direct _ => .ds
  | .ind b => b.seg
  | .disp8 b _ => b.seg
  | .disp16 b _ => b.seg

/-- The memory operand of a row that requires one; a register form raises #UD (R261). -/
def E16.memOnly : E16 → Run Mem
  | .reg _ => .error excUd
  | .mem m => .ok m

end Sys2Proof

namespace Sys2Proof.Machine

/-- `reg16[i]` (R41). -/
def State.get16 (s : State) (r : Reg16) : Word := s.regs.get r

/-- `reg16[i] <- v` (R41). -/
def State.set16 (s : State) (r : Reg16) (v : Word) : State := { s with regs := s.regs.set r v }

/-- `reg8[i]` (R42). -/
def State.get8 (s : State) (r : Reg8) : Byte := s.regs.get8 r

/-- `reg8[i] <- v` (R42). -/
def State.set8 (s : State) (r : Reg8) (v : Byte) : State := { s with regs := s.regs.set8 r v }

/-- CX decremented, no flag changed (R455, R551). -/
def State.decCx (s : State) : State := s.set16 .cx (s.regs.cx - 1)

/-- The state with the flags replaced. -/
def State.setFlags (s : State) (f : Flags) : State := { s with flags := f }

/-- The segment override if there is one, else the default (R225). -/
def State.override (s : State) (x : SReg) : SReg := s.dec.seg.getD x

/-- The segment of `EA(modrm)` (R236). -/
def State.eaSeg (s : State) (m : Mem) : SReg := s.override m.seg

/-- The offset of `EA(modrm)` (R236). -/
def State.eaOff (s : State) (m : Mem) : Word := m.off s.regs

/-- `ReadE(8)` (R301). -/
def State.readE8 (s : State) : E8 → Run Byte
  | .reg r => .ok (s.get8 r)
  | .mem m => s.readSeg8 (s.eaSeg m) (s.eaOff m)

/-- `ReadE(16)` (R301). -/
def State.readE16 (s : State) : E16 → Run Word
  | .reg r => .ok (s.get16 r)
  | .mem m => s.readSeg16 (s.eaSeg m) (s.eaOff m)

/-- `WriteE(8, v)` (R301). -/
def State.writeE8 (s : State) (e : E8) (v : Byte) : Run State :=
  match e with
  | .reg r => .ok (s.set8 r v)
  | .mem m => s.writeSeg8 (s.eaSeg m) (s.eaOff m) v

/-- `WriteE(16, v)` (R301). -/
def State.writeE16 (s : State) (e : E16) (v : Word) : Run State :=
  match e with
  | .reg r => .ok (s.set16 r v)
  | .mem m => s.writeSeg16 (s.eaSeg m) (s.eaOff m) v

/-- Bus LOCK asserted for an exchange with a byte operand, if that is in memory (R125, R311). -/
def State.lockE8 (s : State) (e : E8) : State :=
  match e with
  | .reg _ => s
  | .mem _ => s.lockBus

/-- Bus LOCK asserted for an exchange with a word operand, if that is in memory (R125, R311). -/
def State.lockE16 (s : State) (e : E16) : State :=
  match e with
  | .reg _ => s
  | .mem _ => s.lockBus

/-- A pointer operand: offset word, selector word, the whole operand checked first (R470, R147). -/
def State.readPointer (s : State) (e : E16) : Run (Word × Word) := do
  let m ← e.memOnly
  s.readSeg32 (s.eaSeg m) (s.eaOff m)

/-- The stop of a computation whose exception leaves the state `t` behind (R149, R317). -/
def leaving {α : Type} (t : State) (r : Run α) : Run α :=
  match r with
  | .ok v => .ok v
  | .error (.exc vec code _) => .error (.exc vec code (some t))
  | .error (.refuse q) => .error (.refuse q)

/-- What `exec` answers. -/
abbrev Out := Host.Outcome State Fault Refusal

end Sys2Proof.Machine
end

