-- ==== Sys2Proof/Machine/Alu.lean ====
section
/-!
DEFINITION. The shared operations of the arithmetic, logical and shift instructions over their operand forms
(spec/41_arithmetic.md R350-R365; spec/42_logic_shift.md R400-R416).
-/

namespace Sys2Proof.Machine

/-- The two-operand operations of the nine-row families (R352, R400). -/
inductive AluOp | add | or | adc | sbb | and | sub | xor
  deriving DecidableEq, Repr

/-- The result of a two-operand operation; `c` is CF before the instruction (R353-R357, R401-R403). -/
def AluOp.result {w : Nat} (op : AluOp) (c : Bool) (a b : BitVec w) : BitVec w :=
  match op with
  | .add => addResult a b false
  | .adc => addResult a b c
  | .sub => subResult a b false
  | .sbb => subResult a b c
  | .and => a &&& b
  | .or => a ||| b
  | .xor => a ^^^ b

/-- The flags of a two-operand operation; `n` is the counter of the free values (R351, R400). -/
def AluOp.flags {w : Nat} (op : AluOp) (f : Flags) (n : Nat) (a b : BitVec w) : Flags :=
  match op with
  | .add => f.add a b false
  | .adc => f.add a b f.cf
  | .sub => f.sub a b false
  | .sbb => f.sub a b f.cf
  | .and => f.logic n (a &&& b)
  | .or => f.logic n (a ||| b)
  | .xor => f.logic n (a ^^^ b)

/-- ADC and SBB, whose refused write is not restartable (R149). -/
def AluOp.usesCarry : AluOp → Bool
  | .adc => true
  | .sbb => true
  | .add => false
  | .sub => false
  | .and => false
  | .or => false
  | .xor => false

/-- What a refused write of a two-operand operation leaves: the flags free for ADC and SBB, nothing changed otherwise
(R149, R354, D12). -/
def State.aluRefused (s : State) (op : AluOp) : State :=
  if op.usesCarry then s.setFlags (s.flags.free s.free) else s

/-- `op eb,src` (R352). -/
def State.aluE8 (s : State) (op : AluOp) (e : E8) (b : Byte) : Run State := do
  let a ← s.readE8 e
  let t ← leaving (s.aluRefused op) (s.writeE8 e (op.result s.flags.cf a b))
  pure (t.setFlags (op.flags s.flags s.free a b)).advance

/-- `op ew,src` (R352). -/
def State.aluE16 (s : State) (op : AluOp) (e : E16) (b : Word) : Run State := do
  let a ← s.readE16 e
  let t ← leaving (s.aluRefused op) (s.writeE16 e (op.result s.flags.cf a b))
  pure (t.setFlags (op.flags s.flags s.free a b)).advance

/-- `op rb,eb` (R352). -/
def State.aluR8 (s : State) (op : AluOp) (r : Reg8) (e : E8) : Run State := do
  let b ← s.readE8 e
  let a := s.get8 r
  pure ((s.set8 r (op.result s.flags.cf a b)).setFlags (op.flags s.flags s.free a b)).advance

/-- `op rw,ew` (R352). -/
def State.aluR16 (s : State) (op : AluOp) (r : Reg16) (e : E16) : Run State := do
  let b ← s.readE16 e
  let a := s.get16 r
  pure ((s.set16 r (op.result s.flags.cf a b)).setFlags (op.flags s.flags s.free a b)).advance

/-- `CMP eb,src`: only the flags (R359). -/
def State.cmpE8 (s : State) (e : E8) (b : Byte) : Run State := do
  let a ← s.readE8 e
  pure (s.setFlags (s.flags.sub a b false)).advance

/-- `CMP ew,src`: only the flags (R359). -/
def State.cmpE16 (s : State) (e : E16) (b : Word) : Run State := do
  let a ← s.readE16 e
  pure (s.setFlags (s.flags.sub a b false)).advance

/-- `CMP rb,eb` (R359). -/
def State.cmpR8 (s : State) (r : Reg8) (e : E8) : Run State := do
  let b ← s.readE8 e
  pure (s.setFlags (s.flags.sub (s.get8 r) b false)).advance

/-- `CMP rw,ew` (R359). -/
def State.cmpR16 (s : State) (r : Reg16) (e : E16) : Run State := do
  let b ← s.readE16 e
  pure (s.setFlags (s.flags.sub (s.get16 r) b false)).advance

/-- `TEST eb,src`: only the flags (R405). -/
def State.testE8 (s : State) (e : E8) (b : Byte) : Run State := do
  let a ← s.readE8 e
  pure (s.setFlags (s.flags.logic s.free (a &&& b))).advance

/-- `TEST ew,src`: only the flags (R405). -/
def State.testE16 (s : State) (e : E16) (b : Word) : Run State := do
  let a ← s.readE16 e
  pure (s.setFlags (s.flags.logic s.free (a &&& b))).advance

/-- The flags of INC: those of adding 1 with CF kept (R355). -/
def Flags.inc {w : Nat} (f : Flags) (a : BitVec w) : Flags := { f.add a 1 false with cf := f.cf }

/-- The flags of DEC: those of subtracting 1 with CF kept (R358). -/
def Flags.dec {w : Nat} (f : Flags) (a : BitVec w) : Flags := { f.sub a 1 false with cf := f.cf }

/-- A byte operand replaced by a function of it, with flags computed from it (R355, R358, R360, R404). -/
def State.updateE8 (s : State) (e : E8) (g : Byte → Byte) (fl : Byte → Flags) : Run State := do
  let a ← s.readE8 e
  let t ← s.writeE8 e (g a)
  pure (t.setFlags (fl a)).advance

/-- A word operand replaced by a function of it, with flags computed from it (R355, R358, R360, R404). -/
def State.updateE16 (s : State) (e : E16) (g : Word → Word) (fl : Word → Flags) : Run State := do
  let a ← s.readE16 e
  let t ← s.writeE16 e (g a)
  pure (t.setFlags (fl a)).advance

/-- AX replaced. -/
def State.setAx (s : State) (v : Word) : State := s.set16 .ax v

/-- DX and AX replaced. -/
def State.setDxAx (s : State) (dx ax : Word) : State := (s.set16 .dx dx).set16 .ax ax

/-- MUL eb: AX gets AL times the operand (R361). -/
def State.mul8 (s : State) (e : E8) : Run State := do
  let b ← s.readE8 e
  let p : Word := BitVec.ofNat 16 ((s.get8 .al).toNat * b.toNat)
  pure ((s.setAx p).setFlags (s.flags.mul s.free (p.hi != 0))).advance

/-- MUL ew: DX:AX gets AX times the operand (R361). -/
def State.mul16 (s : State) (e : E16) : Run State := do
  let b ← s.readE16 e
  let p := BitVec.ofNat 32 ((s.get16 .ax).toNat * b.toNat)
  let dx := p.extractLsb' 16 16
  pure ((s.setDxAx dx (p.extractLsb' 0 16)).setFlags (s.flags.mul s.free (dx != 0))).advance

/-- IMUL eb: the signed product in AX (R362). -/
def State.imul8 (s : State) (e : E8) : Run State := do
  let b ← s.readE8 e
  let p : Word := BitVec.ofInt 16 ((s.get8 .al).toInt * b.toInt)
  pure ((s.setAx p).setFlags (s.flags.mul s.free (p != p.lo.signExtend 16))).advance

/-- IMUL ew: the signed product in DX:AX (R362). -/
def State.imul16 (s : State) (e : E16) : Run State := do
  let b ← s.readE16 e
  let p := BitVec.ofInt 32 ((s.get16 .ax).toInt * b.toInt)
  let dx := p.extractLsb' 16 16
  let ax := p.extractLsb' 0 16
  pure ((s.setDxAx dx ax).setFlags (s.flags.mul s.free (dx != if ax.msb then 0xFFFF else 0))).advance

/-- IMUL rw,ew,imm: the low word of the signed product in a register (R363). -/
def State.imulImm (s : State) (r : Reg16) (e : E16) (i : Word) : Run State := do
  let b ← s.readE16 e
  let p := b.toInt * i.toInt
  let fits := decide (-32768 ≤ p) && decide (p ≤ 32767)
  pure ((s.set16 r (BitVec.ofInt 16 p)).setFlags (s.flags.mul s.free !fits)).advance

/-- The divide error: vector 0, registers as before, the six status flags free (R364, D5). -/
def State.divideError (s : State) : Stop := .exc 0 none (some (s.setFlags (s.flags.free s.free)))

/-- DIV eb (R364). -/
def State.div8 (s : State) (e : E8) : Run State := do
  let d ← s.readE8 e
  check (d != 0) s.divideError
  let n := (s.get16 .ax).toNat
  let q := n / d.toNat
  check (decide (q ≤ 0xFF)) s.divideError
  let ax := Word.ofBytes (BitVec.ofNat 8 q) (BitVec.ofNat 8 (n % d.toNat))
  pure ((s.setAx ax).setFlags (s.flags.free s.free)).advance

/-- The dividend DX:AX as a number (R364). -/
def State.dxAx (s : State) : BitVec 32 := s.get16 .dx ++ s.get16 .ax

/-- DIV ew (R364). -/
def State.div16 (s : State) (e : E16) : Run State := do
  let d ← s.readE16 e
  check (d != 0) s.divideError
  let n := s.dxAx.toNat
  let q := n / d.toNat
  check (decide (q ≤ 0xFFFF)) s.divideError
  pure ((s.setDxAx (BitVec.ofNat 16 (n % d.toNat)) (BitVec.ofNat 16 q)).setFlags (s.flags.free s.free)).advance

/-- IDIV eb: quotient toward zero, remainder with the dividend's sign (R365). -/
def State.idiv8 (s : State) (e : E8) : Run State := do
  let d ← s.readE8 e
  check (d != 0) s.divideError
  let n := (s.get16 .ax).toInt
  let q := n.tdiv d.toInt
  check (decide (-128 ≤ q) && decide (q ≤ 127)) s.divideError
  let ax := Word.ofBytes (BitVec.ofInt 8 q) (BitVec.ofInt 8 (n - q * d.toInt))
  pure ((s.setAx ax).setFlags (s.flags.free s.free)).advance

/-- IDIV ew (R365). -/
def State.idiv16 (s : State) (e : E16) : Run State := do
  let d ← s.readE16 e
  check (d != 0) s.divideError
  let n := s.dxAx.toInt
  let q := n.tdiv d.toInt
  check (decide (-32768 ≤ q) && decide (q ≤ 32767)) s.divideError
  pure ((s.setDxAx (BitVec.ofInt 16 (n - q * d.toInt)) (BitVec.ofInt 16 q)).setFlags
    (s.flags.free s.free)).advance

/-- The rotates through carry, whose refused write is not restartable (R149, R416). -/
def ShiftOp.usesCarry : ShiftOp → Bool
  | .rcl => true
  | .rcr => true
  | .rol => false
  | .ror => false
  | .shl => false
  | .shr => false
  | .sar => false

/-- What a refused write of a shift or rotate leaves: CF and OF free for RCL and RCR (R149, R416, D12). -/
def State.shiftRefused (s : State) (op : ShiftOp) : State :=
  if op.usesCarry then
    s.setFlags { s.flags with cf := Config.freeBit s.free .cf, of := Config.freeBit s.free .of }
  else s

/-- `ShiftRotate(op, 8, cnt)` (R416). -/
def State.shift8 (s : State) (op : ShiftOp) (e : E8) (cnt : Byte) : Run State := do
  let k := shiftCount cnt
  let x ← s.readE8 e
  let t ← leaving (s.shiftRefused op) (s.writeE8 e (shiftSteps op k x s.flags.cf).1)
  pure (t.setFlags (s.flags.shift s.free op k x)).advance

/-- `ShiftRotate(op, 16, cnt)` (R416). -/
def State.shift16 (s : State) (op : ShiftOp) (e : E16) (cnt : Byte) : Run State := do
  let k := shiftCount cnt
  let x ← s.readE16 e
  let t ← leaving (s.shiftRefused op) (s.writeE16 e (shiftSteps op k x s.flags.cf).1)
  pure (t.setFlags (s.flags.shift s.free op k x)).advance

end Sys2Proof.Machine
end

