-- ==== Sys2Proof/Machine/Arith.lean ====
section
/-!
DEFINITION. The arithmetic and compare instructions (spec/41_arithmetic.md).
-/

namespace Sys2Proof.Machine

/-- `ADD eb,rb`, opcode `00 /r` (R353). -/
def execAddEbRb (e : E8) (r : Reg8) (s : State) : Out :=
  s.finish (s.aluE8 .add e (s.get8 r))

/-- `ADD ew,rw`, opcode `01 /r` (R353). -/
def execAddEwRw (e : E16) (r : Reg16) (s : State) : Out :=
  s.finish (s.aluE16 .add e (s.get16 r))

/-- `ADD rb,eb`, opcode `02 /r` (R353). -/
def execAddRbEb (r : Reg8) (e : E8) (s : State) : Out :=
  s.finish (s.aluR8 .add r e)

/-- `ADD rw,ew`, opcode `03 /r` (R353). -/
def execAddRwEw (r : Reg16) (e : E16) (s : State) : Out :=
  s.finish (s.aluR16 .add r e)

/-- `ADD AL,db`, opcode `04 db` (R353). -/
def execAddAlDb (i : Byte) (s : State) : Out :=
  s.finish (s.aluE8 .add (.reg .al) i)

/-- `ADD AX,dw`, opcode `05 dw` (R353). -/
def execAddAxDw (i : Word) (s : State) : Out :=
  s.finish (s.aluE16 .add (.reg .ax) i)

/-- `ADD eb,db`, opcode `80 /0 db` (R353). -/
def execAddEbDb (e : E8) (i : Byte) (s : State) : Out :=
  s.finish (s.aluE8 .add e i)

/-- `ADD ew,dw`, opcode `81 /0 dw` (R353). -/
def execAddEwDw (e : E16) (i : Word) (s : State) : Out :=
  s.finish (s.aluE16 .add e i)

/-- `ADD ew,db`, opcode `83 /0 db` (R353). -/
def execAddEwDb (e : E16) (i : Byte) (s : State) : Out :=
  s.finish (s.aluE16 .add e (i.signExtend 16))

/-- `ADC eb,rb`, opcode `10 /r` (R354). -/
def execAdcEbRb (e : E8) (r : Reg8) (s : State) : Out :=
  s.finish (s.aluE8 .adc e (s.get8 r))

/-- `ADC ew,rw`, opcode `11 /r` (R354). -/
def execAdcEwRw (e : E16) (r : Reg16) (s : State) : Out :=
  s.finish (s.aluE16 .adc e (s.get16 r))

/-- `ADC rb,eb`, opcode `12 /r` (R354). -/
def execAdcRbEb (r : Reg8) (e : E8) (s : State) : Out :=
  s.finish (s.aluR8 .adc r e)

/-- `ADC rw,ew`, opcode `13 /r` (R354). -/
def execAdcRwEw (r : Reg16) (e : E16) (s : State) : Out :=
  s.finish (s.aluR16 .adc r e)

/-- `ADC AL,db`, opcode `14 db` (R354). -/
def execAdcAlDb (i : Byte) (s : State) : Out :=
  s.finish (s.aluE8 .adc (.reg .al) i)

/-- `ADC AX,dw`, opcode `15 dw` (R354). -/
def execAdcAxDw (i : Word) (s : State) : Out :=
  s.finish (s.aluE16 .adc (.reg .ax) i)

/-- `ADC eb,db`, opcode `80 /2 db` (R354). -/
def execAdcEbDb (e : E8) (i : Byte) (s : State) : Out :=
  s.finish (s.aluE8 .adc e i)

/-- `ADC ew,dw`, opcode `81 /2 dw` (R354). -/
def execAdcEwDw (e : E16) (i : Word) (s : State) : Out :=
  s.finish (s.aluE16 .adc e i)

/-- `ADC ew,db`, opcode `83 /2 db` (R354). -/
def execAdcEwDb (e : E16) (i : Byte) (s : State) : Out :=
  s.finish (s.aluE16 .adc e (i.signExtend 16))

/-- `INC eb`, opcode `FE /0` (R355). -/
def execIncEb (e : E8) (s : State) : Out :=
  s.finish (s.updateE8 e (fun a => addResult a 1 false) s.flags.inc)

/-- `INC ew`, opcode `FF /0` (R355). -/
def execIncEw (e : E16) (s : State) : Out :=
  s.finish (s.updateE16 e (fun a => addResult a 1 false) s.flags.inc)

/-- `INC rw`, opcode `40+rw` (R355). -/
def execIncRw (r : Reg16) (s : State) : Out :=
  s.finish (s.updateE16 (.reg r) (fun a => addResult a 1 false) s.flags.inc)

/-- `SUB eb,rb`, opcode `28 /r` (R356). -/
def execSubEbRb (e : E8) (r : Reg8) (s : State) : Out :=
  s.finish (s.aluE8 .sub e (s.get8 r))

/-- `SUB ew,rw`, opcode `29 /r` (R356). -/
def execSubEwRw (e : E16) (r : Reg16) (s : State) : Out :=
  s.finish (s.aluE16 .sub e (s.get16 r))

/-- `SUB rb,eb`, opcode `2A /r` (R356). -/
def execSubRbEb (r : Reg8) (e : E8) (s : State) : Out :=
  s.finish (s.aluR8 .sub r e)

/-- `SUB rw,ew`, opcode `2B /r` (R356). -/
def execSubRwEw (r : Reg16) (e : E16) (s : State) : Out :=
  s.finish (s.aluR16 .sub r e)

/-- `SUB AL,db`, opcode `2C db` (R356). -/
def execSubAlDb (i : Byte) (s : State) : Out :=
  s.finish (s.aluE8 .sub (.reg .al) i)

/-- `SUB AX,dw`, opcode `2D dw` (R356). -/
def execSubAxDw (i : Word) (s : State) : Out :=
  s.finish (s.aluE16 .sub (.reg .ax) i)

/-- `SUB eb,db`, opcode `80 /5 db` (R356). -/
def execSubEbDb (e : E8) (i : Byte) (s : State) : Out :=
  s.finish (s.aluE8 .sub e i)

/-- `SUB ew,dw`, opcode `81 /5 dw` (R356). -/
def execSubEwDw (e : E16) (i : Word) (s : State) : Out :=
  s.finish (s.aluE16 .sub e i)

/-- `SUB ew,db`, opcode `83 /5 db` (R356). -/
def execSubEwDb (e : E16) (i : Byte) (s : State) : Out :=
  s.finish (s.aluE16 .sub e (i.signExtend 16))

/-- `SBB eb,rb`, opcode `18 /r` (R357). -/
def execSbbEbRb (e : E8) (r : Reg8) (s : State) : Out :=
  s.finish (s.aluE8 .sbb e (s.get8 r))

/-- `SBB ew,rw`, opcode `19 /r` (R357). -/
def execSbbEwRw (e : E16) (r : Reg16) (s : State) : Out :=
  s.finish (s.aluE16 .sbb e (s.get16 r))

/-- `SBB rb,eb`, opcode `1A /r` (R357). -/
def execSbbRbEb (r : Reg8) (e : E8) (s : State) : Out :=
  s.finish (s.aluR8 .sbb r e)

/-- `SBB rw,ew`, opcode `1B /r` (R357). -/
def execSbbRwEw (r : Reg16) (e : E16) (s : State) : Out :=
  s.finish (s.aluR16 .sbb r e)

/-- `SBB AL,db`, opcode `1C db` (R357). -/
def execSbbAlDb (i : Byte) (s : State) : Out :=
  s.finish (s.aluE8 .sbb (.reg .al) i)

/-- `SBB AX,dw`, opcode `1D dw` (R357). -/
def execSbbAxDw (i : Word) (s : State) : Out :=
  s.finish (s.aluE16 .sbb (.reg .ax) i)

/-- `SBB eb,db`, opcode `80 /3 db` (R357). -/
def execSbbEbDb (e : E8) (i : Byte) (s : State) : Out :=
  s.finish (s.aluE8 .sbb e i)

/-- `SBB ew,dw`, opcode `81 /3 dw` (R357). -/
def execSbbEwDw (e : E16) (i : Word) (s : State) : Out :=
  s.finish (s.aluE16 .sbb e i)

/-- `SBB ew,db`, opcode `83 /3 db` (R357). -/
def execSbbEwDb (e : E16) (i : Byte) (s : State) : Out :=
  s.finish (s.aluE16 .sbb e (i.signExtend 16))

/-- `DEC eb`, opcode `FE /1` (R358). -/
def execDecEb (e : E8) (s : State) : Out :=
  s.finish (s.updateE8 e (fun a => subResult a 1 false) s.flags.dec)

/-- `DEC ew`, opcode `FF /1` (R358). -/
def execDecEw (e : E16) (s : State) : Out :=
  s.finish (s.updateE16 e (fun a => subResult a 1 false) s.flags.dec)

/-- `DEC rw`, opcode `48+rw` (R358). -/
def execDecRw (r : Reg16) (s : State) : Out :=
  s.finish (s.updateE16 (.reg r) (fun a => subResult a 1 false) s.flags.dec)

/-- `CMP eb,rb`, opcode `38 /r` (R359). -/
def execCmpEbRb (e : E8) (r : Reg8) (s : State) : Out :=
  s.finish (s.cmpE8 e (s.get8 r))

/-- `CMP ew,rw`, opcode `39 /r` (R359). -/
def execCmpEwRw (e : E16) (r : Reg16) (s : State) : Out :=
  s.finish (s.cmpE16 e (s.get16 r))

/-- `CMP rb,eb`, opcode `3A /r` (R359). -/
def execCmpRbEb (r : Reg8) (e : E8) (s : State) : Out :=
  s.finish (s.cmpR8 r e)

/-- `CMP rw,ew`, opcode `3B /r` (R359). -/
def execCmpRwEw (r : Reg16) (e : E16) (s : State) : Out :=
  s.finish (s.cmpR16 r e)

/-- `CMP AL,db`, opcode `3C db` (R359). -/
def execCmpAlDb (i : Byte) (s : State) : Out :=
  s.finish (s.cmpE8 (.reg .al) i)

/-- `CMP AX,dw`, opcode `3D dw` (R359). -/
def execCmpAxDw (i : Word) (s : State) : Out :=
  s.finish (s.cmpE16 (.reg .ax) i)

/-- `CMP eb,db`, opcode `80 /7 db` (R359). -/
def execCmpEbDb (e : E8) (i : Byte) (s : State) : Out :=
  s.finish (s.cmpE8 e i)

/-- `CMP ew,dw`, opcode `81 /7 dw` (R359). -/
def execCmpEwDw (e : E16) (i : Word) (s : State) : Out :=
  s.finish (s.cmpE16 e i)

/-- `CMP ew,db`, opcode `83 /7 db` (R359). -/
def execCmpEwDb (e : E16) (i : Byte) (s : State) : Out :=
  s.finish (s.cmpE16 e (i.signExtend 16))

/-- `NEG eb`, opcode `F6 /3` (R360). -/
def execNegEb (e : E8) (s : State) : Out :=
  s.finish (s.updateE8 e (fun a => subResult 0 a false) (fun a => s.flags.sub 0 a false))

/-- `NEG ew`, opcode `F7 /3` (R360). -/
def execNegEw (e : E16) (s : State) : Out :=
  s.finish (s.updateE16 e (fun a => subResult 0 a false) (fun a => s.flags.sub 0 a false))

/-- `MUL eb`, opcode `F6 /4` (R361). -/
def execMulEb (e : E8) (s : State) : Out :=
  s.finish (s.mul8 e)

/-- `MUL ew`, opcode `F7 /4` (R361). -/
def execMulEw (e : E16) (s : State) : Out :=
  s.finish (s.mul16 e)

/-- `IMUL eb`, opcode `F6 /5` (R362). -/
def execImulEb (e : E8) (s : State) : Out :=
  s.finish (s.imul8 e)

/-- `IMUL ew`, opcode `F7 /5` (R362). -/
def execImulEw (e : E16) (s : State) : Out :=
  s.finish (s.imul16 e)

/-- `IMUL rw,ew,dw`, opcode `69 /r dw` (R363). -/
def execImulRwEwDw (r : Reg16) (e : E16) (i : Word) (s : State) : Out :=
  s.finish (s.imulImm r e i)

/-- `IMUL rw,ew,db`, opcode `6B /r db` (R363). -/
def execImulRwEwDb (r : Reg16) (e : E16) (i : Byte) (s : State) : Out :=
  s.finish (s.imulImm r e (i.signExtend 16))

/-- `DIV eb`, opcode `F6 /6` (R364). -/
def execDivEb (e : E8) (s : State) : Out :=
  s.finish (s.div8 e)

/-- `DIV ew`, opcode `F7 /6` (R364). -/
def execDivEw (e : E16) (s : State) : Out :=
  s.finish (s.div16 e)

/-- `IDIV eb`, opcode `F6 /7` (R365). -/
def execIdivEb (e : E8) (s : State) : Out :=
  s.finish (s.idiv8 e)

/-- `IDIV ew`, opcode `F7 /7` (R365). -/
def execIdivEw (e : E16) (s : State) : Out :=
  s.finish (s.idiv16 e)

/-- `CBW`, opcode `98` (R366). -/
def execCbw (s : State) : Out :=
  .next (s.setAx ((s.get8 .al).signExtend 16)).advance

/-- `CWD`, opcode `99` (R367). -/
def execCwd (s : State) : Out :=
  .next (s.set16 .dx (if (s.get16 .ax).msb then 0xFFFF else 0)).advance

end Sys2Proof.Machine
end

