-- ==== Sys2Proof/Machine/Control.lean ====
section
/-!
DEFINITION. The control transfer instructions (spec/43_control_transfer.md).
-/

namespace Sys2Proof.Machine

/-- The check of a near target (R450). -/
def State.targetOk (s : State) (t : Word) : Bool := !s.prot || decide (t.toNat ≤ s.cs.limit.toNat)

/-- `NearJump(t)` (R450). -/
def State.nearJump (s : State) (t : Word) : Run State := do
  check (s.targetOk t) (excGp 0)
  pure (s.goto t)

/-- The target of a one-byte displacement (R451). -/
def State.rel8 (s : State) (d : Byte) : Word := s.nextIp + d.signExtend 16

/-- A short jump if `c`, the next instruction otherwise (R453). -/
def State.jumpIf (s : State) (c : Bool) (d : Byte) : Run State :=
  if c then s.nearJump (s.rel8 d) else .ok s.advance

/-- `JO cb`, opcode `70 cb` (R452, R453). -/
def execJo (d : Byte) (s : State) : Out :=
  s.finish (s.jumpIf s.flags.of d)

/-- `JNO cb`, opcode `71 cb` (R452, R453). -/
def execJno (d : Byte) (s : State) : Out :=
  s.finish (s.jumpIf (!s.flags.of) d)

/-- `JB cb`, opcode `72 cb` (R452, R453). -/
def execJb (d : Byte) (s : State) : Out :=
  s.finish (s.jumpIf s.flags.cf d)

/-- `JNB cb`, opcode `73 cb` (R452, R453). -/
def execJnb (d : Byte) (s : State) : Out :=
  s.finish (s.jumpIf (!s.flags.cf) d)

/-- `JE cb`, opcode `74 cb` (R452, R453). -/
def execJe (d : Byte) (s : State) : Out :=
  s.finish (s.jumpIf s.flags.zf d)

/-- `JNE cb`, opcode `75 cb` (R452, R453). -/
def execJne (d : Byte) (s : State) : Out :=
  s.finish (s.jumpIf (!s.flags.zf) d)

/-- `JBE cb`, opcode `76 cb` (R452, R453). -/
def execJbe (d : Byte) (s : State) : Out :=
  s.finish (s.jumpIf (s.flags.cf || s.flags.zf) d)

/-- `JNBE cb`, opcode `77 cb` (R452, R453). -/
def execJnbe (d : Byte) (s : State) : Out :=
  s.finish (s.jumpIf (!s.flags.cf && !s.flags.zf) d)

/-- `JS cb`, opcode `78 cb` (R452, R453). -/
def execJs (d : Byte) (s : State) : Out :=
  s.finish (s.jumpIf s.flags.sf d)

/-- `JNS cb`, opcode `79 cb` (R452, R453). -/
def execJns (d : Byte) (s : State) : Out :=
  s.finish (s.jumpIf (!s.flags.sf) d)

/-- `JP cb`, opcode `7A cb` (R452, R453). -/
def execJp (d : Byte) (s : State) : Out :=
  s.finish (s.jumpIf s.flags.pf d)

/-- `JNP cb`, opcode `7B cb` (R452, R453). -/
def execJnp (d : Byte) (s : State) : Out :=
  s.finish (s.jumpIf (!s.flags.pf) d)

/-- `JL cb`, opcode `7C cb` (R452, R453). -/
def execJl (d : Byte) (s : State) : Out :=
  s.finish (s.jumpIf (s.flags.sf != s.flags.of) d)

/-- `JNL cb`, opcode `7D cb` (R452, R453). -/
def execJnl (d : Byte) (s : State) : Out :=
  s.finish (s.jumpIf (s.flags.sf == s.flags.of) d)

/-- `JLE cb`, opcode `7E cb` (R452, R453). -/
def execJle (d : Byte) (s : State) : Out :=
  s.finish (s.jumpIf (s.flags.zf || s.flags.sf != s.flags.of) d)

/-- `JNLE cb`, opcode `7F cb` (R452, R453). -/
def execJnle (d : Byte) (s : State) : Out :=
  s.finish (s.jumpIf (!s.flags.zf && s.flags.sf == s.flags.of) d)

/-- `JCXZ cb`, opcode `E3 cb` (R454). -/
def execJcxz (d : Byte) (s : State) : Out :=
  s.finish (s.jumpIf (s.regs.cx == 0) d)

/-- The loop forms: CX decremented, then a short jump if it is not zero and `c` (R455-R457). -/
def State.loopIf (s : State) (c : Bool) (d : Byte) : Run State :=
  s.decCx.jumpIf (s.decCx.regs.cx != 0 && c) d

/-- `LOOP cb`, opcode `E2 cb` (R455). -/
def execLoop (d : Byte) (s : State) : Out :=
  s.finish (s.loopIf true d)

/-- `LOOPE cb`, opcode `E1 cb` (R456). -/
def execLoope (d : Byte) (s : State) : Out :=
  s.finish (s.loopIf s.flags.zf d)

/-- `LOOPNE cb`, opcode `E0 cb` (R457). -/
def execLoopne (d : Byte) (s : State) : Out :=
  s.finish (s.loopIf (!s.flags.zf) d)

/-- `JMP cb`, opcode `EB cb` (R460). -/
def execJmpCb (d : Byte) (s : State) : Out :=
  s.finish (s.nearJump (s.rel8 d))

/-- `JMP cw`, opcode `E9 cw` (R461). -/
def execJmpCw (d : Word) (s : State) : Out :=
  s.finish (s.nearJump (s.nextIp + d))

/-- `JMP ew`, opcode `FF /4` (R462). -/
def execJmpEw (e : E16) (s : State) : Out :=
  s.finish do
    let t ← s.readE16 e
    s.nearJump t

/-- A near call: the stack check, the target check, the push and the jump (R465). -/
def State.nearCall (s : State) (t : Word) : Run State := do
  check (s.canPush 1) (s.segFault .ss)
  check (s.targetOk t) (excGp 0)
  pure ((s.pushRaw s.nextIp).goto t)

/-- `CALL cw`, opcode `E8 cw` (R465). -/
def execCallCw (d : Word) (s : State) : Out :=
  s.finish (s.nearCall (s.nextIp + d))

/-- `CALL ew`, opcode `FF /2` (R466). -/
def execCallEw (e : E16) (s : State) : Out :=
  s.finish do
    let t ← s.readE16 e
    s.nearCall t

/-- The two far transfers that are not returns (R472). -/
inductive FarKind | jmp | call
  deriving DecidableEq, Repr

/-- `FarJumpReal` and `FarCallReal` (R471). -/
def State.farTransferReal (s : State) (kind : FarKind) (sel off : Word) : Run State :=
  match kind with
  | .jmp => .ok (s.farReal sel off)
  | .call => do
    check (s.canPush 2) (s.segFault .ss)
    pure (((s.pushRaw s.cs.sel).pushRaw s.nextIp).farReal sel off)

/-- The end of a transfer to a code segment at the same privilege level: the stack check of a CALL, the offset check, the
pushes of a CALL, and CS:IP (R473, R475, R476). -/
def State.farSame (s : State) (kind : FarKind) (sel off : Word) (c : Desc) : Run State := do
  check (kind == .jmp || s.canPush 2) (excSs 0)
  check (decide (off.toNat ≤ c.limit.toNat)) (excGp 0)
  let a := match kind with
    | .jmp => s
    | .call => (s.pushRaw s.cs.sel).pushRaw s.nextIp
  pure ((a.loadCs sel c s.cpl).goto off)

/-- A far JMP or CALL to a code segment (R473). -/
def State.farCode (s : State) (kind : FarKind) (sel off : Word) (d : Desc) : Run State := do
  let e := excGp (selCode sel)
  check (if d.isConforming then decide (arDpl d.ar ≤ s.cpl)
    else decide (rplOf sel ≤ s.cpl) && arDpl d.ar == s.cpl) e
  check (arPresent d.ar) (excNp (selCode sel))
  s.farSame kind sel off d

/-- The `n` parameter words at the top of the caller's stack, the first one first (R477). -/
def State.parameters (s : State) : Nat → Run (List Word)
  | 0 => .ok []
  | n + 1 => do
    let ps ← s.parameters n
    let v ← (s.reading .parameters).readSeg16 .ss (s.regs.sp + BitVec.ofNat 16 (2 * n))
    pure (ps ++ [v])

/-- Words pushed with no check, the last of the list first (R477). -/
def State.pushReversed (s : State) : List Word → State
  | [] => s
  | v :: vs => (s.pushReversed vs).pushRaw v

/-- CALL through a call gate to more privilege: the stack switch and the parameter copy (R477). -/
def State.callInner (s : State) (g c : Desc) : Run State := do
  let l := arDpl c.ar
  let stk ← s.innerStack l
  let d ← s.innerStackDesc stk.2 l 0
  check ((d.toSeg stk.2).room stk.1 (4 + g.wordCount)) (excSs 0)
  check (decide (g.gateOffset.toNat ≤ c.limit.toNat)) (excGp 0)
  let ps ← s.parameters g.wordCount
  let a := (s.loadInnerStack stk.2 stk.1 d).loadCs g.gateSel c l
  let b := ((a.pushRaw s.ss.sel).pushRaw s.regs.sp).pushReversed ps
  pure (((b.pushRaw s.cs.sel).pushRaw s.nextIp).goto g.gateOffset)

/-- The privilege tests on a gate or TSS descriptor named by a far JMP or CALL (R474, R478, R479). -/
def State.gateAllowed (s : State) (sel : Word) (d : Desc) : Bool :=
  decide (s.cpl ≤ arDpl d.ar) && decide (rplOf sel ≤ arDpl d.ar)

/-- A far JMP or CALL through a call gate (R474-R477). -/
def State.farGate (s : State) (kind : FarKind) (sel : Word) (g : Desc) : Run State := do
  check (s.gateAllowed sel g) (excGp (selCode sel))
  check (arPresent g.ar) (excNp (selCode sel))
  let ge := excGp (selCode g.gateSel)
  check (!isNull g.gateSel) (excGp 0)
  let c ← (s.reading .target).desc g.gateSel ge
  check c.isCode ge
  check (match kind with
    | .jmp => if c.isConforming then decide (arDpl c.ar ≤ s.cpl) else arDpl c.ar == s.cpl
    | .call => decide (arDpl c.ar ≤ s.cpl)) ge
  check (arPresent c.ar) (excNp (selCode g.gateSel))
  if kind = .call ∧ c.isConforming = false ∧ arDpl c.ar < s.cpl then s.callInner g c
  else s.farSame kind g.gateSel g.gateOffset c

/-- The switch that a far JMP or CALL makes to a checked TSS, with the test of the new IP (R478, R479). -/
def State.farSwitch (s : State) (kind : FarKind) (tsel : Word) (t : Desc) : Run State := do
  let n ← match kind with
    | .jmp => s.switchTasks tsel t false .jmp s.nextIp 0
    | .call => s.switchTasks tsel t true .call s.nextIp 0
  n.checkTaskIp 0

/-- A far JMP or CALL to a task gate (R478). -/
def State.farTaskGate (s : State) (kind : FarKind) (sel : Word) (g : Desc) : Run State := do
  check (s.gateAllowed sel g) (excGp (selCode sel))
  check (arPresent g.ar) (excNp (selCode sel))
  let te := excGp (selCode g.gateSel)
  check (s.inGdt g.gateSel) te
  let t := (s.reading .target).descAt (s.gdtAddr g.gateSel)
  check (arIsType t.ar 1) te
  check (arPresent t.ar) (excNp (selCode g.gateSel))
  s.farSwitch kind g.gateSel t

/-- A far JMP or CALL to a TSS descriptor; one in an LDT is refused (R479, D23). -/
def State.farTss (s : State) (kind : FarKind) (sel : Word) (t : Desc) : Run State := do
  check (!sel.getLsbD 2) (.refuse .tssInLdt)
  check (s.gateAllowed sel t) (excGp (selCode sel))
  check (arIsType t.ar 1) (excGp (selCode sel))
  check (arPresent t.ar) (excNp (selCode sel))
  s.farSwitch kind sel t

/-- `FarTransfer(kind, sel, off)`: the dispatch on the descriptor in protected mode (R472). -/
def State.farTransferProt (s : State) (kind : FarKind) (sel off : Word) : Run State := do
  let e := excGp (selCode sel)
  check (!isNull sel) (excGp 0)
  let d ← s.desc sel e
  if d.isCode then s.farCode kind sel off d
  else if arIsType d.ar 4 then s.farGate kind sel d
  else if arIsType d.ar 5 then s.farTaskGate kind sel d
  else if d.isTss then s.farTss kind sel d
  else .error e

/-- A far JMP or CALL in either mode (R463, R467). -/
def State.farTransfer (s : State) (kind : FarKind) (sel off : Word) : Run State :=
  if s.prot then s.farTransferProt kind sel off else s.farTransferReal kind sel off

/-- `JMP cd`, opcode `EA cd` (R463). -/
def execJmpCd (off sel : Word) (s : State) : Out :=
  s.finish (s.farTransfer .jmp sel off)

/-- `JMP ed`, opcode `FF /5` (R464). -/
def execJmpEd (e : E16) (s : State) : Out :=
  s.finish do
    let p ← s.readPointer e
    s.farTransfer .jmp p.2 p.1

/-- `CALL cd`, opcode `9A cd` (R467). -/
def execCallCd (off sel : Word) (s : State) : Out :=
  s.finish (s.farTransfer .call sel off)

/-- `CALL ed`, opcode `FF /3` (R468). -/
def execCallEd (e : E16) (s : State) : Out :=
  s.finish do
    let p ← s.readPointer e
    s.farTransfer .call p.2 p.1

/-- Near RET, releasing `n` bytes (R485, R486). -/
def State.retNear (s : State) (n : Word) : Run State := do
  let t ← s.stackWord 0
  check (s.targetOk t) (excGp 0)
  pure ((s.setSp (s.regs.sp + 2 + n)).goto t)

/-- `RET`, opcode `C3` (R485). -/
def execRetNear (s : State) : Out :=
  s.finish (s.retNear 0)

/-- `RET dw`, opcode `C2 dw` (R486). -/
def execRetNearDw (i : Word) (s : State) : Out :=
  s.finish (s.retNear i)

/-- Far RET in real mode (R487). -/
def State.retFarReal (s : State) (n : Word) : Run State := do
  let t ← s.stackWord 0
  let c ← s.stackWord 2
  pure ((s.farReal c t).setSp (s.regs.sp + 4 + n))

/-- Far RET to the same level (R488). -/
def State.retFarSame (s : State) (rs n : Word) : Run State := do
  let c ← s.returnCode rs
  let t ← s.stackWord 0
  check (decide (t.toNat ≤ c.limit.toNat)) (excGp 0)
  pure (((s.loadCs rs c (rplOf rs)).goto t).setSp (s.regs.sp + 4 + n))

/-- Every one of the `n` bytes from SP up can be read, each at its own offset modulo 2^16 (R489). -/
def State.stackBytes (s : State) : Nat → Bool
  | 0 => true
  | n + 1 => s.stackBytes n && s.canRead .ss (s.regs.sp + BitVec.ofNat 16 n) 1

/-- Far RET to an outer level: `n` bytes released on both stacks (R489). -/
def State.retFarOuter (s : State) (rs n : Word) : Run State := do
  check (s.stackBytes (8 + n.toNat)) (excSs 0)
  let t ← s.stackWord 0
  let nsp ← (s.reading .outerStack).stackWord (4 + n)
  let ns ← (s.reading .outerStack).stackWord (6 + n)
  let c ← s.returnCode rs
  let d ← s.returnStack ns (rplOf rs)
  check (decide (t.toNat ≤ c.limit.toNat)) (excGp 0)
  let a := (s.loadCs rs c (rplOf rs)).goto t
  let b := (a.loadCache .ss ns d).setSp (nsp + n)
  pure ((b.nullIfInvalid .ds).nullIfInvalid .es)

/-- Far RET in either mode (R487-R489). -/
def State.retFar (s : State) (n : Word) : Run State :=
  if !s.prot then s.retFarReal n
  else do
    let rs ← s.stackWord 2
    check (decide (s.cpl ≤ rplOf rs)) (excGp (selCode rs))
    if rplOf rs = s.cpl then s.retFarSame rs n else s.retFarOuter rs n

/-- `RET`, far, opcode `CB` (R487-R489). -/
def execRetFar (s : State) : Out :=
  s.finish (s.retFar 0)

/-- `RET dw`, far, opcode `CA dw` (R487-R489). -/
def execRetFarDw (i : Word) (s : State) : Out :=
  s.finish (s.retFar i)

/-- A software interrupt: the interrupt is taken with the return address after the instruction (R495-R497, R845). -/
def State.softInt (s : State) (vec : Byte) : Out :=
  match s.deliver { vec, kind := .sw, ret := s.nextIp, code := none } with
  | .ok t => .next t
  | .error q => .refused q

/-- `INT 3`, opcode `CC` (R495). -/
def execInt3 (s : State) : Out :=
  s.softInt 3

/-- `INT db`, opcode `CD db` (R496). -/
def execIntDb (i : Byte) (s : State) : Out :=
  s.softInt i

/-- `INTO`, opcode `CE` (R497). -/
def execInto (s : State) : Out :=
  if s.flags.of then s.softInt 4 else .next s.advance

/-- `IRET`, opcode `CF` (R500-R503). -/
def execIret (s : State) : Out :=
  s.finish s.iret

end Sys2Proof.Machine
end

