-- ==== Sys2Proof/Machine/DataMove.lean ====
section
/-!
DEFINITION. The data movement instructions (spec/40_data_movement.md).
-/

namespace Sys2Proof.Machine

/-- `MOV eb,src` (R303, R310). -/
def State.storeE8 (s : State) (e : E8) (v : Byte) : Run State := do
  let t ← s.writeE8 e v
  pure t.advance

/-- `MOV ew,src` (R303, R305, R310). -/
def State.storeE16 (s : State) (e : E16) (v : Word) : Run State := do
  let t ← s.writeE16 e v
  pure t.advance

/-- `MOV eb,rb`, opcode `88 /r` (R303). -/
def execMovEbRb (e : E8) (r : Reg8) (s : State) : Out :=
  s.finish (s.storeE8 e (s.get8 r))

/-- `MOV ew,rw`, opcode `89 /r` (R303). -/
def execMovEwRw (e : E16) (r : Reg16) (s : State) : Out :=
  s.finish (s.storeE16 e (s.get16 r))

/-- `MOV rb,eb`, opcode `8A /r` (R304). -/
def execMovRbEb (r : Reg8) (e : E8) (s : State) : Out :=
  s.finish do
    let v ← s.readE8 e
    pure (s.set8 r v).advance

/-- `MOV rw,ew`, opcode `8B /r` (R304). -/
def execMovRwEw (r : Reg16) (e : E16) (s : State) : Out :=
  s.finish do
    let v ← s.readE16 e
    pure (s.set16 r v).advance

/-- `MOV ew,ES`, opcode `8C /0` (R305). -/
def execMovEwEs (e : E16) (s : State) : Out :=
  s.finish (s.storeE16 e s.es.sel)

/-- `MOV ew,CS`, opcode `8C /1` (R305). -/
def execMovEwCs (e : E16) (s : State) : Out :=
  s.finish (s.storeE16 e s.cs.sel)

/-- `MOV ew,SS`, opcode `8C /2` (R305). -/
def execMovEwSs (e : E16) (s : State) : Out :=
  s.finish (s.storeE16 e s.ss.sel)

/-- `MOV ew,DS`, opcode `8C /3` (R305). -/
def execMovEwDs (e : E16) (s : State) : Out :=
  s.finish (s.storeE16 e s.ds.sel)

/-- `MOV ES,ew`, opcode `8E /0` (R306). -/
def execMovEsEw (e : E16) (s : State) : Out :=
  s.finish do
    let v ← s.readE16 e
    let t ← s.loadData .es v
    pure t.advance

/-- `MOV DS,ew`, opcode `8E /3` (R306). -/
def execMovDsEw (e : E16) (s : State) : Out :=
  s.finish do
    let v ← s.readE16 e
    let t ← s.loadData .ds v
    pure t.advance

/-- `MOV SS,ew`, opcode `8E /2`: interrupts are inhibited until after the next instruction (R306, R72). -/
def execMovSsEw (e : E16) (s : State) : Out :=
  s.finish do
    let v ← s.readE16 e
    let t ← s.loadSs v
    pure { t with inhibit := true }.advance

/-- `MOV AL,xb`, opcode `A0 dw` (R307). -/
def execMovAlXb (a : Word) (s : State) : Out :=
  s.finish do
    let v ← s.readE8 (.mem (.direct a))
    pure (s.set8 .al v).advance

/-- `MOV AX,xw`, opcode `A1 dw` (R307). -/
def execMovAxXw (a : Word) (s : State) : Out :=
  s.finish do
    let v ← s.readE16 (.mem (.direct a))
    pure (s.set16 .ax v).advance

/-- `MOV xb,AL`, opcode `A2 dw` (R308). -/
def execMovXbAl (a : Word) (s : State) : Out :=
  s.finish (s.storeE8 (.mem (.direct a)) (s.get8 .al))

/-- `MOV xw,AX`, opcode `A3 dw` (R308). -/
def execMovXwAx (a : Word) (s : State) : Out :=
  s.finish (s.storeE16 (.mem (.direct a)) (s.get16 .ax))

/-- `MOV rb,db`, opcode `B0+rb db` (R309). -/
def execMovRbDb (r : Reg8) (i : Byte) (s : State) : Out :=
  .next (s.set8 r i).advance

/-- `MOV rw,dw`, opcode `B8+rw dw` (R309). -/
def execMovRwDw (r : Reg16) (i : Word) (s : State) : Out :=
  .next (s.set16 r i).advance

/-- `MOV eb,db`, opcode `C6 /0 db` (R310). -/
def execMovEbDb (e : E8) (i : Byte) (s : State) : Out :=
  s.finish (s.storeE8 e i)

/-- `MOV ew,dw`, opcode `C7 /0 dw` (R310). -/
def execMovEwDw (e : E16) (i : Word) (s : State) : Out :=
  s.finish (s.storeE16 e i)

/-- `XCHG eb,rb`, opcode `86 /r`; with memory under bus LOCK, with or without the prefix; a refused write leaves the
register free (R125, R311, R149, D12). -/
def execXchgEbRb (e : E8) (r : Reg8) (s : State) : Out :=
  s.finish do
    let v ← s.readE8 e
    let t ← leaving (s.set8 r (Config.freeByte s.free .xchgReg)) ((s.lockE8 e).writeE8 e (s.get8 r))
    pure (t.set8 r v).advance

/-- `XCHG ew,rw`, opcode `87 /r`; with memory under bus LOCK, with or without the prefix; a refused write leaves the
register free (R125, R311, R149, D12). -/
def execXchgEwRw (e : E16) (r : Reg16) (s : State) : Out :=
  s.finish do
    let v ← s.readE16 e
    let t ← leaving (s.set16 r (Config.freeWord s.free .xchgReg)) ((s.lockE16 e).writeE16 e (s.get16 r))
    pure (t.set16 r v).advance

/-- `XCHG AX,rw`, opcode `90+rw` (R312). -/
def execXchgAxRw (r : Reg16) (s : State) : Out :=
  .next ((s.set16 .ax (s.get16 r)).set16 r (s.get16 .ax)).advance

/-- A push that completes the instruction (R313-R316, R322). -/
def State.pushOp (s : State) (v : Word) : Run State := do
  let t ← s.push v
  pure t.advance

/-- `PUSH rw`, opcode `50+rw`; PUSH SP pushes the value before the decrement (R313). -/
def execPushRw (r : Reg16) (s : State) : Out :=
  s.finish (s.pushOp (s.get16 r))

/-- `PUSH ES`, opcode `06` (R314). -/
def execPushEs (s : State) : Out :=
  s.finish (s.pushOp s.es.sel)

/-- `PUSH CS`, opcode `0E` (R314). -/
def execPushCs (s : State) : Out :=
  s.finish (s.pushOp s.cs.sel)

/-- `PUSH SS`, opcode `16` (R314). -/
def execPushSs (s : State) : Out :=
  s.finish (s.pushOp s.ss.sel)

/-- `PUSH DS`, opcode `1E` (R314). -/
def execPushDs (s : State) : Out :=
  s.finish (s.pushOp s.ds.sel)

/-- `PUSH mw`, opcode `FF /6` (R315). -/
def execPushMw (e : E16) (s : State) : Out :=
  s.finish do
    let v ← s.readE16 e
    s.pushOp v

/-- `PUSH dw`, opcode `68 dw` (R316). -/
def execPushDw (i : Word) (s : State) : Out :=
  s.finish (s.pushOp i)

/-- `PUSH db`, opcode `6A db`, sign-extended (R316). -/
def execPushDb (i : Byte) (s : State) : Out :=
  s.finish (s.pushOp (i.signExtend 16))

/-- The eight words of PUSHA in the order pushed (R317). -/
def State.pushaWords (s : State) : List Word :=
  [s.regs.ax, s.regs.cx, s.regs.dx, s.regs.bx, s.regs.sp, s.regs.bp, s.regs.si, s.regs.di]

/-- Words pushed with no check (R317). -/
def State.pushWords (s : State) : List Word → State
  | [] => s
  | v :: vs => (s.pushRaw v).pushWords vs

/-- A PUSHA that wraps the stack segment: of the words at offsets below the old SP, numbered from `k`, each that its
checks allow is written or not as a free bit says (R317, D21). -/
def State.pushaWrap (s : State) (s0 : Word) : Nat → List Word → State
  | _, [] => s
  | k, v :: vs =>
    let off := s0 - BitVec.ofNat 16 (2 * (k + 1))
    let t :=
      if 2 * (k + 1) ≤ s0.toNat ∧ s.canWrite .ss off 2 = true ∧ Config.freeBit s.free (.wrap k) = true then
        s.writePhys16 (s.ss.lin off) v
      else s
    t.pushaWrap s0 (k + 1) vs

/-- The bytes of the eight words wrap from offset 0 to FFFFH (R317). -/
def pushaWraps (s0 : Word) : Bool := decide (0 < s0.toNat) && decide (s0.toNat < 16)

/-- PUSHA (R317). -/
def State.pusha (s : State) : Run State :=
  let s0 := s.regs.sp
  if s.prot then
    if pushaWraps s0 then
      .error (.exc 12 (some 0) (some ((s.pushaWrap s0 0 s.pushaWords).setSp (s0 &&& 1))))
    else do
      check (s.canWrite .ss (s0 - 16) 16) (s.segFault .ss)
      pure (s.pushWords s.pushaWords).advance
  else do
    check (s.canPush 8) (s.segFault .ss)
    pure (s.pushWords s.pushaWords).advance

/-- `PUSHA`, opcode `60` (R317). -/
def execPusha (s : State) : Out :=
  s.finish s.pusha

/-- `POP rw`, opcode `58+rw`; POP SP ends with the popped word (R318). -/
def execPopRw (r : Reg16) (s : State) : Out :=
  s.finish do
    let v ← s.pop
    pure (v.2.set16 r v.1).advance

/-- `POP ES`, opcode `07`; SP changes only after the load has succeeded (R319). -/
def execPopEs (s : State) : Out :=
  s.finish do
    let v ← s.readSeg16 .ss s.regs.sp
    let t ← s.loadData .es v
    pure (t.setSp (s.regs.sp + 2)).advance

/-- `POP DS`, opcode `1F` (R319). -/
def execPopDs (s : State) : Out :=
  s.finish do
    let v ← s.readSeg16 .ss s.regs.sp
    let t ← s.loadData .ds v
    pure (t.setSp (s.regs.sp + 2)).advance

/-- `POP SS`, opcode `17`: interrupts are inhibited until after the next instruction (R319, R72). -/
def execPopSs (s : State) : Out :=
  s.finish do
    let v ← s.readSeg16 .ss s.regs.sp
    let t ← s.loadSs v
    pure ({ t with inhibit := true }.setSp (s.regs.sp + 2)).advance

/-- POP into memory: SP changes only after the write has passed its checks (R320). -/
def State.popMem (s : State) (m : Mem) : Run State := do
  let v ← s.readSeg16 .ss s.regs.sp
  let t ← s.writeE16 (.mem m) v
  pure (t.setSp (s.regs.sp + 2)).advance

/-- `POP mw`, opcode `8F /0`; the register form is that of POP rw (R320). -/
def execPopMw (e : E16) (s : State) : Out :=
  match e with
  | .reg r => s.finish do
    let v ← s.pop
    pure (v.2.set16 r v.1).advance
  | .mem m => s.finish (s.popMem m)

/-- The registers POPA loads, in the order popped; the fourth word is discarded (R321). -/
def popaRegs : List (Nat × Reg16) :=
  [(0, .di), (1, .si), (2, .bp), (4, .bx), (5, .dx), (6, .cx), (7, .ax)]

/-- The registers of `rs` loaded from the words above `s0` (R321). -/
def State.popWords (s : State) (s0 : Word) : List (Nat × Reg16) → State
  | [] => s
  | (k, r) :: rs =>
    (s.set16 r (s.readPhys16 (s.ss.lin (s0 + BitVec.ofNat 16 (2 * k))))).popWords s0 rs

/-- A POPA that wraps the stack segment: each register whose word can be read is loaded or not as a free bit says
(R321, D21). -/
def State.popaWrap (s : State) (s0 : Word) : List (Nat × Reg16) → State
  | [] => s
  | (k, r) :: rs =>
    let off := s0 + BitVec.ofNat 16 (2 * k)
    let t :=
      if s.canRead .ss off 2 = true ∧ Config.freeBit s.free (.wrap k) = true then
        s.set16 r (s.readPhys16 (s.ss.lin off))
      else s
    t.popaWrap s0 rs

/-- The eight words above `s0` can each be read (R321). -/
def State.canPop (s : State) (s0 : Word) : Nat → Bool
  | 0 => true
  | n + 1 => s.canPop s0 n && s.canRead .ss (s0 + BitVec.ofNat 16 (2 * n)) 2

/-- POPA (R321). -/
def State.popa (s : State) : Run State :=
  let s0 := s.regs.sp
  if s.prot then
    if 0xFFF0 < s0.toNat then
      .error (.exc 12 (some 0) (some ((s.popaWrap s0 popaRegs).setSp (0xFFFE + (s0 &&& 1)))))
    else do
      check (s.canRead .ss s0 16) (s.segFault .ss)
      pure ((s.popWords s0 popaRegs).setSp (s0 + 16)).advance
  else do
    check (s.canPop s0 8) (s.segFault .ss)
    pure ((s.popWords s0 popaRegs).setSp (s0 + 16)).advance

/-- `POPA`, opcode `61` (R321). -/
def execPopa (s : State) : Out :=
  s.finish s.popa

/-- `PUSHF`, opcode `9C` (R322). -/
def execPushf (s : State) : Out :=
  s.finish (s.pushOp s.flags.toWord)

/-- `POPF`, opcode `9D`: no exception and no change of the bits the privilege level may not change (R323). -/
def execPopf (s : State) : Out :=
  s.finish do
    let v ← s.pop
    pure (v.2.setFlags (s.loadFlags v.1)).advance

/-- The byte LAHF puts in AH: bits 5, 3 and 1 free (R324). -/
def State.lahfByte (s : State) : Byte :=
  bit s.flags.sf ++ bit s.flags.zf ++ bit (Config.freeBit s.free (.lahf 5)) ++ bit s.flags.af
    ++ bit (Config.freeBit s.free (.lahf 3)) ++ bit s.flags.pf ++ bit (Config.freeBit s.free (.lahf 1))
    ++ bit s.flags.cf

/-- `LAHF`, opcode `9F` (R324). -/
def execLahf (s : State) : Out :=
  .next (s.set8 .ah s.lahfByte).advance

/-- `SAHF`, opcode `9E` (R325). -/
def execSahf (s : State) : Out :=
  let a := s.get8 .ah
  .next (s.setFlags { s.flags with
    sf := a.getLsbD 7, zf := a.getLsbD 6, af := a.getLsbD 4, pf := a.getLsbD 2, cf := a.getLsbD 0 }).advance

/-- `XLAT mb`, opcode `D7` (R326). -/
def execXlat (s : State) : Out :=
  s.finish do
    let v ← s.readSeg8 (s.override .ds) (s.regs.bx + (s.get8 .al).setWidth 16)
    pure (s.set8 .al v).advance

/-- `LEA rw,m`, opcode `8D /r`: no memory reference (R327). -/
def execLeaRwM (r : Reg16) (e : E16) (s : State) : Out :=
  s.finish do
    let m ← e.memOnly
    pure (s.set16 r (s.eaOff m)).advance

/-- LDS and LES: the pointer read, the segment register loaded, then the word register (R328, R329). -/
def State.loadPointer (s : State) (x : SReg) (r : Reg16) (e : E16) : Run State := do
  let p ← s.readPointer e
  let t ← s.loadData x p.2
  pure (t.set16 r p.1).advance

/-- `LDS rw,ed`, opcode `C5 /r` (R328). -/
def execLdsRwEd (r : Reg16) (e : E16) (s : State) : Out :=
  s.finish (s.loadPointer .ds r e)

/-- `LES rw,ed`, opcode `C4 /r` (R329). -/
def execLesRwEd (r : Reg16) (e : E16) (s : State) : Out :=
  s.finish (s.loadPointer .es r e)

end Sys2Proof.Machine
end

