-- ==== Sys2Proof/Machine/Extended.lean ====
section
/-!
DEFINITION. ENTER, LEAVE and BOUND (spec/46_extended.md).
-/

namespace Sys2Proof.Machine

/-- The number of words ENTER pushes at level `l` (R651). -/
def enterWords (l : Nat) : Nat := if l = 0 then 1 else l + 1

/-- The `n` display words below BP that ENTER reads are readable (R651). -/
def State.canReadDisplay (s : State) : Nat → Bool
  | 0 => true
  | n + 1 => s.canReadDisplay n && s.canRead .ss (s.regs.bp - BitVec.ofNat 16 (2 * (n + 1))) 2

/-- `t` after the first `n` display words have been copied, one after the other, from below BP to below the saved BP
(R651); `s` is the state before the instruction. -/
def State.copyDisplay (s t : State) : Nat → State
  | 0 => t
  | n + 1 =>
    let u := s.copyDisplay t n
    let k : Word := BitVec.ofNat 16 (2 * (n + 1))
    u.writePhys16 (s.ss.lin (s.regs.sp - 2 - k)) (u.readPhys16 (s.ss.lin (s.regs.bp - k)))

/-- SP after ENTER (R651). -/
def State.enterSp (s : State) (size : Word) (l : Nat) : Word :=
  s.regs.sp - BitVec.ofNat 16 (2 * enterWords l) - size

/-- The memory effects of ENTER (R651). -/
def State.enterWrites (s : State) (l : Nat) : State :=
  let a := s.writePhys16 (s.ss.lin (s.regs.sp - 2)) s.regs.bp
  let b := s.copyDisplay a (l - 1)
  if l = 0 then b
  else b.writePhys16 (s.ss.lin (s.regs.sp - BitVec.ofNat 16 (2 * enterWords l))) (s.regs.sp - 2)

/-- ENTER (R651, D30). -/
def State.enterFrame (s : State) (size : Word) (level : Byte) : Run State := do
  let l := level.toNat % 32
  let e := s.segFault .ss
  check (s.canPush (enterWords l)) e
  check (s.canReadDisplay (l - 1)) e
  check (!s.prot || s.ss.inLimit (s.enterSp size l) 1) e
  let t := s.enterWrites l
  pure ((t.set16 .bp (s.regs.sp - 2)).setSp (s.enterSp size l)).advance

/-- LEAVE (R653). -/
def State.leaveFrame (s : State) : Run State := do
  let t ← s.readSeg16 .ss s.regs.bp
  pure ((s.setSp (s.regs.bp + 2)).set16 .bp t).advance

/-- BOUND (R654). -/
def State.bound (s : State) (r : Reg16) (e : E16) : Run State := do
  let b ← s.readPointer e
  let v := (s.get16 r).toInt
  check (decide (b.1.toInt ≤ v) && decide (v ≤ b.2.toInt)) (.exc 5 none none)
  pure s.advance

/-- `ENTER dw,db`, opcode `C8 dw db` (R651). -/
def execEnterDwDb (size : Word) (level : Byte) (s : State) : Out :=
  s.finish (s.enterFrame size level)

/-- `LEAVE`, opcode `C9` (R653). -/
def execLeave (s : State) : Out :=
  s.finish s.leaveFrame

/-- `BOUND rw,md`, opcode `62 /r` (R654). -/
def execBoundRwMd (r : Reg16) (e : E16) (s : State) : Out :=
  s.finish (s.bound r e)

end Sys2Proof.Machine
end

