-- ==== Sys2Proof/Machine/FlagMisc.lean ====
section
/-!
DEFINITION. The flag control and decimal adjust instructions, NOP and HLT (spec/45_flag_bcd_misc.md).
-/

namespace Sys2Proof.Machine

/-- The first half of DAA, DAS, AAA and AAS: the low digit needs adjusting (R621-R624). -/
def lowAdjust (al : Byte) (af : Bool) : Bool := decide (9 < (al &&& 0x0F).toNat) || af

/-- The second half of DAA and DAS, on AL as the first left it (R621, R622). -/
def highAdjust (al : Byte) (cf : Bool) : Bool := decide (0x9F < al.toNat) || cf

/-- The flags of DAA and DAS (R621, R622, D29). -/
def Flags.decimal (f : Flags) (n : Nat) (al : Byte) (af cf : Bool) : Flags :=
  { f.szp al with af, cf, of := Config.freeBit n .of }

/-- The flags of AAA and AAS (R623, R624). -/
def Flags.ascii (f : Flags) (n : Nat) (adj : Bool) : Flags :=
  { f with
    af := adj
    cf := adj
    of := Config.freeBit n .of
    sf := Config.freeBit n .sf
    zf := Config.freeBit n .zf
    pf := Config.freeBit n .pf }

/-- The flags of AAM and AAD (R625, R626, D29). -/
def Flags.asciiMul (f : Flags) (n : Nat) (al : Byte) : Flags :=
  { f.szp al with
    of := Config.freeBit n .of
    af := Config.freeBit n .af
    cf := Config.freeBit n .cf }

/-- DAA and DAS: `corr` applies each correction to AL (R621, R622). -/
def State.decimal (s : State) (corr : Byte → Byte → Byte) : State :=
  let low := lowAdjust (s.get8 .al) s.flags.af
  let al := if low then corr (s.get8 .al) 0x06 else s.get8 .al
  let high := highAdjust al s.flags.cf
  let res := if high then corr al 0x60 else al
  ((s.set8 .al res).setFlags (s.flags.decimal s.free res low high)).advance

/-- AAA and AAS: `corr` applies each correction (R623, R624). -/
def State.ascii (s : State) (corr : Byte → Byte → Byte) : State :=
  let adj := lowAdjust (s.get8 .al) s.flags.af
  let al := if adj then corr (s.get8 .al) 6 else s.get8 .al
  let ah := if adj then corr (s.get8 .ah) 1 else s.get8 .ah
  ((s.setAx (Word.ofBytes (al &&& 0x0F) ah)).setFlags (s.flags.ascii s.free adj)).advance

/-- AAM (R625). -/
def State.aam (s : State) : State :=
  let n := (s.get8 .al).toNat
  let al : Byte := BitVec.ofNat 8 (n % 10)
  ((s.setAx (Word.ofBytes al (BitVec.ofNat 8 (n / 10)))).setFlags (s.flags.asciiMul s.free al)).advance

/-- AAD (R626). -/
def State.aad (s : State) : State :=
  let al : Byte := s.get8 .al + 10 * s.get8 .ah
  ((s.setAx (Word.ofBytes al 0)).setFlags (s.flags.asciiMul s.free al)).advance

/-- IF made `b` if IOPL allows (R606, R607). -/
def State.setIf (s : State) (b : Bool) : Run State := do
  check s.ioAllowed (excGp 0)
  pure (s.setFlags { s.flags with ie := b }).advance

/-- HLT (R609). -/
def State.halt (s : State) : Run State := do
  check (s.cpl == 0) (excGp 0)
  pure { s.advance with runState := .halted }

/-- `CLC`, opcode `F8` (R601). -/
def execClc (s : State) : Out :=
  .next (s.setFlags { s.flags with cf := false }).advance

/-- `STC`, opcode `F9` (R602). -/
def execStc (s : State) : Out :=
  .next (s.setFlags { s.flags with cf := true }).advance

/-- `CMC`, opcode `F5` (R603). -/
def execCmc (s : State) : Out :=
  .next (s.setFlags { s.flags with cf := !s.flags.cf }).advance

/-- `CLD`, opcode `FC` (R604). -/
def execCld (s : State) : Out :=
  .next (s.setFlags { s.flags with df := false }).advance

/-- `STD`, opcode `FD` (R605). -/
def execStd (s : State) : Out :=
  .next (s.setFlags { s.flags with df := true }).advance

/-- `CLI`, opcode `FA` (R606). -/
def execCli (s : State) : Out :=
  s.finish (s.setIf false)

/-- `STI`, opcode `FB` (R607). -/
def execSti (s : State) : Out :=
  s.finish (s.setIf true)

/-- `HLT`, opcode `F4` (R609). -/
def execHlt (s : State) : Out :=
  s.finish s.halt

/-- `NOP`, opcode `90` (R610). -/
def execNop (s : State) : Out :=
  .next s.advance

/-- `DAA`, opcode `27` (R621). -/
def execDaa (s : State) : Out :=
  .next (s.decimal (fun a b => a + b))

/-- `DAS`, opcode `2F` (R622). -/
def execDas (s : State) : Out :=
  .next (s.decimal (fun a b => a - b))

/-- `AAA`, opcode `37` (R623). -/
def execAaa (s : State) : Out :=
  .next (s.ascii (fun a b => a + b))

/-- `AAS`, opcode `3F` (R624). -/
def execAas (s : State) : Out :=
  .next (s.ascii (fun a b => a - b))

/-- `AAM`, opcode `D4 0A` (R625). -/
def execAam (s : State) : Out :=
  .next s.aam

/-- `AAD`, opcode `D5 0A` (R626). -/
def execAad (s : State) : Out :=
  .next s.aad

end Sys2Proof.Machine
end

