-- ==== Sys2Proof/Machine/Logic.lean ====
section
/-!
DEFINITION. The logical, shift and rotate instructions (spec/42_logic_shift.md).
-/

namespace Sys2Proof.Machine

/-- `AND eb,rb`, opcode `20 /r` (R401). -/
def execAndEbRb (e : E8) (r : Reg8) (s : State) : Out :=
  s.finish (s.aluE8 .and e (s.get8 r))

/-- `AND ew,rw`, opcode `21 /r` (R401). -/
def execAndEwRw (e : E16) (r : Reg16) (s : State) : Out :=
  s.finish (s.aluE16 .and e (s.get16 r))

/-- `AND rb,eb`, opcode `22 /r` (R401). -/
def execAndRbEb (r : Reg8) (e : E8) (s : State) : Out :=
  s.finish (s.aluR8 .and r e)

/-- `AND rw,ew`, opcode `23 /r` (R401). -/
def execAndRwEw (r : Reg16) (e : E16) (s : State) : Out :=
  s.finish (s.aluR16 .and r e)

/-- `AND AL,db`, opcode `24 db` (R401). -/
def execAndAlDb (i : Byte) (s : State) : Out :=
  s.finish (s.aluE8 .and (.reg .al) i)

/-- `AND AX,dw`, opcode `25 dw` (R401). -/
def execAndAxDw (i : Word) (s : State) : Out :=
  s.finish (s.aluE16 .and (.reg .ax) i)

/-- `AND eb,db`, opcode `80 /4 db` (R401). -/
def execAndEbDb (e : E8) (i : Byte) (s : State) : Out :=
  s.finish (s.aluE8 .and e i)

/-- `AND ew,dw`, opcode `81 /4 dw` (R401). -/
def execAndEwDw (e : E16) (i : Word) (s : State) : Out :=
  s.finish (s.aluE16 .and e i)

/-- `OR eb,rb`, opcode `08 /r` (R402). -/
def execOrEbRb (e : E8) (r : Reg8) (s : State) : Out :=
  s.finish (s.aluE8 .or e (s.get8 r))

/-- `OR ew,rw`, opcode `09 /r` (R402). -/
def execOrEwRw (e : E16) (r : Reg16) (s : State) : Out :=
  s.finish (s.aluE16 .or e (s.get16 r))

/-- `OR rb,eb`, opcode `0A /r` (R402). -/
def execOrRbEb (r : Reg8) (e : E8) (s : State) : Out :=
  s.finish (s.aluR8 .or r e)

/-- `OR rw,ew`, opcode `0B /r` (R402). -/
def execOrRwEw (r : Reg16) (e : E16) (s : State) : Out :=
  s.finish (s.aluR16 .or r e)

/-- `OR AL,db`, opcode `0C db` (R402). -/
def execOrAlDb (i : Byte) (s : State) : Out :=
  s.finish (s.aluE8 .or (.reg .al) i)

/-- `OR AX,dw`, opcode `0D dw` (R402). -/
def execOrAxDw (i : Word) (s : State) : Out :=
  s.finish (s.aluE16 .or (.reg .ax) i)

/-- `OR eb,db`, opcode `80 /1 db` (R402). -/
def execOrEbDb (e : E8) (i : Byte) (s : State) : Out :=
  s.finish (s.aluE8 .or e i)

/-- `OR ew,dw`, opcode `81 /1 dw` (R402). -/
def execOrEwDw (e : E16) (i : Word) (s : State) : Out :=
  s.finish (s.aluE16 .or e i)

/-- `XOR eb,rb`, opcode `30 /r` (R403). -/
def execXorEbRb (e : E8) (r : Reg8) (s : State) : Out :=
  s.finish (s.aluE8 .xor e (s.get8 r))

/-- `XOR ew,rw`, opcode `31 /r` (R403). -/
def execXorEwRw (e : E16) (r : Reg16) (s : State) : Out :=
  s.finish (s.aluE16 .xor e (s.get16 r))

/-- `XOR rb,eb`, opcode `32 /r` (R403). -/
def execXorRbEb (r : Reg8) (e : E8) (s : State) : Out :=
  s.finish (s.aluR8 .xor r e)

/-- `XOR rw,ew`, opcode `33 /r` (R403). -/
def execXorRwEw (r : Reg16) (e : E16) (s : State) : Out :=
  s.finish (s.aluR16 .xor r e)

/-- `XOR AL,db`, opcode `34 db` (R403). -/
def execXorAlDb (i : Byte) (s : State) : Out :=
  s.finish (s.aluE8 .xor (.reg .al) i)

/-- `XOR AX,dw`, opcode `35 dw` (R403). -/
def execXorAxDw (i : Word) (s : State) : Out :=
  s.finish (s.aluE16 .xor (.reg .ax) i)

/-- `XOR eb,db`, opcode `80 /6 db` (R403). -/
def execXorEbDb (e : E8) (i : Byte) (s : State) : Out :=
  s.finish (s.aluE8 .xor e i)

/-- `XOR ew,dw`, opcode `81 /6 dw` (R403). -/
def execXorEwDw (e : E16) (i : Word) (s : State) : Out :=
  s.finish (s.aluE16 .xor e i)

/-- `NOT eb`, opcode `F6 /2` (R404). -/
def execNotEb (e : E8) (s : State) : Out :=
  s.finish (s.updateE8 e (fun a => a ^^^ 0xFF) (fun _ => s.flags))

/-- `NOT ew`, opcode `F7 /2` (R404). -/
def execNotEw (e : E16) (s : State) : Out :=
  s.finish (s.updateE16 e (fun a => a ^^^ 0xFFFF) (fun _ => s.flags))

/-- `TEST eb,rb`, opcode `84 /r` (R405). -/
def execTestEbRb (e : E8) (r : Reg8) (s : State) : Out :=
  s.finish (s.testE8 e (s.get8 r))

/-- `TEST ew,rw`, opcode `85 /r` (R405). -/
def execTestEwRw (e : E16) (r : Reg16) (s : State) : Out :=
  s.finish (s.testE16 e (s.get16 r))

/-- `TEST AL,db`, opcode `A8 db` (R405). -/
def execTestAlDb (i : Byte) (s : State) : Out :=
  s.finish (s.testE8 (.reg .al) i)

/-- `TEST AX,dw`, opcode `A9 dw` (R405). -/
def execTestAxDw (i : Word) (s : State) : Out :=
  s.finish (s.testE16 (.reg .ax) i)

/-- `TEST eb,db`, opcode `F6 /0 db` (R405). -/
def execTestEbDb (e : E8) (i : Byte) (s : State) : Out :=
  s.finish (s.testE8 e i)

/-- `TEST ew,dw`, opcode `F7 /0 dw` (R405). -/
def execTestEwDw (e : E16) (i : Word) (s : State) : Out :=
  s.finish (s.testE16 e i)

/-- `ROL eb,1`, opcode `D0 /0` (R430). -/
def execRolEbOne (e : E8) (s : State) : Out :=
  s.finish (s.shift8 .rol e 1)

/-- `ROL eb,CL`, opcode `D2 /0` (R430). -/
def execRolEbCl (e : E8) (s : State) : Out :=
  s.finish (s.shift8 .rol e (s.get8 .cl))

/-- `ROL eb,db`, opcode `C0 /0 db` (R430). -/
def execRolEbDb (e : E8) (i : Byte) (s : State) : Out :=
  s.finish (s.shift8 .rol e i)

/-- `ROL ew,1`, opcode `D1 /0` (R430). -/
def execRolEwOne (e : E16) (s : State) : Out :=
  s.finish (s.shift16 .rol e 1)

/-- `ROL ew,CL`, opcode `D3 /0` (R430). -/
def execRolEwCl (e : E16) (s : State) : Out :=
  s.finish (s.shift16 .rol e (s.get8 .cl))

/-- `ROL ew,db`, opcode `C1 /0 db` (R430). -/
def execRolEwDb (e : E16) (i : Byte) (s : State) : Out :=
  s.finish (s.shift16 .rol e i)

/-- `ROR eb,1`, opcode `D0 /1` (R431). -/
def execRorEbOne (e : E8) (s : State) : Out :=
  s.finish (s.shift8 .ror e 1)

/-- `ROR eb,CL`, opcode `D2 /1` (R431). -/
def execRorEbCl (e : E8) (s : State) : Out :=
  s.finish (s.shift8 .ror e (s.get8 .cl))

/-- `ROR eb,db`, opcode `C0 /1 db` (R431). -/
def execRorEbDb (e : E8) (i : Byte) (s : State) : Out :=
  s.finish (s.shift8 .ror e i)

/-- `ROR ew,1`, opcode `D1 /1` (R431). -/
def execRorEwOne (e : E16) (s : State) : Out :=
  s.finish (s.shift16 .ror e 1)

/-- `ROR ew,CL`, opcode `D3 /1` (R431). -/
def execRorEwCl (e : E16) (s : State) : Out :=
  s.finish (s.shift16 .ror e (s.get8 .cl))

/-- `ROR ew,db`, opcode `C1 /1 db` (R431). -/
def execRorEwDb (e : E16) (i : Byte) (s : State) : Out :=
  s.finish (s.shift16 .ror e i)

/-- `RCL eb,1`, opcode `D0 /2` (R432). -/
def execRclEbOne (e : E8) (s : State) : Out :=
  s.finish (s.shift8 .rcl e 1)

/-- `RCL eb,CL`, opcode `D2 /2` (R432). -/
def execRclEbCl (e : E8) (s : State) : Out :=
  s.finish (s.shift8 .rcl e (s.get8 .cl))

/-- `RCL eb,db`, opcode `C0 /2 db` (R432). -/
def execRclEbDb (e : E8) (i : Byte) (s : State) : Out :=
  s.finish (s.shift8 .rcl e i)

/-- `RCL ew,1`, opcode `D1 /2` (R432). -/
def execRclEwOne (e : E16) (s : State) : Out :=
  s.finish (s.shift16 .rcl e 1)

/-- `RCL ew,CL`, opcode `D3 /2` (R432). -/
def execRclEwCl (e : E16) (s : State) : Out :=
  s.finish (s.shift16 .rcl e (s.get8 .cl))

/-- `RCL ew,db`, opcode `C1 /2 db` (R432). -/
def execRclEwDb (e : E16) (i : Byte) (s : State) : Out :=
  s.finish (s.shift16 .rcl e i)

/-- `RCR eb,1`, opcode `D0 /3` (R433). -/
def execRcrEbOne (e : E8) (s : State) : Out :=
  s.finish (s.shift8 .rcr e 1)

/-- `RCR eb,CL`, opcode `D2 /3` (R433). -/
def execRcrEbCl (e : E8) (s : State) : Out :=
  s.finish (s.shift8 .rcr e (s.get8 .cl))

/-- `RCR eb,db`, opcode `C0 /3 db` (R433). -/
def execRcrEbDb (e : E8) (i : Byte) (s : State) : Out :=
  s.finish (s.shift8 .rcr e i)

/-- `RCR ew,1`, opcode `D1 /3` (R433). -/
def execRcrEwOne (e : E16) (s : State) : Out :=
  s.finish (s.shift16 .rcr e 1)

/-- `RCR ew,CL`, opcode `D3 /3` (R433). -/
def execRcrEwCl (e : E16) (s : State) : Out :=
  s.finish (s.shift16 .rcr e (s.get8 .cl))

/-- `RCR ew,db`, opcode `C1 /3 db` (R433). -/
def execRcrEwDb (e : E16) (i : Byte) (s : State) : Out :=
  s.finish (s.shift16 .rcr e i)

/-- `SAL eb,1`, opcode `D0 /4` (R420). -/
def execSalEbOne (e : E8) (s : State) : Out :=
  s.finish (s.shift8 .shl e 1)

/-- `SAL eb,CL`, opcode `D2 /4` (R420). -/
def execSalEbCl (e : E8) (s : State) : Out :=
  s.finish (s.shift8 .shl e (s.get8 .cl))

/-- `SAL eb,db`, opcode `C0 /4 db` (R420). -/
def execSalEbDb (e : E8) (i : Byte) (s : State) : Out :=
  s.finish (s.shift8 .shl e i)

/-- `SAL ew,1`, opcode `D1 /4` (R420). -/
def execSalEwOne (e : E16) (s : State) : Out :=
  s.finish (s.shift16 .shl e 1)

/-- `SAL ew,CL`, opcode `D3 /4` (R420). -/
def execSalEwCl (e : E16) (s : State) : Out :=
  s.finish (s.shift16 .shl e (s.get8 .cl))

/-- `SAL ew,db`, opcode `C1 /4 db` (R420). -/
def execSalEwDb (e : E16) (i : Byte) (s : State) : Out :=
  s.finish (s.shift16 .shl e i)

/-- `SHR eb,1`, opcode `D0 /5` (R421). -/
def execShrEbOne (e : E8) (s : State) : Out :=
  s.finish (s.shift8 .shr e 1)

/-- `SHR eb,CL`, opcode `D2 /5` (R421). -/
def execShrEbCl (e : E8) (s : State) : Out :=
  s.finish (s.shift8 .shr e (s.get8 .cl))

/-- `SHR eb,db`, opcode `C0 /5 db` (R421). -/
def execShrEbDb (e : E8) (i : Byte) (s : State) : Out :=
  s.finish (s.shift8 .shr e i)

/-- `SHR ew,1`, opcode `D1 /5` (R421). -/
def execShrEwOne (e : E16) (s : State) : Out :=
  s.finish (s.shift16 .shr e 1)

/-- `SHR ew,CL`, opcode `D3 /5` (R421). -/
def execShrEwCl (e : E16) (s : State) : Out :=
  s.finish (s.shift16 .shr e (s.get8 .cl))

/-- `SHR ew,db`, opcode `C1 /5 db` (R421). -/
def execShrEwDb (e : E16) (i : Byte) (s : State) : Out :=
  s.finish (s.shift16 .shr e i)

/-- `SAR eb,1`, opcode `D0 /7` (R422). -/
def execSarEbOne (e : E8) (s : State) : Out :=
  s.finish (s.shift8 .sar e 1)

/-- `SAR eb,CL`, opcode `D2 /7` (R422). -/
def execSarEbCl (e : E8) (s : State) : Out :=
  s.finish (s.shift8 .sar e (s.get8 .cl))

/-- `SAR eb,db`, opcode `C0 /7 db` (R422). -/
def execSarEbDb (e : E8) (i : Byte) (s : State) : Out :=
  s.finish (s.shift8 .sar e i)

/-- `SAR ew,1`, opcode `D1 /7` (R422). -/
def execSarEwOne (e : E16) (s : State) : Out :=
  s.finish (s.shift16 .sar e 1)

/-- `SAR ew,CL`, opcode `D3 /7` (R422). -/
def execSarEwCl (e : E16) (s : State) : Out :=
  s.finish (s.shift16 .sar e (s.get8 .cl))

/-- `SAR ew,db`, opcode `C1 /7 db` (R422). -/
def execSarEwDb (e : E16) (i : Byte) (s : State) : Out :=
  s.finish (s.shift16 .sar e i)

end Sys2Proof.Machine
end

