-- ==== Sys2Proof/Machine/Npx.lean ====
section
/-!
DEFINITION. The processor extension: its signals, the instructions ESC and WAIT, and the data channel that moves the
memory operands of the NPX (spec/48_npx.md).
-/

namespace Sys2Proof.Machine

/-- `npx_busy`: the BUSY pin, held after an overrun until FNINIT; inactive for ever with no NPX attached
(R76, R750, R756, D8). -/
def State.busy (s : State) : Bool := (s.npxBusy || s.channel == .overrun) && s.npxPresent

/-- `npx_error`: the ERROR pin; inactive for ever with no NPX attached (R76, R750, D8). -/
def State.mathError (s : State) : Bool := s.npxError && s.npxPresent

/-- The ESC forms that neither test ERROR nor wait for BUSY: FNCLEX, FNINIT, FSETPM and FNSTSW AX without a memory operand,
FNSTENV, FNSTCW, FNSTSW and FNSAVE with one (R751, note 24). -/
def escNoWait (x y : BitVec 3) (e : E16) : Bool :=
  match e with
  | .reg r => (x == 3 && y == 4 && (r == .dx || r == .bx || r == .sp)) || (x == 7 && y == 4 && r == .ax)
  | .mem _ => (x == 1 && (y == 6 || y == 7)) || (x == 5 && (y == 6 || y == 7))

/-- The form that stores the NPX's status into AX (R751, note 24). -/
def escToAx (x y : BitVec 3) (e : E16) : Bool := x == 7 && y == 4 && e == .reg .ax

/-- Whether the ESC writes its memory operand: FSAVE does, FRSTOR does not, the others as the 80287 has it (R751). -/
def escWrites (x y : BitVec 3) : Bool :=
  if x = 5 ∧ y = 6 then true else if x = 5 ∧ y = 4 then false else Config.escStores x y

/-- The check of the first word of an ESC's memory operand (R751). -/
def State.escOperandOk (s : State) (x y : BitVec 3) (m : Mem) : Bool :=
  if escWrites x y then s.canWrite (s.eaSeg m) (s.eaOff m) 2 else s.canRead (s.eaSeg m) (s.eaOff m) 2

/-- The instruction waits for BUSY and will be executed again (R752, D39). -/
def State.stall (s : State) : State := { s with dec := { phase := .waiting } }

/-- FNINIT, the one ESC that may follow an overrun (R756, note 24). -/
def escInit (x y : BitVec 3) (e : E16) : Bool := x == 3 && y == 4 && e == .reg .bx

/-- The segment register and the offset of an ESC's memory operand (R751). -/
def State.escOperand (s : State) (e : E16) : Option (SegReg × Word) :=
  match e with
  | .reg _ => none
  | .mem m => some (s.seg (s.eaSeg m), s.eaOff m)

/-- The data channel after an ESC: FNINIT clears it; an ESC with a memory operand gives it that operand, unless it waits for
FNINIT or there is no NPX (R750, R751, R756). -/
def State.escChannel (s : State) (x y : BitVec 3) (e : E16) : Channel :=
  if escInit x y e then .idle
  else if s.npxPresent = false ∨ s.channel = .overrun then s.channel
  else
    match s.escOperand e with
    | none => s.channel
    | some p => .moving { seg := p.1, prot := s.prot, next := p.2.toNat, store := escWrites x y }

/-- An ESC handed to the NPX; the form that answers in AX gets a free word there (R751, D38). -/
def State.handOver (s : State) (x y : BitVec 3) (e : E16) : State :=
  let t := { s with
    hostOut := .esc (0b11011#5 ++ x) ((encE16 y e).headD 0) (s.escOperand e) :: s.hostOut
    channel := s.escChannel x y e }
  if escToAx x y e then t.set16 .ax (Config.freeWord s.free .npxStatus) else t

/-- ESC. One that waits is executed again from its first byte, so that ERROR is tested at each of these, and an ERROR raised
during the wait is interrupt 16 (R751, note 23). -/
def State.escape (s : State) (x y : BitVec 3) (e : E16) : Run State := do
  check (!s.msw.em && !s.msw.ts) (.exc 7 none none)
  check (escNoWait x y e || !s.mathError) (.exc 16 none none)
  if s.busy && !escNoWait x y e then pure s.stall
  else
    match e with
    | .reg _ => pure (s.handOver x y e).advance
    | .mem m => do
      check (s.escOperandOk x y m) (s.segFault (s.eaSeg m))
      pure (s.handOver x y e).advance

/-- WAIT (R752). -/
def State.await (s : State) : Run State := do
  check (!(s.msw.mp && s.msw.ts)) (.exc 7 none none)
  if s.busy then pure s.stall
  else do
    check (s.msw.em || !s.mathError) (.exc 16 none none)
    pure s.advance

/-- The limit test on the next word of an operand (R143, R151, R756). -/
def Transfer.inside (t : Transfer) : Bool :=
  decide (t.next + 2 ≤ 0x10000) && (!t.prot || t.seg.inLimit (BitVec.ofNat 16 t.next) 2)

/-- The physical address of the next word of an operand (R133). -/
def Transfer.addr (t : Transfer) : PAddr := t.seg.lin (BitVec.ofNat 16 t.next)

/-- One word of the operand moved by `move`, if `npx_busy` and the operand is one the NPX stores or loads as `store` says.
A word outside the segment is not moved: the overrun is requested, and `npx_busy` held (R751, R756). -/
def State.transfer (s : State) (store : Bool) (move : State → PAddr → State) : State :=
  match s.channel with
  | .idle => s
  | .overrun => s
  | .moving t =>
    if s.busy && t.store == store then
      if t.inside then
        { move s t.addr with channel := .moving { t with next := t.next + 2 }, free := s.free + 1 }
      else { s with channel := .overrun, overrunReq := true }
    else s

/-- One action of the NPX (R750, R751, R756, D38). -/
def State.npxAct (s : State) (a : NpxAct) : State :=
  match a with
  | .busy b => { s with npxBusy := b }
  | .error b => { s with npxError := b }
  | .read => s.transfer false fun t a => { t with hostOut := .npxWord (t.readPhys16 a) :: t.hostOut }
  | .write v => s.transfer true fun t a => t.writePhys16 a v

/-- What the NPX does before a boundary; with none attached, nothing (R750, D7, D8). -/
def State.npxStep (s : State) : State :=
  let t := { s with npxIn := [] }
  if s.npxPresent then s.npxIn.foldl State.npxAct t else t

/-- `ESC opcode,ea`, opcode `D8-DF /r` (R751). -/
def execEsc (x : BitVec 3) (y : BitVec 3) (e : E16) (s : State) : Out :=
  s.finish (s.escape x y e)

/-- `WAIT`, opcode `9B` (R752). -/
def execWait (s : State) : Out :=
  s.finish s.await

end Sys2Proof.Machine
end

