-- ==== Sys2Proof/Machine/Prefix.lean ====
section
/-!
DEFINITION. The prefixes and the two-byte escape (spec/30_encoding.md R223-R230).
-/

namespace Sys2Proof.Machine

/-- A segment override takes effect on the instruction that follows; of several the last counts (R224, R225). -/
def State.prefixSeg (s : State) (x : SReg) : State :=
  { s with dec := { s.dec with seg := some x, phase := .prefixed } }

/-- A repeat prefix; of several the last counts (R224, R226). -/
def State.prefixRepeat (s : State) (r : Rep) : State :=
  { s with dec := { s.dec with rep := some r, phase := .prefixed } }

/-- LOCK: the IOPL test, once, whatever follows (R227, R608). -/
def State.lockPrefix (s : State) : Run State := do
  check s.ioAllowed (excGp 0)
  pure { s with dec := { s.dec with lock := true, phase := .prefixed } }

/-- `ES: prefix`, opcode `26` (R225). -/
def execPrefixEs (s : State) : Out :=
  .next (s.prefixSeg .es)

/-- `CS: prefix`, opcode `2E` (R225). -/
def execPrefixCs (s : State) : Out :=
  .next (s.prefixSeg .cs)

/-- `SS: prefix`, opcode `36` (R225). -/
def execPrefixSs (s : State) : Out :=
  .next (s.prefixSeg .ss)

/-- `DS: prefix`, opcode `3E` (R225). -/
def execPrefixDs (s : State) : Out :=
  .next (s.prefixSeg .ds)

/-- `LOCK prefix`, opcode `F0` (R608). -/
def execPrefixLock (s : State) : Out :=
  s.finish s.lockPrefix

/-- `REP prefix`, opcode `F3` (R551). -/
def execPrefixRep (s : State) : Out :=
  .next (s.prefixRepeat .rep)

/-- `REPNE prefix`, opcode `F2` (R551). -/
def execPrefixRepne (s : State) : Out :=
  .next (s.prefixRepeat .repne)

/-- `0F` with nothing behind it: the segment ends before the second opcode byte, a fetch fault (R152, R230; note 19). -/
def execTwoByteEscape (s : State) : Out :=
  s.finish (raise 13 (some 0))

end Sys2Proof.Machine
end

