-- ==== Sys2Proof/Machine/StringIo.lean ====
section
/-!
DEFINITION. The string and the input/output instructions (spec/44_string_io.md).
-/

namespace Sys2Proof.Machine

/-- The step of SI and DI for elements of `n` bytes (R550). -/
def State.strStep (s : State) (n : Word) : Word := if s.flags.df then -n else n

/-- `Adv(SI)` (R550). -/
def State.advSi (s : State) (n : Word) : State := s.set16 .si (s.regs.si + s.strStep n)

/-- `Adv(DI)` (R550). -/
def State.advDi (s : State) (n : Word) : State := s.set16 .di (s.regs.di + s.strStep n)

/-- The segment of the source element: the override, else DS (R550). -/
def State.srcSeg (s : State) : SReg := s.override .ds

/-- One MOVSB (R560). -/
def State.movs8 (s : State) : Run State := do
  let v ← s.readSeg8 s.srcSeg s.regs.si
  let t ← s.writeSeg8 .es s.regs.di v
  pure ((t.advSi 1).advDi 1)

/-- One MOVSW (R560). -/
def State.movs16 (s : State) : Run State := do
  let v ← s.readSeg16 s.srcSeg s.regs.si
  let t ← s.writeSeg16 .es s.regs.di v
  pure ((t.advSi 2).advDi 2)

/-- One CMPSB (R561). -/
def State.cmps8 (s : State) : Run State := do
  let a ← s.readSeg8 s.srcSeg s.regs.si
  let b ← (s.reading .second).readSeg8 .es s.regs.di
  pure (((s.setFlags (s.flags.sub a b false)).advSi 1).advDi 1)

/-- One CMPSW (R561). -/
def State.cmps16 (s : State) : Run State := do
  let a ← s.readSeg16 s.srcSeg s.regs.si
  let b ← (s.reading .second).readSeg16 .es s.regs.di
  pure (((s.setFlags (s.flags.sub a b false)).advSi 2).advDi 2)

/-- One SCASB (R562). -/
def State.scas8 (s : State) : Run State := do
  let b ← s.readSeg8 .es s.regs.di
  pure ((s.setFlags (s.flags.sub (s.get8 .al) b false)).advDi 1)

/-- One SCASW (R562). -/
def State.scas16 (s : State) : Run State := do
  let b ← s.readSeg16 .es s.regs.di
  pure ((s.setFlags (s.flags.sub (s.get16 .ax) b false)).advDi 2)

/-- One LODSB (R563). -/
def State.lods8 (s : State) : Run State := do
  let v ← s.readSeg8 s.srcSeg s.regs.si
  pure ((s.set8 .al v).advSi 1)

/-- One LODSW (R563). -/
def State.lods16 (s : State) : Run State := do
  let v ← s.readSeg16 s.srcSeg s.regs.si
  pure ((s.set16 .ax v).advSi 2)

/-- One STOSB (R564). -/
def State.stos8 (s : State) : Run State := do
  let t ← s.writeSeg8 .es s.regs.di (s.get8 .al)
  pure (t.advDi 1)

/-- One STOSW (R564). -/
def State.stos16 (s : State) : Run State := do
  let t ← s.writeSeg16 .es s.regs.di (s.get16 .ax)
  pure (t.advDi 2)

/-- One INSB: the destination is checked before the port is read (R565, D27). -/
def State.ins8 (s : State) : Run State := do
  check s.ioAllowed (excGp 0)
  let t ← s.writeSeg8 .es s.regs.di (s.portIn8 s.regs.dx)
  pure (t.advDi 1)

/-- One INSW (R565, D27). -/
def State.ins16 (s : State) : Run State := do
  check s.ioAllowed (excGp 0)
  let t ← s.writeSeg16 .es s.regs.di (s.portIn16 s.regs.dx)
  pure (t.advDi 2)

/-- One OUTSB (R566). -/
def State.outs8 (s : State) : Run State := do
  check s.ioAllowed (excGp 0)
  let v ← s.readSeg8 s.srcSeg s.regs.si
  pure ((s.portOut8 s.regs.dx v).advSi 1)

/-- One OUTSW (R566). -/
def State.outs16 (s : State) : Run State := do
  check s.ioAllowed (excGp 0)
  let v ← s.readSeg16 s.srcSeg s.regs.si
  pure ((s.portOut16 s.regs.dx v).advSi 2)

/-- Whether a comparing string instruction ends its repeat by the zero flag (R551 step 5). -/
def Rep.endsBy (r : Rep) (zf : Bool) : Bool :=
  match r with
  | .rep => !zf
  | .repne => zf

/-- An iteration is done: on to the next instruction if the repeat has ended, otherwise the instruction is executed
again from its first prefix byte (R551, R552; note 21). `ended` is the ZF condition. -/
def State.iterated (s : State) (ended : Bool) : State :=
  if ended || s.regs.cx == 0 then s.advance else { s with dec := { phase := .repeating } }

/-- A string primitive without a ZF test: once without a repeat prefix, by `RepString` with F3H; F2H is not listed
(R551, R553, D16). -/
def State.moving (s : State) (op : Run State) : Run State :=
  match s.dec.rep with
  | none => do
    let t ← op
    pure t.advance
  | some .repne => .error (.refuse .repneNotListed)
  | some .rep =>
    if s.regs.cx = 0 then .ok s.advance
    else do
      let t ← op
      pure (t.decCx.iterated false)

/-- CMPS and SCAS: once without a repeat prefix, by `RepString` with F2H or F3H (R551). -/
def State.comparing (s : State) (op : Run State) : Run State :=
  match s.dec.rep with
  | none => do
    let t ← op
    pure t.advance
  | some r =>
    if s.regs.cx = 0 then .ok s.advance
    else do
      let t ← op
      pure (t.decCx.iterated (r.endsBy t.flags.zf))

/-- `IN AL,p` (R570). -/
def State.in8 (s : State) (p : Word) : Run State := do
  check s.ioAllowed (excGp 0)
  pure (s.set8 .al (s.portIn8 p)).advance

/-- `IN AX,p` (R570). -/
def State.in16 (s : State) (p : Word) : Run State := do
  check s.ioAllowed (excGp 0)
  pure (s.set16 .ax (s.portIn16 p)).advance

/-- `OUT p,AL` (R571). -/
def State.out8 (s : State) (p : Word) : Run State := do
  check s.ioAllowed (excGp 0)
  pure (s.portOut8 p (s.get8 .al)).advance

/-- `OUT p,AX` (R571). -/
def State.out16 (s : State) (p : Word) : Run State := do
  check s.ioAllowed (excGp 0)
  pure (s.portOut16 p (s.get16 .ax)).advance

/-- `MOVS mb,mb`, opcode `A4` (R560). -/
def execMovsb (s : State) : Out :=
  s.finish (s.moving s.movs8)

/-- `MOVS mw,mw`, opcode `A5` (R560). -/
def execMovsw (s : State) : Out :=
  s.finish (s.moving s.movs16)

/-- `CMPS mb,mb`, opcode `A6` (R561). -/
def execCmpsb (s : State) : Out :=
  s.finish (s.comparing s.cmps8)

/-- `CMPS mw,mw`, opcode `A7` (R561). -/
def execCmpsw (s : State) : Out :=
  s.finish (s.comparing s.cmps16)

/-- `SCAS mb`, opcode `AE` (R562). -/
def execScasb (s : State) : Out :=
  s.finish (s.comparing s.scas8)

/-- `SCAS mw`, opcode `AF` (R562). -/
def execScasw (s : State) : Out :=
  s.finish (s.comparing s.scas16)

/-- `LODS mb`, opcode `AC` (R563). -/
def execLodsb (s : State) : Out :=
  s.finish (s.moving s.lods8)

/-- `LODS mw`, opcode `AD` (R563). -/
def execLodsw (s : State) : Out :=
  s.finish (s.moving s.lods16)

/-- `STOS mb`, opcode `AA` (R564). -/
def execStosb (s : State) : Out :=
  s.finish (s.moving s.stos8)

/-- `STOS mw`, opcode `AB` (R564). -/
def execStosw (s : State) : Out :=
  s.finish (s.moving s.stos16)

/-- `INS eb,DX`, opcode `6C` (R565). -/
def execInsb (s : State) : Out :=
  s.finish (s.moving s.ins8)

/-- `INS ew,DX`, opcode `6D` (R565). -/
def execInsw (s : State) : Out :=
  s.finish (s.moving s.ins16)

/-- `OUTS DX,eb`, opcode `6E` (R566). -/
def execOutsb (s : State) : Out :=
  s.finish (s.moving s.outs8)

/-- `OUTS DX,ew`, opcode `6F` (R566). -/
def execOutsw (s : State) : Out :=
  s.finish (s.moving s.outs16)

/-- `IN AL,db`, opcode `E4 db` (R570). -/
def execInAlDb (i : Byte) (s : State) : Out :=
  s.finish (s.in8 (i.setWidth 16))

/-- `IN AX,db`, opcode `E5 db` (R570). -/
def execInAxDb (i : Byte) (s : State) : Out :=
  s.finish (s.in16 (i.setWidth 16))

/-- `IN AL,DX`, opcode `EC` (R570). -/
def execInAlDx (s : State) : Out :=
  s.finish (s.in8 s.regs.dx)

/-- `IN AX,DX`, opcode `ED` (R570). -/
def execInAxDx (s : State) : Out :=
  s.finish (s.in16 s.regs.dx)

/-- `OUT db,AL`, opcode `E6 db` (R571). -/
def execOutDbAl (i : Byte) (s : State) : Out :=
  s.finish (s.out8 (i.setWidth 16))

/-- `OUT db,AX`, opcode `E7 db` (R571). -/
def execOutDbAx (i : Byte) (s : State) : Out :=
  s.finish (s.out16 (i.setWidth 16))

/-- `OUT DX,AL`, opcode `EE` (R571). -/
def execOutDxAl (s : State) : Out :=
  s.finish (s.out8 s.regs.dx)

/-- `OUT DX,AX`, opcode `EF` (R571). -/
def execOutDxAx (s : State) : Out :=
  s.finish (s.out16 s.regs.dx)

end Sys2Proof.Machine
end

