-- ==== Sys2Proof/Machine/System.lean ====
section
/-!
DEFINITION. The protected-mode system instructions (spec/47_protected_system.md R670-R694).
-/

namespace Sys2Proof.Machine

/-- The test of the privileged instructions; none in real mode (R670). -/
def State.privileged (s : State) : Run Unit := check (s.cpl == 0) (excGp 0)

/-- The test of the instructions not recognized in real mode (R670). -/
def State.protOnly (s : State) : Run Unit := check s.prot excUd

/-- The operand of LGDT and LIDT (R671-R673). -/
def State.readTable (s : State) (e : E16) : Run TableReg := do
  let m ← e.memOnly
  s.privileged
  let w ← s.readSeg48 (s.eaSeg m) (s.eaOff m)
  pure { limit := w.1, base := w.2.2.lo ++ w.2.1 }

/-- SGDT and SIDT: the sixth byte is free (R671, R674, R675, D35). -/
def State.storeTable (s : State) (e : E16) (t : TableReg) : Run State := do
  let m ← e.memOnly
  let x := s.eaSeg m
  check (s.canWrite x (s.eaOff m) 6) (s.segFault x)
  let a := (s.seg x).lin (s.eaOff m)
  let b := (s.writePhys16 a t.limit).writePhys16 (a + 2) (t.base.extractLsb' 0 16)
  pure ((b.writePhys (a + 4) (t.base.extractLsb' 16 8)).writePhys (a + 5) (Config.freeByte s.free .tablePad)).advance

/-- LLDT; the load of the cache is under bus LOCK (R125, R676). The code of a selector with TI = 1 keeps that bit (R670, R805, note 45). -/
def State.lldt (s : State) (e : E16) : Run State := do
  s.protOnly
  s.privileged
  let sel ← s.readE16 e
  if isNull sel then pure { s with ldtr := { s.ldtr with sel, valid := false } }.advance
  else do
    let ec := selCode sel
    check (s.inGdt sel) (excGp ec)
    let d := s.descAt (s.gdtAddr sel)
    check (arIsType d.ar 2) (excGp ec)
    check (arPresent d.ar) (excNp ec)
    pure { s.lockBus with ldtr := { sel, base := d.base, limit := d.limit, valid := true } }.advance

/-- LTR; the busy bit is set under bus LOCK (R125, R678). -/
def State.ltr (s : State) (e : E16) : Run State := do
  s.protOnly
  s.privileged
  let sel ← s.readE16 e
  let ec := selCode sel
  check (s.inGdt sel) (excGp ec)
  let d := s.descAt (s.gdtAddr sel)
  check (arIsType d.ar 1) (excGp ec)
  check (arPresent d.ar) (excNp ec)
  let t := s.lockBus.writePhys (d.addr + 5) (d.ar ||| 2)
  pure { t with tr := { sel, base := d.base, limit := d.limit, valid := true } }.advance

/-- SLDT and STR: a selector stored, protected mode only (R677, R679). -/
def State.storeSel (s : State) (e : E16) (sel : Word) : Run State := do
  s.protOnly
  let t ← s.writeE16 e sel
  pure t.advance

/-- LMSW: PE can be set and not cleared (R680, R71). -/
def State.lmsw (s : State) (e : E16) : Run State := do
  s.privileged
  let v ← s.readE16 e
  let m : Msw :=
    { pe := s.msw.pe || v.getLsbD 0, mp := v.getLsbD 1, em := v.getLsbD 2, ts := v.getLsbD 3 }
  pure { s with msw := m }.advance

/-- SMSW (R681). -/
def State.smsw (s : State) (e : E16) : Run State := do
  let t ← s.writeE16 e s.msw.toWord
  pure t.advance

/-- CLTS (R682). -/
def State.clts (s : State) : Run State := do
  s.privileged
  pure { s with msw := { s.msw with ts := false } }.advance

/-- The state with ZF replaced, no other flag. -/
def State.setZf (s : State) (b : Bool) : State := s.setFlags { s.flags with zf := b }

/-- ARPL (R690, D33). -/
def State.arpl (s : State) (e : E16) (r : Reg16) : Run State := do
  s.protOnly
  let d ← s.readE16 e
  let p := rplOf (s.get16 r)
  if rplOf d < p then do
    let t ← s.writeE16 e (withRpl d p)
    pure (t.setZf true).advance
  else pure (s.setZf false).advance

/-- `Lookup(s)`: the descriptor of a non-null selector inside its table (R689, D32). -/
def State.lookup (s : State) (sel : Word) : Option Desc := if isNull sel then none else s.desc? sel

/-- `Visible(s, ar)`: the privilege test (R689). -/
def State.visible (s : State) (sel : Word) (ar : Byte) : Bool :=
  (arSegment ar && arExec ar && arConfDown ar)
    || (decide (s.cpl ≤ arDpl ar) && decide (rplOf sel ≤ arDpl ar))

/-- The Accessed bit after a successful test of a segment descriptor (R689, D13). -/
def State.markTested (s : State) (d : Desc) : State := if arSegment d.ar then s.markAccessed d else s

/-- The descriptor LAR reads, if it may (R691). -/
def State.larDesc (s : State) (sel : Word) : Option Desc :=
  (s.lookup sel).filter fun d => s.visible sel d.ar

/-- Whether a descriptor has a limit LSL may read: a segment, a TSS or an LDT (R692). -/
def Desc.hasLimit (d : Desc) : Bool :=
  arSegment d.ar || arIsType d.ar 1 || arIsType d.ar 2 || arIsType d.ar 3

/-- The descriptor whose limit LSL reads, if it may (R692). -/
def State.lslDesc (s : State) (sel : Word) : Option Desc :=
  (s.lookup sel).filter fun d => d.hasLimit && s.visible sel d.ar

/-- The segment VERR finds readable (R693). -/
def State.verrDesc (s : State) (sel : Word) : Option Desc :=
  (s.lookup sel).filter fun d => d.isDataOrReadable && s.visible sel d.ar

/-- The segment VERW finds writable (R694). -/
def State.verwDesc (s : State) (sel : Word) : Option Desc :=
  (s.lookup sel).filter fun d => d.isWritableData && s.visible sel d.ar

/-- The end of LAR, LSL, VERR and VERW: on success ZF is set, the Accessed bit is written and the value, if there is one,
goes to its register; otherwise only ZF is cleared (R689, R691-R694). -/
def State.tested (s : State) (d : Option Desc) (put : Desc → State → State) : State :=
  match d with
  | none => (s.setZf false).advance
  | some d => (put d ((s.markTested d).setZf true)).advance

/-- A selector-testing instruction: not in real mode, the selector read, then the test (R689). -/
def State.testSel (s : State) (e : E16) (find : Word → Option Desc) (put : Desc → State → State) : Run State := do
  s.protOnly
  let sel ← s.readE16 e
  pure (s.tested (find sel) put)

/-- `LGDT m`, opcode `0F 01 /2` (R672). -/
def execLgdtM (e : E16) (s : State) : Out :=
  s.finish do
    let t ← s.readTable e
    pure { s with gdtr := t }.advance

/-- `LIDT m`, opcode `0F 01 /3` (R673). -/
def execLidtM (e : E16) (s : State) : Out :=
  s.finish do
    let t ← s.readTable e
    pure { s with idtr := t }.advance

/-- `SGDT m`, opcode `0F 01 /0` (R674). -/
def execSgdtM (e : E16) (s : State) : Out :=
  s.finish (s.storeTable e s.gdtr)

/-- `SIDT m`, opcode `0F 01 /1` (R675). -/
def execSidtM (e : E16) (s : State) : Out :=
  s.finish (s.storeTable e s.idtr)

/-- `LLDT ew`, opcode `0F 00 /2` (R676). -/
def execLldtEw (e : E16) (s : State) : Out :=
  s.finish (s.lldt e)

/-- `SLDT ew`, opcode `0F 00 /0` (R677). -/
def execSldtEw (e : E16) (s : State) : Out :=
  s.finish (s.storeSel e s.ldtr.sel)

/-- `LTR ew`, opcode `0F 00 /3` (R678). -/
def execLtrEw (e : E16) (s : State) : Out :=
  s.finish (s.ltr e)

/-- `STR ew`, opcode `0F 00 /1` (R679). -/
def execStrEw (e : E16) (s : State) : Out :=
  s.finish (s.storeSel e s.tr.sel)

/-- `LMSW ew`, opcode `0F 01 /6` (R680). -/
def execLmswEw (e : E16) (s : State) : Out :=
  s.finish (s.lmsw e)

/-- `SMSW ew`, opcode `0F 01 /4` (R681). -/
def execSmswEw (e : E16) (s : State) : Out :=
  s.finish (s.smsw e)

/-- `CLTS`, opcode `0F 06` (R682). -/
def execClts (s : State) : Out :=
  s.finish s.clts

/-- `ARPL ew,rw`, opcode `63 /r` (R690). -/
def execArplEwRw (e : E16) (r : Reg16) (s : State) : Out :=
  s.finish (s.arpl e r)

/-- `LAR rw,ew`, opcode `0F 02 /r` (R691). -/
def execLarRwEw (r : Reg16) (e : E16) (s : State) : Out :=
  s.finish (s.testSel e s.larDesc fun d t => t.set16 r (d.ar ++ 0#8))

/-- `LSL rw,ew`, opcode `0F 03 /r` (R692). -/
def execLslRwEw (r : Reg16) (e : E16) (s : State) : Out :=
  s.finish (s.testSel e s.lslDesc fun d t => t.set16 r d.limit)

/-- `VERR ew`, opcode `0F 00 /4` (R693). -/
def execVerrEw (e : E16) (s : State) : Out :=
  s.finish (s.testSel e s.verrDesc fun _ t => t)

/-- `VERW ew`, opcode `0F 00 /5` (R694). -/
def execVerwEw (e : E16) (s : State) : Out :=
  s.finish (s.testSel e s.verwDesc fun _ t => t)

end Sys2Proof.Machine
end

