-- ==== Sys2Proof/Machine/Undefined.lean ====
section
/-!
DEFINITION. The encodings that are no instruction: undefined ones raise an exception, ones the source does not list are
refused (spec/30_encoding.md R252, R260-R264).
-/

namespace Sys2Proof.Machine

/-- `D4 xx, xx other than 0A`: not listed by the source (R264, D19). -/
def execUnlistedD4xx (_b : Byte) (_s : State) : Out :=
  .refused .unlistedEncoding

/-- `D5 xx, xx other than 0A`: not listed by the source (R264, D19). -/
def execUnlistedD5xx (_b : Byte) (_s : State) : Out :=
  .refused .unlistedEncoding

/-- `0F xx, xx = 07H to FFH`: undefined, #UD (R263, R260). -/
def execUndef0Fxx (_op2 : Byte) (s : State) : Out :=
  s.finish (raise 6)

/-- `83 /1`: not listed by the source (R264, D19). -/
def execUnlisted83n1 (_s : State) : Out :=
  .refused .unlistedEncoding

/-- `83 /4`: not listed by the source (R264, D19). -/
def execUnlisted83n4 (_s : State) : Out :=
  .refused .unlistedEncoding

/-- `83 /6`: not listed by the source (R264, D19). -/
def execUnlisted83n6 (_s : State) : Out :=
  .refused .unlistedEncoding

/-- `64`: undefined, #UD (R263, R260). -/
def execUndef64 (s : State) : Out :=
  s.finish (raise 6)

/-- `65`: undefined, #UD (R263, R260). -/
def execUndef65 (s : State) : Out :=
  s.finish (raise 6)

/-- `66`: undefined, #UD (R263, R260). -/
def execUndef66 (s : State) : Out :=
  s.finish (raise 6)

/-- `67`: undefined, #UD (R263, R260). -/
def execUndef67 (s : State) : Out :=
  s.finish (raise 6)

/-- `82`: not listed by the source (R264, D19). -/
def execUnlisted82 (_s : State) : Out :=
  .refused .unlistedEncoding

/-- `8C /4 to /7`: not listed by the source (R264, D19). -/
def execUnlisted8Chi (_s : State) : Out :=
  .refused .unlistedEncoding

/-- `8E /1`: undefined, #UD (R262, R260). -/
def execUndef8En1 (s : State) : Out :=
  s.finish (raise 6)

/-- `8E /4 to /7`: not listed by the source (R264, D19). -/
def execUnlisted8Ehi (_s : State) : Out :=
  .refused .unlistedEncoding

/-- `8F /1`: no instruction, #GP(0) (R252). -/
def execUndef8Fn1 (s : State) : Out :=
  s.finish (raise 13 (some 0))

/-- `8F /2`: no instruction, #GP(0) (R252). -/
def execUndef8Fn2 (s : State) : Out :=
  s.finish (raise 13 (some 0))

/-- `8F /3`: no instruction, #GP(0) (R252). -/
def execUndef8Fn3 (s : State) : Out :=
  s.finish (raise 13 (some 0))

/-- `8F /4`: no instruction, #GP(0) (R252). -/
def execUndef8Fn4 (s : State) : Out :=
  s.finish (raise 13 (some 0))

/-- `8F /5`: no instruction, #GP(0) (R252). -/
def execUndef8Fn5 (s : State) : Out :=
  s.finish (raise 13 (some 0))

/-- `8F /6`: no instruction, #GP(0) (R252). -/
def execUndef8Fn6 (s : State) : Out :=
  s.finish (raise 13 (some 0))

/-- `8F /7`: no instruction, #GP(0) (R252). -/
def execUndef8Fn7 (s : State) : Out :=
  s.finish (raise 13 (some 0))

/-- `C0 /6`: not listed by the source (R264, D19). -/
def execUnlistedC0n6 (_s : State) : Out :=
  .refused .unlistedEncoding

/-- `C1 /6`: not listed by the source (R264, D19). -/
def execUnlistedC1n6 (_s : State) : Out :=
  .refused .unlistedEncoding

/-- `D0 /6`: not listed by the source (R264, D19). -/
def execUnlistedD0n6 (_s : State) : Out :=
  .refused .unlistedEncoding

/-- `D1 /6`: not listed by the source (R264, D19). -/
def execUnlistedD1n6 (_s : State) : Out :=
  .refused .unlistedEncoding

/-- `D2 /6`: not listed by the source (R264, D19). -/
def execUnlistedD2n6 (_s : State) : Out :=
  .refused .unlistedEncoding

/-- `D3 /6`: not listed by the source (R264, D19). -/
def execUnlistedD3n6 (_s : State) : Out :=
  .refused .unlistedEncoding

/-- `C6 /1`: undefined, #UD (R263, R260). -/
def execUndefC6n1 (s : State) : Out :=
  s.finish (raise 6)

/-- `C6 /2`: undefined, #UD (R263, R260). -/
def execUndefC6n2 (s : State) : Out :=
  s.finish (raise 6)

/-- `C6 /3`: undefined, #UD (R263, R260). -/
def execUndefC6n3 (s : State) : Out :=
  s.finish (raise 6)

/-- `C6 /4`: undefined, #UD (R263, R260). -/
def execUndefC6n4 (s : State) : Out :=
  s.finish (raise 6)

/-- `C6 /5`: undefined, #UD (R263, R260). -/
def execUndefC6n5 (s : State) : Out :=
  s.finish (raise 6)

/-- `C6 /6`: undefined, #UD (R263, R260). -/
def execUndefC6n6 (s : State) : Out :=
  s.finish (raise 6)

/-- `C6 /7`: undefined, #UD (R263, R260). -/
def execUndefC6n7 (s : State) : Out :=
  s.finish (raise 6)

/-- `C7 /1`: undefined, #UD (R263, R260). -/
def execUndefC7n1 (s : State) : Out :=
  s.finish (raise 6)

/-- `C7 /2`: undefined, #UD (R263, R260). -/
def execUndefC7n2 (s : State) : Out :=
  s.finish (raise 6)

/-- `C7 /3`: undefined, #UD (R263, R260). -/
def execUndefC7n3 (s : State) : Out :=
  s.finish (raise 6)

/-- `C7 /4`: undefined, #UD (R263, R260). -/
def execUndefC7n4 (s : State) : Out :=
  s.finish (raise 6)

/-- `C7 /5`: undefined, #UD (R263, R260). -/
def execUndefC7n5 (s : State) : Out :=
  s.finish (raise 6)

/-- `C7 /6`: undefined, #UD (R263, R260). -/
def execUndefC7n6 (s : State) : Out :=
  s.finish (raise 6)

/-- `C7 /7`: undefined, #UD (R263, R260). -/
def execUndefC7n7 (s : State) : Out :=
  s.finish (raise 6)

/-- `D6`: not listed by the source (R264, D19). -/
def execUnlistedD6 (_s : State) : Out :=
  .refused .unlistedEncoding

/-- `F1`: not listed by the source (R264, D19). -/
def execUnlistedF1 (_s : State) : Out :=
  .refused .unlistedEncoding

/-- `F6 /1`: undefined, #UD (R368, R260). -/
def execUndefF6n1 (s : State) : Out :=
  s.finish (raise 6)

/-- `F7 /1`: undefined, #UD (R368, R260). -/
def execUndefF7n1 (s : State) : Out :=
  s.finish (raise 6)

/-- `FE /2`: undefined, #UD (R263, R260). -/
def execUndefFEn2 (s : State) : Out :=
  s.finish (raise 6)

/-- `FE /3`: undefined, #UD (R263, R260). -/
def execUndefFEn3 (s : State) : Out :=
  s.finish (raise 6)

/-- `FE /4`: undefined, #UD (R263, R260). -/
def execUndefFEn4 (s : State) : Out :=
  s.finish (raise 6)

/-- `FE /5`: undefined, #UD (R263, R260). -/
def execUndefFEn5 (s : State) : Out :=
  s.finish (raise 6)

/-- `FE /6`: undefined, #UD (R263, R260). -/
def execUndefFEn6 (s : State) : Out :=
  s.finish (raise 6)

/-- `FE /7`: undefined, #UD (R263, R260). -/
def execUndefFEn7 (s : State) : Out :=
  s.finish (raise 6)

/-- `FF /7`: no instruction, #GP(0) (R252). -/
def execUndefFFn7 (s : State) : Out :=
  s.finish (raise 13 (some 0))

/-- `0F 00 /6`: undefined, #UD (R263, R260). -/
def execUndef0F00n6 (s : State) : Out :=
  s.finish (raise 6)

/-- `0F 00 /7`: undefined, #UD (R263, R260). -/
def execUndef0F00n7 (s : State) : Out :=
  s.finish (raise 6)

/-- `0F 01 /5`: undefined, #UD (R263, R260). -/
def execUndef0F01n5 (s : State) : Out :=
  s.finish (raise 6)

/-- `0F 01 /7`: undefined, #UD (R263, R260). -/
def execUndef0F01n7 (s : State) : Out :=
  s.finish (raise 6)

/-- `0F 04`: not listed by the source (R264, D19). -/
def execUnlisted0F04 (_s : State) : Out :=
  .refused .unlistedEncoding

/-- `0F 05`: not listed by the source (R264, D19). -/
def execUnlisted0F05 (_s : State) : Out :=
  .refused .unlistedEncoding

end Sys2Proof.Machine
end

