-- ==== Sys2Proof/Machine/Dispatch.lean ====
section
/-!
DEFINITION. The dispatch from each instruction to its meaning.
-/

namespace Sys2Proof.Machine

def exec (i : Instr) (s : State) : Host.Outcome State Fault Refusal :=
  match i with
  | .addEbRb e r => Sys2Proof.Machine.execAddEbRb e r s
  | .addEwRw e r => Sys2Proof.Machine.execAddEwRw e r s
  | .addRbEb r e => Sys2Proof.Machine.execAddRbEb r e s
  | .addRwEw r e => Sys2Proof.Machine.execAddRwEw r e s
  | .addAlDb imm => Sys2Proof.Machine.execAddAlDb imm s
  | .addAxDw imm => Sys2Proof.Machine.execAddAxDw imm s
  | .addEbDb e imm => Sys2Proof.Machine.execAddEbDb e imm s
  | .addEwDw e imm => Sys2Proof.Machine.execAddEwDw e imm s
  | .addEwDb e imm => Sys2Proof.Machine.execAddEwDb e imm s
  | .orEbRb e r => Sys2Proof.Machine.execOrEbRb e r s
  | .orEwRw e r => Sys2Proof.Machine.execOrEwRw e r s
  | .orRbEb r e => Sys2Proof.Machine.execOrRbEb r e s
  | .orRwEw r e => Sys2Proof.Machine.execOrRwEw r e s
  | .orAlDb imm => Sys2Proof.Machine.execOrAlDb imm s
  | .orAxDw imm => Sys2Proof.Machine.execOrAxDw imm s
  | .orEbDb e imm => Sys2Proof.Machine.execOrEbDb e imm s
  | .orEwDw e imm => Sys2Proof.Machine.execOrEwDw e imm s
  | .adcEbRb e r => Sys2Proof.Machine.execAdcEbRb e r s
  | .adcEwRw e r => Sys2Proof.Machine.execAdcEwRw e r s
  | .adcRbEb r e => Sys2Proof.Machine.execAdcRbEb r e s
  | .adcRwEw r e => Sys2Proof.Machine.execAdcRwEw r e s
  | .adcAlDb imm => Sys2Proof.Machine.execAdcAlDb imm s
  | .adcAxDw imm => Sys2Proof.Machine.execAdcAxDw imm s
  | .adcEbDb e imm => Sys2Proof.Machine.execAdcEbDb e imm s
  | .adcEwDw e imm => Sys2Proof.Machine.execAdcEwDw e imm s
  | .adcEwDb e imm => Sys2Proof.Machine.execAdcEwDb e imm s
  | .sbbEbRb e r => Sys2Proof.Machine.execSbbEbRb e r s
  | .sbbEwRw e r => Sys2Proof.Machine.execSbbEwRw e r s
  | .sbbRbEb r e => Sys2Proof.Machine.execSbbRbEb r e s
  | .sbbRwEw r e => Sys2Proof.Machine.execSbbRwEw r e s
  | .sbbAlDb imm => Sys2Proof.Machine.execSbbAlDb imm s
  | .sbbAxDw imm => Sys2Proof.Machine.execSbbAxDw imm s
  | .sbbEbDb e imm => Sys2Proof.Machine.execSbbEbDb e imm s
  | .sbbEwDw e imm => Sys2Proof.Machine.execSbbEwDw e imm s
  | .sbbEwDb e imm => Sys2Proof.Machine.execSbbEwDb e imm s
  | .andEbRb e r => Sys2Proof.Machine.execAndEbRb e r s
  | .andEwRw e r => Sys2Proof.Machine.execAndEwRw e r s
  | .andRbEb r e => Sys2Proof.Machine.execAndRbEb r e s
  | .andRwEw r e => Sys2Proof.Machine.execAndRwEw r e s
  | .andAlDb imm => Sys2Proof.Machine.execAndAlDb imm s
  | .andAxDw imm => Sys2Proof.Machine.execAndAxDw imm s
  | .andEbDb e imm => Sys2Proof.Machine.execAndEbDb e imm s
  | .andEwDw e imm => Sys2Proof.Machine.execAndEwDw e imm s
  | .subEbRb e r => Sys2Proof.Machine.execSubEbRb e r s
  | .subEwRw e r => Sys2Proof.Machine.execSubEwRw e r s
  | .subRbEb r e => Sys2Proof.Machine.execSubRbEb r e s
  | .subRwEw r e => Sys2Proof.Machine.execSubRwEw r e s
  | .subAlDb imm => Sys2Proof.Machine.execSubAlDb imm s
  | .subAxDw imm => Sys2Proof.Machine.execSubAxDw imm s
  | .subEbDb e imm => Sys2Proof.Machine.execSubEbDb e imm s
  | .subEwDw e imm => Sys2Proof.Machine.execSubEwDw e imm s
  | .subEwDb e imm => Sys2Proof.Machine.execSubEwDb e imm s
  | .xorEbRb e r => Sys2Proof.Machine.execXorEbRb e r s
  | .xorEwRw e r => Sys2Proof.Machine.execXorEwRw e r s
  | .xorRbEb r e => Sys2Proof.Machine.execXorRbEb r e s
  | .xorRwEw r e => Sys2Proof.Machine.execXorRwEw r e s
  | .xorAlDb imm => Sys2Proof.Machine.execXorAlDb imm s
  | .xorAxDw imm => Sys2Proof.Machine.execXorAxDw imm s
  | .xorEbDb e imm => Sys2Proof.Machine.execXorEbDb e imm s
  | .xorEwDw e imm => Sys2Proof.Machine.execXorEwDw e imm s
  | .cmpEbRb e r => Sys2Proof.Machine.execCmpEbRb e r s
  | .cmpEwRw e r => Sys2Proof.Machine.execCmpEwRw e r s
  | .cmpRbEb r e => Sys2Proof.Machine.execCmpRbEb r e s
  | .cmpRwEw r e => Sys2Proof.Machine.execCmpRwEw r e s
  | .cmpAlDb imm => Sys2Proof.Machine.execCmpAlDb imm s
  | .cmpAxDw imm => Sys2Proof.Machine.execCmpAxDw imm s
  | .cmpEbDb e imm => Sys2Proof.Machine.execCmpEbDb e imm s
  | .cmpEwDw e imm => Sys2Proof.Machine.execCmpEwDw e imm s
  | .cmpEwDb e imm => Sys2Proof.Machine.execCmpEwDb e imm s
  | .incRw r => Sys2Proof.Machine.execIncRw r s
  | .decRw r => Sys2Proof.Machine.execDecRw r s
  | .pushRw r => Sys2Proof.Machine.execPushRw r s
  | .popRw r => Sys2Proof.Machine.execPopRw r s
  | .boundRwMd r e => Sys2Proof.Machine.execBoundRwMd r e s
  | .arplEwRw e r => Sys2Proof.Machine.execArplEwRw e r s
  | .pushDw imm => Sys2Proof.Machine.execPushDw imm s
  | .imulRwEwDw r e imm => Sys2Proof.Machine.execImulRwEwDw r e imm s
  | .pushDb imm => Sys2Proof.Machine.execPushDb imm s
  | .imulRwEwDb r e imm => Sys2Proof.Machine.execImulRwEwDb r e imm s
  | .jo d => Sys2Proof.Machine.execJo d s
  | .jno d => Sys2Proof.Machine.execJno d s
  | .jb d => Sys2Proof.Machine.execJb d s
  | .jnb d => Sys2Proof.Machine.execJnb d s
  | .je d => Sys2Proof.Machine.execJe d s
  | .jne d => Sys2Proof.Machine.execJne d s
  | .jbe d => Sys2Proof.Machine.execJbe d s
  | .jnbe d => Sys2Proof.Machine.execJnbe d s
  | .js d => Sys2Proof.Machine.execJs d s
  | .jns d => Sys2Proof.Machine.execJns d s
  | .jp d => Sys2Proof.Machine.execJp d s
  | .jnp d => Sys2Proof.Machine.execJnp d s
  | .jl d => Sys2Proof.Machine.execJl d s
  | .jnl d => Sys2Proof.Machine.execJnl d s
  | .jle d => Sys2Proof.Machine.execJle d s
  | .jnle d => Sys2Proof.Machine.execJnle d s
  | .testEbRb e r => Sys2Proof.Machine.execTestEbRb e r s
  | .testEwRw e r => Sys2Proof.Machine.execTestEwRw e r s
  | .xchgEbRb e r => Sys2Proof.Machine.execXchgEbRb e r s
  | .xchgEwRw e r => Sys2Proof.Machine.execXchgEwRw e r s
  | .movEbRb e r => Sys2Proof.Machine.execMovEbRb e r s
  | .movEwRw e r => Sys2Proof.Machine.execMovEwRw e r s
  | .movRbEb r e => Sys2Proof.Machine.execMovRbEb r e s
  | .movRwEw r e => Sys2Proof.Machine.execMovRwEw r e s
  | .movEwEs e => Sys2Proof.Machine.execMovEwEs e s
  | .movEwCs e => Sys2Proof.Machine.execMovEwCs e s
  | .movEwSs e => Sys2Proof.Machine.execMovEwSs e s
  | .movEwDs e => Sys2Proof.Machine.execMovEwDs e s
  | .leaRwM r e => Sys2Proof.Machine.execLeaRwM r e s
  | .movEsEw e => Sys2Proof.Machine.execMovEsEw e s
  | .movSsEw e => Sys2Proof.Machine.execMovSsEw e s
  | .movDsEw e => Sys2Proof.Machine.execMovDsEw e s
  | .popMw e => Sys2Proof.Machine.execPopMw e s
  | .xchgAxRw r => Sys2Proof.Machine.execXchgAxRw r s
  | .callCd off sel => Sys2Proof.Machine.execCallCd off sel s
  | .movAlXb a => Sys2Proof.Machine.execMovAlXb a s
  | .movAxXw a => Sys2Proof.Machine.execMovAxXw a s
  | .movXbAl a => Sys2Proof.Machine.execMovXbAl a s
  | .movXwAx a => Sys2Proof.Machine.execMovXwAx a s
  | .testAlDb imm => Sys2Proof.Machine.execTestAlDb imm s
  | .testAxDw imm => Sys2Proof.Machine.execTestAxDw imm s
  | .movRbDb r imm => Sys2Proof.Machine.execMovRbDb r imm s
  | .movRwDw r imm => Sys2Proof.Machine.execMovRwDw r imm s
  | .rolEbDb e imm => Sys2Proof.Machine.execRolEbDb e imm s
  | .rorEbDb e imm => Sys2Proof.Machine.execRorEbDb e imm s
  | .rclEbDb e imm => Sys2Proof.Machine.execRclEbDb e imm s
  | .rcrEbDb e imm => Sys2Proof.Machine.execRcrEbDb e imm s
  | .salEbDb e imm => Sys2Proof.Machine.execSalEbDb e imm s
  | .shrEbDb e imm => Sys2Proof.Machine.execShrEbDb e imm s
  | .sarEbDb e imm => Sys2Proof.Machine.execSarEbDb e imm s
  | .rolEwDb e imm => Sys2Proof.Machine.execRolEwDb e imm s
  | .rorEwDb e imm => Sys2Proof.Machine.execRorEwDb e imm s
  | .rclEwDb e imm => Sys2Proof.Machine.execRclEwDb e imm s
  | .rcrEwDb e imm => Sys2Proof.Machine.execRcrEwDb e imm s
  | .salEwDb e imm => Sys2Proof.Machine.execSalEwDb e imm s
  | .shrEwDb e imm => Sys2Proof.Machine.execShrEwDb e imm s
  | .sarEwDb e imm => Sys2Proof.Machine.execSarEwDb e imm s
  | .rolEbOne e => Sys2Proof.Machine.execRolEbOne e s
  | .rorEbOne e => Sys2Proof.Machine.execRorEbOne e s
  | .rclEbOne e => Sys2Proof.Machine.execRclEbOne e s
  | .rcrEbOne e => Sys2Proof.Machine.execRcrEbOne e s
  | .salEbOne e => Sys2Proof.Machine.execSalEbOne e s
  | .shrEbOne e => Sys2Proof.Machine.execShrEbOne e s
  | .sarEbOne e => Sys2Proof.Machine.execSarEbOne e s
  | .rolEwOne e => Sys2Proof.Machine.execRolEwOne e s
  | .rorEwOne e => Sys2Proof.Machine.execRorEwOne e s
  | .rclEwOne e => Sys2Proof.Machine.execRclEwOne e s
  | .rcrEwOne e => Sys2Proof.Machine.execRcrEwOne e s
  | .salEwOne e => Sys2Proof.Machine.execSalEwOne e s
  | .shrEwOne e => Sys2Proof.Machine.execShrEwOne e s
  | .sarEwOne e => Sys2Proof.Machine.execSarEwOne e s
  | .rolEbCl e => Sys2Proof.Machine.execRolEbCl e s
  | .rorEbCl e => Sys2Proof.Machine.execRorEbCl e s
  | .rclEbCl e => Sys2Proof.Machine.execRclEbCl e s
  | .rcrEbCl e => Sys2Proof.Machine.execRcrEbCl e s
  | .salEbCl e => Sys2Proof.Machine.execSalEbCl e s
  | .shrEbCl e => Sys2Proof.Machine.execShrEbCl e s
  | .sarEbCl e => Sys2Proof.Machine.execSarEbCl e s
  | .rolEwCl e => Sys2Proof.Machine.execRolEwCl e s
  | .rorEwCl e => Sys2Proof.Machine.execRorEwCl e s
  | .rclEwCl e => Sys2Proof.Machine.execRclEwCl e s
  | .rcrEwCl e => Sys2Proof.Machine.execRcrEwCl e s
  | .salEwCl e => Sys2Proof.Machine.execSalEwCl e s
  | .shrEwCl e => Sys2Proof.Machine.execShrEwCl e s
  | .sarEwCl e => Sys2Proof.Machine.execSarEwCl e s
  | .retNearDw imm => Sys2Proof.Machine.execRetNearDw imm s
  | .lesRwEd r e => Sys2Proof.Machine.execLesRwEd r e s
  | .ldsRwEd r e => Sys2Proof.Machine.execLdsRwEd r e s
  | .movEbDb e imm => Sys2Proof.Machine.execMovEbDb e imm s
  | .movEwDw e imm => Sys2Proof.Machine.execMovEwDw e imm s
  | .enterDwDb size level => Sys2Proof.Machine.execEnterDwDb size level s
  | .retFarDw imm => Sys2Proof.Machine.execRetFarDw imm s
  | .intDb imm => Sys2Proof.Machine.execIntDb imm s
  | .unlistedD4xx b => Sys2Proof.Machine.execUnlistedD4xx b s
  | .unlistedD5xx b => Sys2Proof.Machine.execUnlistedD5xx b s
  | .esc x y e => Sys2Proof.Machine.execEsc x y e s
  | .loopne d => Sys2Proof.Machine.execLoopne d s
  | .loope d => Sys2Proof.Machine.execLoope d s
  | .loop d => Sys2Proof.Machine.execLoop d s
  | .jcxz d => Sys2Proof.Machine.execJcxz d s
  | .inAlDb imm => Sys2Proof.Machine.execInAlDb imm s
  | .inAxDb imm => Sys2Proof.Machine.execInAxDb imm s
  | .outDbAl imm => Sys2Proof.Machine.execOutDbAl imm s
  | .outDbAx imm => Sys2Proof.Machine.execOutDbAx imm s
  | .callCw d => Sys2Proof.Machine.execCallCw d s
  | .jmpCw d => Sys2Proof.Machine.execJmpCw d s
  | .jmpCd off sel => Sys2Proof.Machine.execJmpCd off sel s
  | .jmpCb d => Sys2Proof.Machine.execJmpCb d s
  | .testEbDb e imm => Sys2Proof.Machine.execTestEbDb e imm s
  | .notEb e => Sys2Proof.Machine.execNotEb e s
  | .negEb e => Sys2Proof.Machine.execNegEb e s
  | .mulEb e => Sys2Proof.Machine.execMulEb e s
  | .imulEb e => Sys2Proof.Machine.execImulEb e s
  | .divEb e => Sys2Proof.Machine.execDivEb e s
  | .idivEb e => Sys2Proof.Machine.execIdivEb e s
  | .testEwDw e imm => Sys2Proof.Machine.execTestEwDw e imm s
  | .notEw e => Sys2Proof.Machine.execNotEw e s
  | .negEw e => Sys2Proof.Machine.execNegEw e s
  | .mulEw e => Sys2Proof.Machine.execMulEw e s
  | .imulEw e => Sys2Proof.Machine.execImulEw e s
  | .divEw e => Sys2Proof.Machine.execDivEw e s
  | .idivEw e => Sys2Proof.Machine.execIdivEw e s
  | .incEb e => Sys2Proof.Machine.execIncEb e s
  | .decEb e => Sys2Proof.Machine.execDecEb e s
  | .incEw e => Sys2Proof.Machine.execIncEw e s
  | .decEw e => Sys2Proof.Machine.execDecEw e s
  | .callEw e => Sys2Proof.Machine.execCallEw e s
  | .callEd e => Sys2Proof.Machine.execCallEd e s
  | .jmpEw e => Sys2Proof.Machine.execJmpEw e s
  | .jmpEd e => Sys2Proof.Machine.execJmpEd e s
  | .pushMw e => Sys2Proof.Machine.execPushMw e s
  | .sldtEw e => Sys2Proof.Machine.execSldtEw e s
  | .strEw e => Sys2Proof.Machine.execStrEw e s
  | .lldtEw e => Sys2Proof.Machine.execLldtEw e s
  | .ltrEw e => Sys2Proof.Machine.execLtrEw e s
  | .verrEw e => Sys2Proof.Machine.execVerrEw e s
  | .verwEw e => Sys2Proof.Machine.execVerwEw e s
  | .sgdtM e => Sys2Proof.Machine.execSgdtM e s
  | .sidtM e => Sys2Proof.Machine.execSidtM e s
  | .lgdtM e => Sys2Proof.Machine.execLgdtM e s
  | .lidtM e => Sys2Proof.Machine.execLidtM e s
  | .smswEw e => Sys2Proof.Machine.execSmswEw e s
  | .lmswEw e => Sys2Proof.Machine.execLmswEw e s
  | .larRwEw r e => Sys2Proof.Machine.execLarRwEw r e s
  | .lslRwEw r e => Sys2Proof.Machine.execLslRwEw r e s
  | .undef0Fxx op2 => Sys2Proof.Machine.execUndef0Fxx op2 s
  | .unlisted83n1 => Sys2Proof.Machine.execUnlisted83n1 s
  | .unlisted83n4 => Sys2Proof.Machine.execUnlisted83n4 s
  | .unlisted83n6 => Sys2Proof.Machine.execUnlisted83n6 s
  | .pushEs => Sys2Proof.Machine.execPushEs s
  | .pushCs => Sys2Proof.Machine.execPushCs s
  | .pushSs => Sys2Proof.Machine.execPushSs s
  | .pushDs => Sys2Proof.Machine.execPushDs s
  | .popEs => Sys2Proof.Machine.execPopEs s
  | .popSs => Sys2Proof.Machine.execPopSs s
  | .popDs => Sys2Proof.Machine.execPopDs s
  | .twoByteEscape => Sys2Proof.Machine.execTwoByteEscape s
  | .prefixEs => Sys2Proof.Machine.execPrefixEs s
  | .prefixCs => Sys2Proof.Machine.execPrefixCs s
  | .prefixSs => Sys2Proof.Machine.execPrefixSs s
  | .prefixDs => Sys2Proof.Machine.execPrefixDs s
  | .daa => Sys2Proof.Machine.execDaa s
  | .das => Sys2Proof.Machine.execDas s
  | .aaa => Sys2Proof.Machine.execAaa s
  | .aas => Sys2Proof.Machine.execAas s
  | .pusha => Sys2Proof.Machine.execPusha s
  | .popa => Sys2Proof.Machine.execPopa s
  | .undef64 => Sys2Proof.Machine.execUndef64 s
  | .undef65 => Sys2Proof.Machine.execUndef65 s
  | .undef66 => Sys2Proof.Machine.execUndef66 s
  | .undef67 => Sys2Proof.Machine.execUndef67 s
  | .insb => Sys2Proof.Machine.execInsb s
  | .insw => Sys2Proof.Machine.execInsw s
  | .outsb => Sys2Proof.Machine.execOutsb s
  | .outsw => Sys2Proof.Machine.execOutsw s
  | .unlisted82 => Sys2Proof.Machine.execUnlisted82 s
  | .unlisted8Chi => Sys2Proof.Machine.execUnlisted8Chi s
  | .undef8En1 => Sys2Proof.Machine.execUndef8En1 s
  | .unlisted8Ehi => Sys2Proof.Machine.execUnlisted8Ehi s
  | .undef8Fn1 => Sys2Proof.Machine.execUndef8Fn1 s
  | .undef8Fn2 => Sys2Proof.Machine.execUndef8Fn2 s
  | .undef8Fn3 => Sys2Proof.Machine.execUndef8Fn3 s
  | .undef8Fn4 => Sys2Proof.Machine.execUndef8Fn4 s
  | .undef8Fn5 => Sys2Proof.Machine.execUndef8Fn5 s
  | .undef8Fn6 => Sys2Proof.Machine.execUndef8Fn6 s
  | .undef8Fn7 => Sys2Proof.Machine.execUndef8Fn7 s
  | .nop => Sys2Proof.Machine.execNop s
  | .cbw => Sys2Proof.Machine.execCbw s
  | .cwd => Sys2Proof.Machine.execCwd s
  | .wait => Sys2Proof.Machine.execWait s
  | .pushf => Sys2Proof.Machine.execPushf s
  | .popf => Sys2Proof.Machine.execPopf s
  | .sahf => Sys2Proof.Machine.execSahf s
  | .lahf => Sys2Proof.Machine.execLahf s
  | .movsb => Sys2Proof.Machine.execMovsb s
  | .movsw => Sys2Proof.Machine.execMovsw s
  | .cmpsb => Sys2Proof.Machine.execCmpsb s
  | .cmpsw => Sys2Proof.Machine.execCmpsw s
  | .stosb => Sys2Proof.Machine.execStosb s
  | .stosw => Sys2Proof.Machine.execStosw s
  | .lodsb => Sys2Proof.Machine.execLodsb s
  | .lodsw => Sys2Proof.Machine.execLodsw s
  | .scasb => Sys2Proof.Machine.execScasb s
  | .scasw => Sys2Proof.Machine.execScasw s
  | .unlistedC0n6 => Sys2Proof.Machine.execUnlistedC0n6 s
  | .unlistedC1n6 => Sys2Proof.Machine.execUnlistedC1n6 s
  | .unlistedD0n6 => Sys2Proof.Machine.execUnlistedD0n6 s
  | .unlistedD1n6 => Sys2Proof.Machine.execUnlistedD1n6 s
  | .unlistedD2n6 => Sys2Proof.Machine.execUnlistedD2n6 s
  | .unlistedD3n6 => Sys2Proof.Machine.execUnlistedD3n6 s
  | .retNear => Sys2Proof.Machine.execRetNear s
  | .undefC6n1 => Sys2Proof.Machine.execUndefC6n1 s
  | .undefC6n2 => Sys2Proof.Machine.execUndefC6n2 s
  | .undefC6n3 => Sys2Proof.Machine.execUndefC6n3 s
  | .undefC6n4 => Sys2Proof.Machine.execUndefC6n4 s
  | .undefC6n5 => Sys2Proof.Machine.execUndefC6n5 s
  | .undefC6n6 => Sys2Proof.Machine.execUndefC6n6 s
  | .undefC6n7 => Sys2Proof.Machine.execUndefC6n7 s
  | .undefC7n1 => Sys2Proof.Machine.execUndefC7n1 s
  | .undefC7n2 => Sys2Proof.Machine.execUndefC7n2 s
  | .undefC7n3 => Sys2Proof.Machine.execUndefC7n3 s
  | .undefC7n4 => Sys2Proof.Machine.execUndefC7n4 s
  | .undefC7n5 => Sys2Proof.Machine.execUndefC7n5 s
  | .undefC7n6 => Sys2Proof.Machine.execUndefC7n6 s
  | .undefC7n7 => Sys2Proof.Machine.execUndefC7n7 s
  | .leave => Sys2Proof.Machine.execLeave s
  | .retFar => Sys2Proof.Machine.execRetFar s
  | .int3 => Sys2Proof.Machine.execInt3 s
  | .into => Sys2Proof.Machine.execInto s
  | .iret => Sys2Proof.Machine.execIret s
  | .aam => Sys2Proof.Machine.execAam s
  | .aad => Sys2Proof.Machine.execAad s
  | .unlistedD6 => Sys2Proof.Machine.execUnlistedD6 s
  | .xlat => Sys2Proof.Machine.execXlat s
  | .inAlDx => Sys2Proof.Machine.execInAlDx s
  | .inAxDx => Sys2Proof.Machine.execInAxDx s
  | .outDxAl => Sys2Proof.Machine.execOutDxAl s
  | .outDxAx => Sys2Proof.Machine.execOutDxAx s
  | .prefixLock => Sys2Proof.Machine.execPrefixLock s
  | .unlistedF1 => Sys2Proof.Machine.execUnlistedF1 s
  | .prefixRepne => Sys2Proof.Machine.execPrefixRepne s
  | .prefixRep => Sys2Proof.Machine.execPrefixRep s
  | .hlt => Sys2Proof.Machine.execHlt s
  | .cmc => Sys2Proof.Machine.execCmc s
  | .undefF6n1 => Sys2Proof.Machine.execUndefF6n1 s
  | .undefF7n1 => Sys2Proof.Machine.execUndefF7n1 s
  | .clc => Sys2Proof.Machine.execClc s
  | .stc => Sys2Proof.Machine.execStc s
  | .cli => Sys2Proof.Machine.execCli s
  | .sti => Sys2Proof.Machine.execSti s
  | .cld => Sys2Proof.Machine.execCld s
  | .std => Sys2Proof.Machine.execStd s
  | .undefFEn2 => Sys2Proof.Machine.execUndefFEn2 s
  | .undefFEn3 => Sys2Proof.Machine.execUndefFEn3 s
  | .undefFEn4 => Sys2Proof.Machine.execUndefFEn4 s
  | .undefFEn5 => Sys2Proof.Machine.execUndefFEn5 s
  | .undefFEn6 => Sys2Proof.Machine.execUndefFEn6 s
  | .undefFEn7 => Sys2Proof.Machine.execUndefFEn7 s
  | .undefFFn7 => Sys2Proof.Machine.execUndefFFn7 s
  | .undef0F00n6 => Sys2Proof.Machine.execUndef0F00n6 s
  | .undef0F00n7 => Sys2Proof.Machine.execUndef0F00n7 s
  | .undef0F01n5 => Sys2Proof.Machine.execUndef0F01n5 s
  | .undef0F01n7 => Sys2Proof.Machine.execUndef0F01n7 s
  | .unlisted0F04 => Sys2Proof.Machine.execUnlisted0F04 s
  | .unlisted0F05 => Sys2Proof.Machine.execUnlisted0F05 s
  | .clts => Sys2Proof.Machine.execClts s

end Sys2Proof.Machine
end

