-- ==== Sys2Proof/Machine/Fetch.lean ====
section
/-!
DEFINITION. Fetching and executing one instruction with its prefixes, the events looked for between instructions, leaving
shutdown, and RESET: what the step calls (spec/30_encoding.md R221, R222, R275; spec/60_exceptions.md R810-R812, R860,
R906; spec/70_reset_and_hazards.md R950-R952).
-/

namespace Sys2Proof.Machine

/-- The byte at `off` of the code segment can be fetched: inside 64K, and inside CS's limit in protected mode (R221). -/
def State.canFetch (s : State) (off : Nat) : Bool :=
  decide (off ≤ 0xFFFF) && (!s.prot || decide (off ≤ s.cs.limit.toNat))

/-- At most `n` bytes from byte `k` of the instruction at CS:IP, up to the first that cannot be fetched (R221). -/
def State.window (s : State) : Nat → Nat → List Byte
  | _, 0 => []
  | k, n + 1 =>
    if s.canFetch (s.ip.toNat + k) then
      s.readPhys (s.cs.lin (s.ip + BitVec.ofNat 16 k)) :: s.window (k + 1) n
    else []

/-- The bytes still to be decoded of the instruction being executed, ten less those already decoded (R222). -/
def State.code (s : State) : List Byte := (s.reading .code).window s.dec.len (10 - s.dec.len)

/-- The instruction's length so far counted `n` bytes further, as `exec` wants to find it (R221). -/
def State.decoded (s : State) (n : Nat) : State :=
  { s with dec := { s.dec with len := s.dec.len + n, phase := .idle } }

/-- The instructions for whose duration a LOCK prefix asserts bus LOCK: MOVS, INS and OUTS; whether MOV with a memory
operand is one is left open; XCHG asserts it by itself (R125, R608, C45, note 52). -/
def heedsLock : Instr → Bool
  | .movsb | .movsw | .insb | .insw | .outsb | .outsw => true
  | .movEbRb (.mem _) _ | .movEwRw (.mem _) _ | .movRbEb _ (.mem _) | .movRwEw _ (.mem _) | .movEbDb (.mem _) _
  | .movEwDw (.mem _) _ | .movAlXb _ | .movAxXw _ | .movXbAl _ | .movXwAx _
  | .movEwEs (.mem _) | .movEwCs (.mem _) | .movEwSs (.mem _) | .movEwDs (.mem _)
  | .movEsEw (.mem _) | .movSsEw (.mem _) | .movDsEw (.mem _) => Config.lockHeldForMov
  | _ => false

/-- Instruction `i` about to be executed: bus LOCK is asserted if it carries the LOCK prefix and heeds it (R125, R608). -/
def State.prefixLocked (s : State) (i : Instr) : State := if s.dec.lock && heedsLock i then s.lockBus else s

/-- One element decoded and executed: a prefix, or the instruction behind its prefixes. Bytes that end too early raise the
fetch fault (R221, R222, R275). -/
def State.element (s : State) : Out :=
  match decode s.code with
  | .error _ => s.finish (raise 13 (some 0))
  | .ok (i, rest) => exec i ((s.decoded (s.code.length - rest.length)).prefixLocked i)

/-- Elements until one is no prefix; each has at least one byte of the ten, so eleven suffice (R222, R275). -/
def State.elements : Nat → State → Out
  | 0, s => .next s
  | n + 1, s =>
    match s.element with
    | .next t => if t.dec.phase = .prefixed then State.elements n t else .next t
    | .fault f => .fault f
    | .refused r => .refused r

/-- The next value of the counter free values are drawn from (D5, note 9). -/
def State.tick (s : State) : State := { s with free := s.free + 1 }

/-- Whether the single-step interrupt is due after an instruction that began with TF as `tf`: not while an instruction
waits, and between the iterations of a repeated string instruction only if the parameter says so, one that the inhibit
latch held off before the first iteration among them (R552, R752, R810, R860, D28). -/
def State.trapAfter (t : State) (tf : Bool) : Bool :=
  match t.dec.phase with
  | .idle => tf
  | .prefixed => tf
  | .repeating => tf && Config.repSingleStepPerIteration
  | .waiting => false

/-- The end of an instruction that began with TF as `tf` (R810). -/
def State.ended (t : State) (tf : Bool) : State :=
  { t with trapPending := t.trapAfter tf, dec := {}, free := t.free + 1 }

/-- One instruction, if the machine runs (R810). -/
def State.instruction (s : State) : Out :=
  if s.runState = .running then
    match State.elements 11 { s with dec := {} } with
    | .next t => .next (t.ended s.flags.tf)
    | .fault f => .fault f
    | .refused r => .refused r
  else .next s.tick

/-- `Interrupt(vec, EXT, IP, none)` at an instruction boundary, which ends a halt (R810, R820). -/
def State.external (s : State) (vec : Byte) : Except Refusal State := do
  let t ← { s with runState := .running }.deliver { vec, kind := .ext, ret := s.ip, code := none }
  pure t.tick

/-- Order 2: the single-step interrupt (R810, R860). -/
def State.trapEvent (s : State) : Except Refusal State :=
  if s.trapPending then { s with trapPending := false }.external 1 else .ok s

/-- Order 3: NMI (R810, R812). -/
def State.nmiEvent (s : State) : Except Refusal State :=
  if s.runState != .shutdown && s.nmiPending && !s.nmiInService then
    { s with nmiPending := false, nmiInService := true }.external 2
  else .ok s

/-- Order 4: the processor extension segment overrun (R810, R756). -/
def State.overrunEvent (s : State) : Except Refusal State :=
  if s.runState != .shutdown && s.overrunReq && s.npxPresent && !s.nmiInService then
    { s with overrunReq := false }.external 9
  else .ok s

/-- Order 5: INTR, acknowledged under bus LOCK and its vector taken (R125, R810, R811, note 8). -/
def State.intrEvent (s : State) : Except Refusal State :=
  match s.intr with
  | none => .ok s
  | some v =>
    if s.runState != .shutdown && s.flags.ie then
      { s with intr := none, hostOut := .intAck :: .lock :: s.hostOut }.external v
    else .ok s

/-- The boundary before an instruction: the events in their order, or none if the inhibit latch holds them off
(R72, R810, note 43). -/
def State.boundary (s : State) : Except Refusal State :=
  if s.inhibit then .ok { s with inhibit := false }
  else do
    let a ← s.trapEvent
    let b ← a.nmiEvent
    let c ← b.overrunEvent
    c.intrEvent

/-- `ShutdownStep`: only an NMI whose delivery succeeds ends shutdown (R906, D45). -/
def State.shutdownStep (s : State) : Out :=
  if s.nmiPending && !s.nmiInService then
    let t := { s with nmiPending := false, nmiInService := true }
    match t.enter { vec := 2, kind := .ext, ret := s.ip, code := none } with
    | .ok u => .next { u with runState := .running }.tick
    | .error (.refuse r) => .refused r
    | .error (.exc _ _ _) => .next t.tick
  else .next s.tick

/-- RESET: the state of R80, with memory, its map and the host's side as they are (R950, note 38). -/
def State.resetEvent (s : State) : State :=
  { State.reset with
    mem := s.mem
    memMap := s.memMap
    hostOut := s.hostOut
    intr := s.intr
    npxPresent := s.npxPresent
    npxBusy := s.npxBusy
    npxError := s.npxError
    npxIn := s.npxIn
    free := s.free + 1 }

/-- Bytes stored one after the other from byte `k` of the instruction at CS:IP, for `withFetchWord`. -/
def State.placeCode (s : State) : Nat → List Byte → State
  | _, [] => s
  | k, b :: bs =>
    { s with mem := Memory.write s.mem (s.cs.lin (s.ip + BitVec.ofNat 16 k)).toNat b }.placeCode (k + 1) bs

/-- Shutdown's step, or the boundary and one instruction (R810, R906). -/
def State.proceed (s : State) : Out :=
  match s.runState with
  | .shutdown => s.shutdownStep
  | .running =>
    match s.boundary with
    | .ok t => t.instruction
    | .error r => .refused r
  | .halted =>
    match s.boundary with
    | .ok t => t.instruction
    | .error r => .refused r

/-- One step: RESET before everything, then what the NPX does, then shutdown, or the boundary and one instruction
(R16, R810, R950, note 48). -/
def State.next (s : State) : Out :=
  if s.resetReq then .next s.resetEvent else s.npxStep.proceed

end Sys2Proof.Machine
end

