-- ==== Sys2Proof/Machine/Step.lean ====
section
/-!
DEFINITION. The step of the machine, and a state with an instruction placed where the step fetches its next one.
-/

namespace Sys2Proof.Machine

/-- ONE STEP of the 80286: the events of an instruction boundary, then one instruction with its prefixes, or one iteration
of a repeated string instruction (R810, R950; notes 19, 21). -/
def step (s : State) : Host.Outcome State Fault Refusal := s.next

/-- The state with the bits of an opcode table row stored where the next instruction is fetched: at CS:IP (notes 1, 6). -/
def State.withFetchWord (s : State) (nbits w : Nat) : State := s.placeCode 0 (tableBytes nbits w)

end Sys2Proof.Machine
end

