-- ==== Sys2Proof/Safety.lean ====
section
/-!
DEFINITION. The words the statements about the machine are written in: what an operand is, where it lies and what it may
suffer, the results and flags of the instructions in exact integers, what it is to complete, and what every step keeps
(spec/20_memory.md R133, R140-R162; spec/41_arithmetic.md R350-R365; spec/42_logic_shift.md R400-R415;
spec/10_state.md R51, R59-R71).
-/

namespace Sys2Proof.Machine

/-- The physical address of a memory operand (R133, R236). -/
def State.addr (s : State) (m : Mem) : PAddr := (s.seg (s.eaSeg m)).lin (s.eaOff m)

/-- A byte operand that can be read (R147). -/
def State.canReadE8 (s : State) : E8 → Bool
  | .reg _ => true
  | .mem m => s.canRead (s.eaSeg m) (s.eaOff m) 1

/-- A word operand that can be read (R147). -/
def State.canReadE16 (s : State) : E16 → Bool
  | .reg _ => true
  | .mem m => s.canRead (s.eaSeg m) (s.eaOff m) 2

/-- A byte operand that can be written (R148). -/
def State.canWriteE8 (s : State) : E8 → Bool
  | .reg _ => true
  | .mem m => s.canWrite (s.eaSeg m) (s.eaOff m) 1

/-- A word operand that can be written (R148). -/
def State.canWriteE16 (s : State) : E16 → Bool
  | .reg _ => true
  | .mem m => s.canWrite (s.eaSeg m) (s.eaOff m) 2

/-- The value of a byte operand (R301). -/
def State.val8 (s : State) : E8 → Byte
  | .reg r => s.get8 r
  | .mem m => s.readPhys (s.addr m)

/-- The value of a word operand (R301). -/
def State.val16 (s : State) : E16 → Word
  | .reg r => s.get16 r
  | .mem m => s.readPhys16 (s.addr m)

/-- The state with a byte operand replaced (R301). -/
def State.put8 (s : State) (e : E8) (v : Byte) : State :=
  match e with
  | .reg r => s.set8 r v
  | .mem m => s.writePhys (s.addr m) v

/-- The state with a word operand replaced (R301). -/
def State.put16 (s : State) (e : E16) (v : Word) : State :=
  match e with
  | .reg r => s.set16 r v
  | .mem m => s.writePhys16 (s.addr m) v

/-- The two bytes of a word at a physical address (R122, R126). -/
def wordCells (a : PAddr) : List PAddr := [a, a + 1]

/-- The bytes of memory a byte operand is: none for a register. -/
def State.cells8 (s : State) : E8 → List PAddr
  | .reg _ => []
  | .mem m => [s.addr m]

/-- The bytes of memory a word operand is: none for a register. -/
def State.cells16 (s : State) : E16 → List PAddr
  | .reg _ => []
  | .mem m => wordCells (s.addr m)

/-- The physical address of the stack word `k` bytes above SP (R133, R161). -/
def State.stackAddr (s : State) (k : Word) : PAddr := s.ss.lin (s.regs.sp + k)

/-- The bytes that pushes of `n` words write (R160). -/
def State.pushCells (s : State) : Nat → List PAddr
  | 0 => []
  | n + 1 => s.pushCells n ++ wordCells (s.ss.lin (s.regs.sp - BitVec.ofNat 16 (2 * (n + 1))))

/-- The bytes of the `n` words below `sp` in the stack segment `x` (R160). -/
def SegReg.pushCells (x : SegReg) (sp : Word) (n : Nat) : List PAddr :=
  (List.range n).flatMap fun k => wordCells (x.lin (sp - BitVec.ofNat 16 (2 * (k + 1))))

/-- The words of a list written below `sp` in the stack segment `x`, the first one highest (R160). -/
def State.pushList (s : State) (x : SegReg) (sp : Word) : List Word → State
  | [] => s
  | v :: vs => (s.writePhys16 (x.lin (sp - 2)) v).pushList x (sp - 2) vs

/-- Bus LOCK is asserted for what follows, as the host sees (R125, D7). -/
def State.underLock (s : State) : State := { s with hostOut := .lock :: s.hostOut }

/-- The instructions that a LOCK prefix locks the bus for (R608). -/
def lockedByPrefix : List Instr := [.movsb, .movsw, .insb, .insw, .outsb, .outsw]

/-- MOV with a memory operand, which only one of the source's two lists has (R608, C45). -/
def movOfMemory (i : Instr) : Prop :=
  (∃ m r, i = .movEbRb (.mem m) r ∨ i = .movRbEb r (.mem m)) ∨ (∃ m r, i = .movEwRw (.mem m) r ∨ i = .movRwEw r (.mem m)) ∨
  (∃ m v, i = .movEbDb (.mem m) v) ∨ (∃ m v, i = .movEwDw (.mem m) v) ∨
  (∃ a, i ∈ [.movAlXb a, .movAxXw a, .movXbAl a, .movXwAx a]) ∨
  ∃ m, i ∈ [.movEwEs (.mem m), .movEwCs (.mem m), .movEwSs (.mem m), .movEwDs (.mem m), .movEsEw (.mem m),
    .movSsEw (.mem m), .movDsEw (.mem m)]

/-- INSTRUCTION `i` COMPLETES IN `t`, and of memory no byte outside `stored` reads otherwise than before. -/
def Does (i : Instr) (s t : State) (stored : List PAddr) : Prop :=
  exec i s = .next t ∧ ∀ a, a ∉ stored → t.readPhys a = s.readPhys a

/-- Whether the number of one bits of the low byte of a number is even (R47). -/
def parityOf (n : Nat) : Bool := ((List.range 8).filter fun k => n / 2 ^ k % 2 = 1).length % 2 = 0

/-- SF, ZF and PF of a result (R350): its sign, whether it is zero, the parity of its low byte. -/
def Flags.result {w : Nat} (f : Flags) (r : BitVec w) : Flags :=
  { f with sf := decide (r.toInt < 0), zf := decide (r.toNat = 0), pf := parityOf r.toNat }

/-- The flags of an addition or subtraction whose exact unsigned, signed and low-digit values are `u`, `v` and `d`: carry,
overflow and auxiliary carry say that these do not fit (R51, R351). -/
def Flags.exact {w : Nat} (f : Flags) (r : BitVec w) (u v d : Int) : Flags :=
  { f.result r with
    cf := decide (u < 0 ∨ 2 ^ w ≤ u)
    of := decide (2 * v < -2 ^ w ∨ 2 ^ w ≤ 2 * v)
    af := decide (d < 0 ∨ 16 ≤ d) }

/-- The sum of two operands and a carry, and its flags (R351). -/
def Flags.sum {w : Nat} (f : Flags) (a b : BitVec w) (c : Bool) : BitVec w × Flags :=
  let r := BitVec.ofNat w (a.toNat + b.toNat + c.toNat)
  (r, f.exact r (a.toNat + b.toNat + c.toNat) (a.toInt + b.toInt + c.toNat) (a.toNat % 16 + b.toNat % 16 + c.toNat))

/-- The difference of two operands and a borrow, and its flags (R351). -/
def Flags.difference {w : Nat} (f : Flags) (a b : BitVec w) (c : Bool) : BitVec w × Flags :=
  let r := BitVec.ofInt w (a.toNat - b.toNat - c.toNat)
  (r, f.exact r (a.toNat - b.toNat - c.toNat) (a.toInt - b.toInt - c.toNat)
    ((a.toNat % 16 : Nat) - (b.toNat % 16 : Nat) - c.toNat))

/-- A logical result and its flags: CF and OF cleared, AF free (R400). -/
def Flags.bitwise {w : Nat} (f : Flags) (n : Nat) (r : BitVec w) : BitVec w × Flags :=
  (r, { f.result r with cf := false, of := false, af := Config.freeBit n .af })

/-- Result and flags of the seven operations that share the nine operand forms (R353-R357, R401-R403); `n` is the counter
of the free values. -/
def AluOp.effect {w : Nat} (op : AluOp) (f : Flags) (n : Nat) (a b : BitVec w) : BitVec w × Flags :=
  match op with
  | .add => f.sum a b false
  | .adc => f.sum a b f.cf
  | .sub => f.difference a b false
  | .sbb => f.difference a b f.cf
  | .and => f.bitwise n (a &&& b)
  | .or => f.bitwise n (a ||| b)
  | .xor => f.bitwise n (a ^^^ b)

/-- `op eb,rb` (R352). -/
def AluOp.ebRb : AluOp → E8 → Reg8 → Instr
  | .add => .addEbRb
  | .or => .orEbRb
  | .adc => .adcEbRb
  | .sbb => .sbbEbRb
  | .and => .andEbRb
  | .sub => .subEbRb
  | .xor => .xorEbRb

/-- `op ew,rw` (R352). -/
def AluOp.ewRw : AluOp → E16 → Reg16 → Instr
  | .add => .addEwRw
  | .or => .orEwRw
  | .adc => .adcEwRw
  | .sbb => .sbbEwRw
  | .and => .andEwRw
  | .sub => .subEwRw
  | .xor => .xorEwRw

/-- `op rb,eb` (R352). -/
def AluOp.rbEb : AluOp → Reg8 → E8 → Instr
  | .add => .addRbEb
  | .or => .orRbEb
  | .adc => .adcRbEb
  | .sbb => .sbbRbEb
  | .and => .andRbEb
  | .sub => .subRbEb
  | .xor => .xorRbEb

/-- `op rw,ew` (R352). -/
def AluOp.rwEw : AluOp → Reg16 → E16 → Instr
  | .add => .addRwEw
  | .or => .orRwEw
  | .adc => .adcRwEw
  | .sbb => .sbbRwEw
  | .and => .andRwEw
  | .sub => .subRwEw
  | .xor => .xorRwEw

/-- `op AL,db` (R352). -/
def AluOp.alDb : AluOp → Byte → Instr
  | .add => .addAlDb
  | .or => .orAlDb
  | .adc => .adcAlDb
  | .sbb => .sbbAlDb
  | .and => .andAlDb
  | .sub => .subAlDb
  | .xor => .xorAlDb

/-- `op AX,dw` (R352). -/
def AluOp.axDw : AluOp → Word → Instr
  | .add => .addAxDw
  | .or => .orAxDw
  | .adc => .adcAxDw
  | .sbb => .sbbAxDw
  | .and => .andAxDw
  | .sub => .subAxDw
  | .xor => .xorAxDw

/-- `op eb,db` (R352). -/
def AluOp.ebDb : AluOp → E8 → Byte → Instr
  | .add => .addEbDb
  | .or => .orEbDb
  | .adc => .adcEbDb
  | .sbb => .sbbEbDb
  | .and => .andEbDb
  | .sub => .subEbDb
  | .xor => .xorEbDb

/-- `op ew,dw` (R352). -/
def AluOp.ewDw : AluOp → E16 → Word → Instr
  | .add => .addEwDw
  | .or => .orEwDw
  | .adc => .adcEwDw
  | .sbb => .sbbEwDw
  | .and => .andEwDw
  | .sub => .subEwDw
  | .xor => .xorEwDw

/-- `op ew,db`, listed for ADD, ADC, SBB and SUB only (R352, R264). -/
def AluOp.ewDb : AluOp → Option (E16 → Byte → Instr)
  | .add => some .addEwDb
  | .or => none
  | .adc => some .adcEwDb
  | .sbb => some .sbbEwDb
  | .and => none
  | .sub => some .subEwDb
  | .xor => none

/-- The result of a shift or rotate by `k` and the carry after it, in closed form: a product or a rounded-down quotient,
and a rotation of the operand, or of the operand with the carry above it (R413, R420-R433). For `k = 0` the carry is not
used (R412). -/
def ShiftOp.closed {w : Nat} (op : ShiftOp) (x : BitVec w) (c : Bool) (k : Nat) : BitVec w × Bool :=
  match op with
  | .shl => (BitVec.ofNat w (x.toNat * 2 ^ k), x.toNat * 2 ^ k / 2 ^ w % 2 = 1)
  | .shr => (BitVec.ofNat w (x.toNat / 2 ^ k), x.toNat / 2 ^ (k - 1) % 2 = 1)
  | .sar => (BitVec.ofInt w (x.toInt / 2 ^ k), x.toInt / 2 ^ (k - 1) % 2 = 1)
  | .rol => let r := x.rotateLeft k; (r, r.getLsbD 0)
  | .ror => let r := x.rotateRight k; (r, r.msb)
  | .rcl => let y := (BitVec.cons c x).rotateLeft k; (y.setWidth w, y.msb)
  | .rcr => let y := (BitVec.cons c x).rotateRight k; (y.setWidth w, y.msb)

/-- The flags after a shift or rotate by the masked count `k`: CF the last bit out; OF, for a count of 1, whether the sign
bit has changed, free otherwise; SF, ZF, PF by the result and AF free for the shifts; by 0, SF, ZF, PF and AF free for the
shifts and nothing else (R412, R414, R415, D22). -/
def ShiftOp.flagsAfter {w : Nat} (op : ShiftOp) (f : Flags) (n k : Nat) (x : BitVec w) : Flags :=
  let y := op.closed x f.cf k
  let g (h : Flags) : Flags := if op.isShift then { h with af := Config.freeBit n .af } else f
  if k = 0 then
    g { f with sf := Config.freeBit n .sf, zf := Config.freeBit n .zf, pf := Config.freeBit n .pf }
  else
    { g (f.result y.1) with
      cf := y.2
      of := if k = 1 then y.1.msb != x.msb else Config.freeBit n .of }

/-- The six forms of each shift and rotate, byte operand, count `1` (R410). -/
def ShiftOp.ebOne : ShiftOp → E8 → Instr
  | .rol => .rolEbOne
  | .ror => .rorEbOne
  | .rcl => .rclEbOne
  | .rcr => .rcrEbOne
  | .shl => .salEbOne
  | .shr => .shrEbOne
  | .sar => .sarEbOne

/-- Word operand, count `1` (R410). -/
def ShiftOp.ewOne : ShiftOp → E16 → Instr
  | .rol => .rolEwOne
  | .ror => .rorEwOne
  | .rcl => .rclEwOne
  | .rcr => .rcrEwOne
  | .shl => .salEwOne
  | .shr => .shrEwOne
  | .sar => .sarEwOne

/-- Byte operand, count CL (R410). -/
def ShiftOp.ebCl : ShiftOp → E8 → Instr
  | .rol => .rolEbCl
  | .ror => .rorEbCl
  | .rcl => .rclEbCl
  | .rcr => .rcrEbCl
  | .shl => .salEbCl
  | .shr => .shrEbCl
  | .sar => .sarEbCl

/-- Word operand, count CL (R410). -/
def ShiftOp.ewCl : ShiftOp → E16 → Instr
  | .rol => .rolEwCl
  | .ror => .rorEwCl
  | .rcl => .rclEwCl
  | .rcr => .rcrEwCl
  | .shl => .salEwCl
  | .shr => .shrEwCl
  | .sar => .sarEwCl

/-- Byte operand, immediate count (R410). -/
def ShiftOp.ebDb : ShiftOp → E8 → Byte → Instr
  | .rol => .rolEbDb
  | .ror => .rorEbDb
  | .rcl => .rclEbDb
  | .rcr => .rcrEbDb
  | .shl => .salEbDb
  | .shr => .shrEbDb
  | .sar => .sarEbDb

/-- Word operand, immediate count (R410). -/
def ShiftOp.ewDb : ShiftOp → E16 → Byte → Instr
  | .rol => .rolEwDb
  | .ror => .rorEwDb
  | .rcl => .rclEwDb
  | .rcr => .rcrEwDb
  | .shl => .salEwDb
  | .shr => .shrEwDb
  | .sar => .sarEwDb

/-- The exception `vec` taken from state `u`: what the instruction comes to, the saved IP being that of its first byte
(R820, R845). -/
def State.exception (u : State) (vec : Byte) (code : Option Word) : Out :=
  match u.takeException vec code with
  | .ok t => .next t
  | .error q => .refused q

/-- The undefined encodings without a field of their own that raise #UD (R262, R263). -/
def undefinedRows : List Instr :=
  [
    .undef64, .undef65, .undef66, .undef67, .undef8En1, .undefC6n1, .undefC6n2, .undefC6n3, .undefC6n4,
    .undefC6n5, .undefC6n6, .undefC6n7, .undefC7n1, .undefC7n2, .undefC7n3, .undefC7n4, .undefC7n5, .undefC7n6,
    .undefC7n7, .undefF6n1, .undefF7n1, .undefFEn2, .undefFEn3, .undefFEn4, .undefFEn5, .undefFEn6, .undefFEn7,
    .undef0F00n6, .undef0F00n7, .undef0F01n5, .undef0F01n7]

/-- The undefined reg fields of POP MEM and PUSH MEM, which raise exception 13 (R252). -/
def undefinedStackRows : List Instr :=
  [
    .undef8Fn1, .undef8Fn2, .undef8Fn3, .undef8Fn4, .undef8Fn5, .undef8Fn6, .undef8Fn7, .undefFFn7]

/-- The encodings without a field of their own on which a model must refuse to step (R264). -/
def unlistedRows : List Instr :=
  [
    .unlisted83n1, .unlisted83n4, .unlisted83n6, .unlisted82, .unlisted8Chi, .unlisted8Ehi, .unlistedC0n6,
    .unlistedC1n6, .unlistedD0n6, .unlistedD1n6, .unlistedD2n6, .unlistedD3n6, .unlistedD6, .unlistedF1,
    .unlisted0F04, .unlisted0F05]

/-- A segment register after a real-mode load: base 16 times the selector, limit FFFFH (R60, R131). -/
def SegReg.real (x : SegReg) (sel : Word) : SegReg :=
  { x with sel, base := BitVec.ofNat 24 (16 * sel.toNat), limit := 0xFFFF, valid := true }

/-- Interrupt `vec` can be entered in real mode: its vector lies inside IDTR's limit and there is room for three words
(R830). -/
def State.canEnterReal (s : State) (vec : Byte) : Bool :=
  !s.prot && s.canPush 3 && decide (4 * vec.toNat + 3 ≤ s.idtr.limit.toNat)

/-- The state after the real-mode entry of interrupt `vec`, return offset `ret`: FLAGS, CS and the offset pushed, IF and TF
cleared, CS:IP from the vector (R830). -/
def State.realEntry (s : State) (vec : Byte) (ret : Word) : State :=
  let p := ((s.writePhys16 (s.stackAddr (-2)) s.flags.toWord).writePhys16 (s.stackAddr (-4)) s.cs.sel).writePhys16
    (s.stackAddr (-6)) ret
  let a : PAddr := s.idtr.base + BitVec.ofNat 24 (4 * vec.toNat)
  { p with
    regs := { s.regs with sp := s.regs.sp - 6 }
    cs := s.cs.real ((p.attempt 1).readPhys16 (a + 2))
    ip := (p.attempt 1).readPhys16 a
    flags := { s.flags with ie := false, tf := false }
    dec := {} }

/-- The target of a displacement: added modulo 65536 to the offset of the following instruction (R44, R451). -/
def State.target (s : State) (d : Int) : Word := BitVec.ofInt 16 (s.nextIp.toNat + d)

/-- The sixteen conditional jumps and their conditions (R452). -/
def conditionalJumps : List ((Byte → Instr) × (Flags → Bool)) :=
  [(.jo, fun f => f.of = true), (.jno, fun f => f.of = false),
   (.jb, fun f => f.cf = true), (.jnb, fun f => f.cf = false),
   (.je, fun f => f.zf = true), (.jne, fun f => f.zf = false),
   (.jbe, fun f => f.cf = true ∨ f.zf = true), (.jnbe, fun f => f.cf = false ∧ f.zf = false),
   (.js, fun f => f.sf = true), (.jns, fun f => f.sf = false),
   (.jp, fun f => f.pf = true), (.jnp, fun f => f.pf = false),
   (.jl, fun f => f.sf ≠ f.of), (.jnl, fun f => f.sf = f.of),
   (.jle, fun f => f.zf = true ∨ f.sf ≠ f.of), (.jnle, fun f => f.zf = false ∧ f.sf = f.of)]

/-- Every byte of `cells` is RAM (R127). -/
def State.ram (s : State) (cells : List PAddr) : Prop := ∀ a ∈ cells, kindAt s.memMap a = .ram

/-- A far pointer operand can be read (R147). -/
def State.canReadMem (s : State) (m : Mem) (n : Nat) : Bool := s.canRead (s.eaSeg m) (s.eaOff m) n

/-- The privilege a descriptor asks for is had: CPL and RPL are at most its DPL (R157). -/
def State.mayUse (s : State) (sel : Word) (d : Desc) : Bool :=
  decide (s.cpl.toNat ≤ (arDpl d.ar).toNat) && decide ((rplOf sel).toNat ≤ (arDpl d.ar).toNat)

/-- Selector `sel` names descriptor `d` and may be loaded into DS or ES in protected mode (R153). -/
def State.loadsData (s : State) (sel : Word) (d : Desc) : Bool :=
  s.prot && !isNull sel && decide (s.desc? sel = some d) && d.isDataOrReadable
    && (d.isConforming || s.mayUse sel d) && arPresent d.ar

/-- Selector `sel` names descriptor `d` and may be loaded into SS in protected mode (R153). -/
def State.loadsStack (s : State) (sel : Word) (d : Desc) : Bool :=
  s.prot && !isNull sel && decide (s.desc? sel = some d) && d.isWritableData
    && rplOf sel == s.cpl && arDpl d.ar == s.cpl && arPresent d.ar

/-- A segment register loaded from descriptor `d`, the Accessed bit set in its access byte (R59, R155). -/
def Desc.loaded (d : Desc) (sel : Word) : SegReg :=
  { sel, base := d.base, limit := d.limit, ar := d.ar ||| 1, valid := true }

/-- The state with the Accessed bit set in the descriptor in memory, under bus LOCK (R125, R155). -/
def State.access (s : State) (d : Desc) : State := s.underLock.writePhys (d.addr + 5) (d.ar ||| 1)

/-- Instruction `i` loads SS with the selector `v`, which it can read (R306, R319). -/
def State.loadsSsFrom (s : State) (i : Instr) (v : Word) : Prop :=
  (∃ e, s.canReadE16 e = true ∧ v = s.val16 e ∧ i = .movSsEw e) ∨
    (s.canRead .ss s.regs.sp 2 = true ∧ v = s.readPhys16 (s.stackAddr 0) ∧ i = .popSs)

/-- Instruction `i` loads DS or ES with the selector `v`, which it can read (R306, R319, R328, R329). -/
def State.loadsDataFrom (s : State) (i : Instr) (v : Word) : Prop :=
  (∃ e, s.canReadE16 e = true ∧ v = s.val16 e ∧ i ∈ [.movDsEw e, .movEsEw e]) ∨
    (s.canRead .ss s.regs.sp 2 = true ∧ v = s.readPhys16 (s.stackAddr 0) ∧ i ∈ [.popDs, .popEs]) ∨
      ∃ r m, s.canReadMem m 4 = true ∧ v = s.readPhys16 (s.addr m + 2) ∧
        i ∈ [.ldsRwEd r (.mem m), .lesRwEd r (.mem m)]

/-- Instruction `i` is a far JMP or CALL to the selector `sel`, given with the offset `off` or in memory, where it can be
read (R463, R464, R467, R468). -/
def State.farForm (s : State) (kind : FarKind) (off sel : Word) (i : Instr) : Prop :=
  match kind with
    | .jmp => i = .jmpCd off sel ∨
        ∃ m, i = .jmpEd (.mem m) ∧ s.canReadMem m 4 = true ∧ s.readPhys16 (s.addr m + 2) = sel
    | .call => i = .callCd off sel ∨
        ∃ m, i = .callEd (.mem m) ∧ s.canReadMem m 4 = true ∧ s.readPhys16 (s.addr m + 2) = sel

/-- DS or ES after a return to the outer level `l`: as before where it is null already, or where its selector lies in its
table and names a data or readable code segment that conforms or that `l` and its RPL may use; null otherwise (R492). -/
def State.outward (s : State) (l : BitVec 2) (x : SegReg) : SegReg :=
  if x.valid = false ∨
      ((s.desc? x.sel).isSome = true ∧ arSegment x.ar = true ∧ (arExec x.ar = false ∨ arReadWrite x.ar = true) ∧
        (arExec x.ar = true ∧ arConfDown x.ar = true ∨
          l.toNat ≤ (arDpl x.ar).toNat ∧ (rplOf x.sel).toNat ≤ (arDpl x.ar).toNat)) then x
  else { x with sel := 0, ar := 0, valid := false }

/-- The access byte of the descriptor that a selector names (R135, R137). -/
def State.accessCell (s : State) (sel : Word) : PAddr :=
  (if sel.getLsbD 2 then s.ldtr.base else s.gdtr.base) + BitVec.ofNat 24 (sel.toNat / 8 * 8) + 5

/-- The string instructions, each with whether its references and its privilege allow one element to be processed
(R171, R550-R566). -/
def State.stringElements (s : State) : List (Instr × Bool) :=
  let src (n : Nat) : Bool := s.canRead (s.override .ds) s.regs.si n
  let dstRead (n : Nat) : Bool := s.canRead .es s.regs.di n
  let dst (n : Nat) : Bool := s.canWrite .es s.regs.di n
  [(.movsb, src 1 && dst 1), (.movsw, src 2 && dst 2), (.cmpsb, src 1 && dstRead 1), (.cmpsw, src 2 && dstRead 2),
   (.scasb, dstRead 1), (.scasw, dstRead 2), (.lodsb, src 1), (.lodsw, src 2), (.stosb, dst 1), (.stosw, dst 2),
   (.insb, s.ioAllowed && dst 1), (.insw, s.ioAllowed && dst 2), (.outsb, s.ioAllowed && src 1),
   (.outsw, s.ioAllowed && src 2)]

/-- WHAT EVERY STEP KEEPS: memory is in canonical form, nothing is remembered of a finished instruction, and in real mode
every segment register is valid with the limit FFFFH (R60, R141, R151). -/
def State.Inv (s : State) : Prop :=
  Memory.wf s.mem ∧ s.dec = {} ∧
    (s.prot = false → ∀ x : SReg, (s.seg x).valid = true ∧ (s.seg x).limit = 0xFFFF)

/-- The processor extension's interrupt 9 is requested and not masked (R756, R810). -/
def State.overrunDue (s : State) : Bool := s.overrunReq && s.npxPresent && !s.nmiInService

/-- A request that a boundary looks for: whether it is due, its vector, and the state without it (R810). -/
structure Request where
  due : Bool
  vec : Byte
  left : State

/-- The requests a boundary looks for, in their order: single step, NMI, the processor extension's overrun, INTR
(R810-R812). -/
def State.requests (s : State) : List Request :=
  [{ due := s.trapPending, vec := 1, left := { s with trapPending := false } },
   { due := s.nmiPending && !s.nmiInService, vec := 2, left := { s with nmiPending := false, nmiInService := true } },
   { due := s.overrunDue, vec := 9, left := { s with overrunReq := false } }] ++
  match s.intr with
  | none => []
  | some v => [{ due := s.flags.ie, vec := v, left := { s with intr := none, hostOut := .intAck :: .lock :: s.hostOut } }]

/-- A reference to memory: `size` bytes at an offset in a segment, read or stored (R140). -/
structure Ref where
  seg : SReg
  off : Word
  size : Nat
  store : Bool
  deriving DecidableEq, Repr

/-- A reference passes its checks (R147, R148, R151). -/
def State.permits (s : State) (r : Ref) : Bool :=
  if r.store then s.canWrite r.seg r.off r.size else s.canRead r.seg r.off r.size

/-- What a failed reference through `x` comes to, taken from state `u`: #SS(0) through SS and #GP(0) otherwise, in real mode
interrupt 13 without a code (R146, R151). -/
def State.badReference (u : State) (x : SReg) : Out :=
  if u.prot then u.exception (if x = .ss then 12 else 13) (some 0) else u.exception 13 none

/-- The reference to a byte operand in memory. -/
def State.mem8 (s : State) (store : Bool) : E8 → List Ref
  | .reg _ => []
  | .mem m => [{ seg := s.eaSeg m, off := s.eaOff m, size := 1, store }]

/-- The reference to a word operand in memory. -/
def State.mem16 (s : State) (store : Bool) : E16 → List Ref
  | .reg _ => []
  | .mem m => [{ seg := s.eaSeg m, off := s.eaOff m, size := 2, store }]

/-- The reference to an operand of several words, checked as one (R147). -/
def State.memMany (s : State) (size : Nat) (store : Bool) : E16 → List Ref
  | .reg _ => []
  | .mem m => [{ seg := s.eaSeg m, off := s.eaOff m, size, store }]

/-- The word read at an offset in the stack segment (R161). -/
def State.ssRef (_ : State) (off : Word) : Ref := { seg := .ss, off, size := 2, store := false }

/-- The references of `n` pushes (R160). -/
def State.pushRefs (s : State) (n : Nat) : List Ref :=
  (List.range n).map fun k => { seg := .ss, off := s.regs.sp - BitVec.ofNat 16 (2 * (k + 1)), size := 2, store := true }

/-- The references of ENTER at level `l`: its pushes, the display words it copies, and the one offset of the new SP, with
`size` bytes of storage below the pushes (R651, D30). -/
def State.enterRefs (s : State) (size : Word) (l : Nat) : List Ref :=
  let n := if l = 0 then 1 else l + 1
  s.pushRefs n ++ ((List.range (l - 1)).map fun k => s.ssRef (s.regs.bp - BitVec.ofNat 16 (2 * (k + 1)))) ++
    [{ seg := .ss, off := s.regs.sp - BitVec.ofNat 16 (2 * n) - size, size := 1, store := false }]

/-- The source element of a string instruction (R550). -/
def State.src (s : State) (size : Nat) : Ref := { seg := s.override .ds, off := s.regs.si, size, store := false }

/-- The destination element of a string instruction, in ES (R550). -/
def State.dst (s : State) (size : Nat) (store : Bool) : Ref := { seg := .es, off := s.regs.di, size, store }

/-- The references of a string instruction that processes an element: without a repeat prefix, or behind one listed for it
with CX not zero (R551, R553). -/
def State.element? (s : State) (comparing : Bool) (l : List Ref) : List Ref :=
  match s.dec.rep with
  | none => l
  | some .rep => if s.regs.cx = 0 then [] else l
  | some .repne => if comparing = false ∨ s.regs.cx = 0 then [] else l

/-- THE REFERENCES AN INSTRUCTION MAKES, in the order in which they are checked, but for the write of ADC, SBB, RCL, RCR and
XCHG, whose refusal has a rule of its own (R149), for PUSHA and POPA (R317, R321), for the far returns and IRET, which test
more than references, and for WAIT and ESC. Where a test of the mode or of the privilege that comes first fails, there are
none. -/
def State.references (s : State) (i : Instr) : List Ref :=
  match i with
  | .addRbEb _ e | .orRbEb _ e | .andRbEb _ e | .subRbEb _ e | .xorRbEb _ e | .adcRbEb _ e | .sbbRbEb _ e |
    .cmpRbEb _ e | .movRbEb _ e | .cmpEbRb e _ | .testEbRb e _ | .adcEbRb e _ | .sbbEbRb e _ | .xchgEbRb e _ |
    .cmpEbDb e _ | .testEbDb e _ | .adcEbDb e _ | .sbbEbDb e _ | .rclEbDb e _ | .rcrEbDb e _ | .rclEbOne e |
    .rcrEbOne e | .rclEbCl e | .rcrEbCl e | .mulEb e | .imulEb e | .divEb e | .idivEb e => s.mem8 false e
  | .addEbRb e _ | .orEbRb e _ | .andEbRb e _ | .subEbRb e _ | .xorEbRb e _ | .addEbDb e _ | .orEbDb e _ |
    .andEbDb e _ | .subEbDb e _ | .xorEbDb e _ | .rolEbDb e _ | .rorEbDb e _ | .salEbDb e _ | .shrEbDb e _ |
    .sarEbDb e _ | .rolEbOne e | .rorEbOne e | .salEbOne e | .shrEbOne e | .sarEbOne e | .rolEbCl e | .rorEbCl e |
    .salEbCl e | .shrEbCl e | .sarEbCl e | .notEb e | .negEb e | .incEb e | .decEb e =>
    s.mem8 false e ++ s.mem8 true e
  | .movEbRb e _ | .movEbDb e _ => s.mem8 true e
  | .movAlXb a => s.mem8 false (.mem (.direct a))
  | .movXbAl a => s.mem8 true (.mem (.direct a))
  | .addRwEw _ e | .orRwEw _ e | .andRwEw _ e | .subRwEw _ e | .xorRwEw _ e | .adcRwEw _ e | .sbbRwEw _ e |
    .cmpRwEw _ e | .movRwEw _ e | .cmpEwRw e _ | .testEwRw e _ | .adcEwRw e _ | .sbbEwRw e _ | .xchgEwRw e _ |
    .cmpEwDw e _ | .testEwDw e _ | .adcEwDw e _ | .sbbEwDw e _ | .cmpEwDb e _ | .adcEwDb e _ | .sbbEwDb e _ |
    .rclEwDb e _ | .rcrEwDb e _ | .imulRwEwDw _ e _ | .imulRwEwDb _ e _ | .rclEwOne e | .rcrEwOne e | .rclEwCl e |
    .rcrEwCl e | .mulEw e | .imulEw e | .divEw e | .idivEw e | .movEsEw e | .movSsEw e | .movDsEw e | .jmpEw e =>
    s.mem16 false e
  | .addEwRw e _ | .orEwRw e _ | .andEwRw e _ | .subEwRw e _ | .xorEwRw e _ | .addEwDw e _ | .orEwDw e _ |
    .andEwDw e _ | .subEwDw e _ | .xorEwDw e _ | .addEwDb e _ | .subEwDb e _ | .rolEwDb e _ | .rorEwDb e _ |
    .salEwDb e _ | .shrEwDb e _ | .sarEwDb e _ | .rolEwOne e | .rorEwOne e | .salEwOne e | .shrEwOne e |
    .sarEwOne e | .rolEwCl e | .rorEwCl e | .salEwCl e | .shrEwCl e | .sarEwCl e | .notEw e | .negEw e |
    .incEw e | .decEw e => s.mem16 false e ++ s.mem16 true e
  | .movEwRw e _ | .movEwDw e _ | .movEwEs e | .movEwCs e | .movEwSs e | .movEwDs e | .smswEw e =>
    s.mem16 true e
  | .movAxXw a => s.mem16 false (.mem (.direct a))
  | .movXwAx a => s.mem16 true (.mem (.direct a))
  | .ldsRwEd _ e | .lesRwEd _ e | .boundRwMd _ e | .jmpEd e | .callEd e => s.memMany 4 false e
  | .sgdtM e | .sidtM e => s.memMany 6 true e
  | .pushRw _ | .pushEs | .pushCs | .pushSs | .pushDs | .pushDw _ | .pushDb _ | .pushf | .callCw _ =>
    s.pushRefs 1
  | .pushMw e | .callEw e => s.mem16 false e ++ s.pushRefs 1
  | .popRw _ | .popEs | .popSs | .popDs | .popf | .retNear | .retNearDw _ => [s.ssRef s.regs.sp]
  | .popMw e => s.ssRef s.regs.sp :: s.mem16 true e
  | .leave => [s.ssRef s.regs.bp]
  | .enterDwDb size l => s.enterRefs size (l.toNat % 32)
  | .lldtEw e | .ltrEw e => if s.prot ∧ s.cpl = 0 then s.mem16 false e else []
  | .verrEw e | .verwEw e | .larRwEw _ e | .lslRwEw _ e => if s.prot then s.mem16 false e else []
  | .arplEwRw e r =>
    if s.prot then s.mem16 false e ++ if rplOf (s.val16 e) < rplOf (s.get16 r) then s.mem16 true e else [] else []
  | .sldtEw e | .strEw e => if s.prot then s.mem16 true e else []
  | .lmswEw e => if s.cpl = 0 then s.mem16 false e else []
  | .lgdtM e | .lidtM e => if s.cpl = 0 then s.memMany 6 false e else []
  | .xlat =>
    [{ seg := s.override .ds, off := s.regs.bx + BitVec.ofNat 16 (s.get8 .al).toNat, size := 1, store := false }]
  | .movsb => s.element? false [s.src 1, s.dst 1 true]
  | .cmpsb => s.element? true [s.src 1, s.dst 1 false]
  | .scasb => s.element? true [s.dst 1 false]
  | .lodsb => s.element? false [s.src 1]
  | .stosb => s.element? false [s.dst 1 true]
  | .insb => if s.ioAllowed then s.element? false [s.dst 1 true] else []
  | .outsb => if s.ioAllowed then s.element? false [s.src 1] else []
  | .movsw => s.element? false [s.src 2, s.dst 2 true]
  | .cmpsw => s.element? true [s.src 2, s.dst 2 false]
  | .scasw => s.element? true [s.dst 2 false]
  | .lodsw => s.element? false [s.src 2]
  | .stosw => s.element? false [s.dst 2 true]
  | .insw => if s.ioAllowed then s.element? false [s.dst 2 true] else []
  | .outsw => if s.ioAllowed then s.element? false [s.src 2] else []
  | _ => []

/-- A test, and what failing it comes to. -/
structure Test where
  ok : Bool
  stop : Stop
  deriving DecidableEq, Repr

/-- What the first test that fails comes to, if one does. -/
def firstFailing (l : List Test) : Option Stop := (l.find? fun t => !t.ok).map (·.stop)

/-- What an instruction comes to that stops: its exception, taken from the state it leaves, or its refusal (R820). -/
def State.stopped (s : State) : Stop → Out
  | .exc vec code left => (left.getD s).exception vec code
  | .refuse q => .refused q

/-- The error code that names a selector, with the EXT bit `x` (R805). -/
def errorCode (sel x : Word) : Word := (sel &&& 0xFFFC) + x

/-- The EXT bit of the codes raised while an event is delivered (R806, D40). -/
def Event.ext (e : Event) : Word := if e.kind = .ext ∨ e.kind = .exc ∧ (e.vec = 7 ∨ e.vec = 16) then 1 else 0

/-- The descriptor at a selector's index in its table, wherever the table ends (R135). -/
def State.entry (s : State) (sel : Word) : Desc :=
  s.descAt ((if sel.getLsbD 2 then s.ldtr.base else s.gdtr.base) + BitVec.ofNat 24 (sel.toNat / 8 * 8))

/-- A selector lies inside its table (R135, D17). -/
def State.inTable (s : State) (sel : Word) : Bool := (s.desc? sel).isSome

/-- The tests on a code segment that `s` finds by a selector, which is `allowed` by its privilege or not
(R472-R474, R488, R501, R840). -/
def State.codeTests (s : State) (sel x : Word) (allowed : Bool) : List Test :=
  let c := s.entry sel
  [⟨decide (4 ≤ sel.toNat), excGp x⟩, ⟨s.inTable sel, excGp (errorCode sel x)⟩,
   ⟨c.isCode && allowed, excGp (errorCode sel x)⟩, ⟨arPresent c.ar, excNp (errorCode sel x)⟩]

/-- The tests on a stack segment for level `l`, other failures than its absence raising `bad` (R477, R489, R502, R840). -/
def State.stackTests (s : State) (bad : Word → Stop) (l : BitVec 2) (sel x : Word) : List Test :=
  let d := (s.reading .stackSeg).entry sel
  let ec := errorCode sel x
  [⟨decide (4 ≤ sel.toNat), bad x⟩, ⟨(s.reading .stackSeg).inTable sel, bad ec⟩,
   ⟨rplOf sel == l && arDpl d.ar == l && d.isWritableData, bad ec⟩, ⟨arPresent d.ar, excSs ec⟩]

/-- The tests on a system descriptor of type `k` that must stand in the GDT (R478, R676, R678, R841). -/
def State.systemTests (s : State) (k : BitVec 4) (sel x : Word) : List Test :=
  let d := s.entry sel
  let ec := errorCode sel x
  [⟨!sel.getLsbD 2 && s.inTable sel, excGp ec⟩, ⟨arIsType d.ar k, excGp ec⟩, ⟨arPresent d.ar, excNp ec⟩]

/-- The tests on the stack of an inner level `l`, which takes `n` words: a TSS that does not hold it is refused
(R477, R840, D24). -/
def State.innerTests (s : State) (l : BitVec 2) (x : Word) (n : Nat) : List Test :=
  let w (k : Nat) : Word := (s.reading .innerStack).readPhys16 (s.tr.base + BitVec.ofNat 24 (4 * l.toNat + k))
  let new := ((s.reading .stackSeg).entry (w 4)).loaded (w 4)
  [⟨s.tr.valid && decide (4 * l.toNat + 5 ≤ s.tr.limit.toNat), .refuse .trNotLoaded⟩] ++ s.stackTests excTs l (w 4) x ++
    [⟨(List.range n).all fun k => new.inLimit (w 2 - BitVec.ofNat 16 (2 * (k + 1))) 2, excSs x⟩]

/-- A code segment may be entered at level `l` without a change of it (R473, R488). -/
def Desc.atLevel (c : Desc) (l : BitVec 2) : Bool :=
  if c.isConforming then decide ((arDpl c.ar).toNat ≤ l.toNat) else arDpl c.ar == l

/-- A code segment is entered at its own level, which is an inner one (R475, R840). -/
def State.isInner (s : State) (c : Desc) : Bool := !c.isConforming && decide ((arDpl c.ar).toNat < s.cpl.toNat)

/-- The last tests of a far JMP or CALL that stays at its level: room for what CALL pushes, and the offset (R473). -/
def State.landingTests (s : State) (kind : FarKind) (off : Word) (c : Desc) : List Test :=
  [⟨kind == .jmp || s.canPush 2, excSs 0⟩, ⟨decide (off.toNat ≤ c.limit.toNat), excGp 0⟩]

/-- The tests of a far JMP or CALL on the segment that the call gate `g` names (R474-R477). -/
def State.callGateTests (s : State) (kind : FarKind) (g : Desc) : List Test :=
  let u := s.reading .target
  let c := u.entry g.gateSel
  u.codeTests g.gateSel 0
      (match kind with
        | .jmp => c.atLevel s.cpl
        | .call => decide ((arDpl c.ar).toNat ≤ s.cpl.toNat)) ++
    if kind = .call ∧ s.isInner c = true then
      s.innerTests (arDpl c.ar) 0 (4 + g.wordCount) ++
        [⟨decide (g.gateOffset.toNat ≤ c.limit.toNat), excGp 0⟩,
         ⟨(List.range g.wordCount).all fun k => s.canRead .ss (s.regs.sp + BitVec.ofNat 16 (2 * k)) 2, excSs 0⟩]
    else s.landingTests kind g.gateOffset c

/-- THE TESTS OF A FAR JMP OR CALL in protected mode, up to a task switch where it makes one; a TSS descriptor in an LDT is
refused (R472-R479, D23). -/
def State.farTests (s : State) (kind : FarKind) (off sel : Word) : List Test :=
  let d := s.entry sel
  let ec := errorCode sel 0
  let use : List Test := [⟨s.mayUse sel d, excGp ec⟩, ⟨arPresent d.ar, excNp ec⟩]
  [⟨decide (4 ≤ sel.toNat), excGp 0⟩, ⟨s.inTable sel, excGp ec⟩] ++
    if d.isCode then
      s.codeTests sel 0 (d.atLevel s.cpl && (d.isConforming || decide ((rplOf sel).toNat ≤ s.cpl.toNat))) ++
        s.landingTests kind off d
    else if arIsType d.ar 4 then use ++ s.callGateTests kind d
    else if arIsType d.ar 5 then use ++ (s.reading .target).systemTests 1 d.gateSel 0
    else if arIsType d.ar 1 ∨ arIsType d.ar 3 then
      [⟨!sel.getLsbD 2, .refuse .tssInLdt⟩, ⟨s.mayUse sel d, excGp ec⟩, ⟨arIsType d.ar 1, excGp ec⟩,
       ⟨arPresent d.ar, excNp ec⟩]
    else [⟨false, excGp ec⟩]

/-- Instruction `i` is a far JMP or CALL to the selector `sel` and the offset `off`, given or in memory, where they can be
read (R463, R464, R467, R468). -/
def State.farTo (s : State) (kind : FarKind) (off sel : Word) (i : Instr) : Prop :=
  s.farForm kind off sel i ∧ ∀ m, i ∈ [.jmpEd (.mem m), .callEd (.mem m)] → s.readPhys16 (s.addr m) = off

/-- The word `k` bytes above SP can be read. -/
def State.wordTest (s : State) (k : Word) : Test := ⟨s.canRead .ss (s.regs.sp + k) 2, excSs 0⟩

/-- The tests on the code segment a return goes to (R488, R501). -/
def State.returnTests (s : State) (sel : Word) : List Test :=
  (s.reading .target).codeTests sel 0 (((s.reading .target).entry sel).atLevel (rplOf sel))

/-- The test on the offset a return goes to (R488, R501). -/
def State.offsetTest (s : State) (sel off : Word) : Test :=
  ⟨decide (off.toNat ≤ ((s.reading .target).entry sel).limit.toNat), excGp 0⟩

/-- THE TESTS OF FAR RET that releases `n` bytes, in protected mode (R488, R489). -/
def State.retFarTests (s : State) (n : Word) : List Test :=
  let sel := s.readPhys16 (s.stackAddr 2)
  let off := s.readPhys16 (s.stackAddr 0)
  let l := rplOf sel
  let ns := (s.reading .outerStack).readPhys16 (s.stackAddr (6 + n))
  [s.wordTest 2, ⟨decide (s.cpl.toNat ≤ l.toNat), excGp (errorCode sel 0)⟩] ++
    if l = s.cpl then s.returnTests sel ++ [s.wordTest 0, s.offsetTest sel off]
    else
      [⟨(List.range (8 + n.toNat)).all fun k => s.canRead .ss (s.regs.sp + BitVec.ofNat 16 k) 1, excSs 0⟩] ++
        [0, 4 + n, 6 + n].map s.wordTest ++ s.returnTests sel ++ s.stackTests excGp l ns 0 ++ [s.offsetTest sel off]

/-- THE TESTS OF IRET with NT clear, in protected mode (R501, R502). -/
def State.iretTests (s : State) : List Test :=
  let sel := s.readPhys16 (s.stackAddr 2)
  let off := s.readPhys16 (s.stackAddr 0)
  let l := rplOf sel
  [s.wordTest 2, ⟨decide (s.cpl.toNat ≤ l.toNat), excGp (errorCode sel 0)⟩] ++
    if l = s.cpl then [0, 4].map s.wordTest ++ s.returnTests sel ++ [s.offsetTest sel off]
    else
      [0, 4, 6, 8].map s.wordTest ++ s.returnTests sel ++
        s.stackTests excGp l (s.readPhys16 (s.stackAddr 8)) 0 ++ [s.offsetTest sel off]

/-- The gate that an event finds in the IDT (R840). -/
def State.gate (s : State) (e : Event) : Desc := s.descAt (s.idtr.base + BitVec.ofNat 24 (8 * e.vec.toNat))

/-- The code segment of an event's handler (R840). -/
def State.handler (s : State) (e : Event) : Desc := (s.reading .target).entry (s.gate e).gateSel

/-- An event goes to a handler at an inner level (R840). -/
def State.goesInside (s : State) (e : Event) : Bool := !arIsType (s.gate e).ar 5 && s.isInner (s.handler e)

/-- THE TESTS OF A DELIVERY through the IDT, up to a task switch where it makes one (R840, R841). -/
def State.entryTests (s : State) (e : Event) : List Test :=
  let g := s.gate e
  let c := s.handler e
  let x := e.ext
  let iec : Word := BitVec.ofNat 16 (8 * e.vec.toNat + 2) + x
  let n := if e.code = none then 3 else 4
  [⟨decide (8 * e.vec.toNat + 7 ≤ s.idtr.limit.toNat), excGp iec⟩,
   ⟨arIsType g.ar 5 || arIsType g.ar 6 || arIsType g.ar 7, excGp iec⟩,
   ⟨e.kind != .sw || decide (s.cpl.toNat ≤ (arDpl g.ar).toNat), excGp iec⟩, ⟨arPresent g.ar, excNp iec⟩] ++
    if arIsType g.ar 5 then (s.reading .target).systemTests 1 g.gateSel x
    else
      (s.reading .target).codeTests g.gateSel x true ++
        [⟨decide ((arDpl c.ar).toNat ≤ s.cpl.toNat), excGp (errorCode g.gateSel x)⟩] ++
        (if s.goesInside e then s.innerTests (arDpl c.ar) x (n + 2) else [⟨s.canPush n, excSs x⟩]) ++
        [⟨decide (g.gateOffset.toNat ≤ c.limit.toNat), excGp x⟩]

/-- The tests of a task switch on the LDT of the incoming task `s` (R720 step 10, D31). -/
def State.taskLdtTests (s : State) (x : Word) : List Test :=
  let sel := s.ldtr.sel
  let d := (s.reading .ldt).entry sel
  let bad : Stop := .exc 10 (some (errorCode sel x)) (some s)
  if sel.toNat < 4 then []
  else [⟨!sel.getLsbD 2 && s.inTable sel, bad⟩, ⟨arIsType d.ar 2, bad⟩, ⟨arPresent d.ar, bad⟩]

/-- The incoming task `s` with its LDT loaded, which a null selector leaves invalid (R720 step 10, D31). -/
def State.taskLdt (s : State) : State :=
  let sel := s.ldtr.sel
  let d := (s.reading .ldt).entry sel
  if sel.toNat < 4 then s else { s.underLock with ldtr := { sel, base := d.base, limit := d.limit, valid := true } }

/-- The tests of a task switch on a segment of the incoming task `s`, which is left as it is then
(R720 steps 12-14, R723). -/
def State.taskTests (s : State) (r : SReg) (part : Part) (x : Word) : List Test :=
  let sel := (s.seg r).sel
  let u := s.reading part
  let d := u.entry sel
  let bad (vec : Byte) : Stop := .exc vec (some (errorCode sel x)) (some s)
  match r with
  | .ss =>
    [⟨decide (4 ≤ sel.toNat), bad 10⟩, ⟨u.inTable sel, bad 10⟩,
     ⟨rplOf sel == s.cpl && arDpl d.ar == s.cpl && d.isWritableData, bad 10⟩, ⟨arPresent d.ar, bad 12⟩]
  | .cs =>
    [⟨decide (4 ≤ sel.toNat), bad 10⟩, ⟨u.inTable sel, bad 10⟩, ⟨d.isCode && d.atLevel s.cpl, bad 10⟩,
     ⟨arPresent d.ar, bad 11⟩]
  | .ds | .es =>
    if sel.toNat < 4 then []
    else
      [⟨u.inTable sel, bad 10⟩, ⟨d.isDataOrReadable && (d.isConforming || s.mayUse sel d), bad 10⟩,
       ⟨arPresent d.ar, bad 11⟩]

/-- The incoming task `s` with one of its segments loaded; DS and ES stay invalid when null (R720 steps 12-14). -/
def State.taskSegment (s : State) (r : SReg) (part : Part) : State :=
  let sel := (s.seg r).sel
  let d := (s.reading part).entry sel
  if (r = .ds ∨ r = .es) ∧ sel.toNat < 4 then s
  else (s.access d).setSeg r (d.loaded sel)

/-- The state left when a task switch to the TSS of `nd` has marked that TSS busy, saved the task in its own TSS and linked
or released it (R720 steps 1-4, R722). -/
def State.outgoing (s : State) (nd : Desc) (nesting : Bool) (cause : SwitchCause) (ip : Word) : State :=
  let f := if cause = .iret then { s.flags with nt := false } else s.flags
  let put (k : PAddr) (v : Word) (u : State) : State := u.writePhys16 (s.tr.base + k) v
  let saved := s.underLock.writePhys (nd.addr + 5) (nd.ar ||| 2) |> put 14 ip |> put 16 f.toWord |> put 18 s.regs.ax
    |> put 20 s.regs.cx |> put 22 s.regs.dx |> put 24 s.regs.bx |> put 26 s.regs.sp |> put 28 s.regs.bp
    |> put 30 s.regs.si |> put 32 s.regs.di |> put 34 s.es.sel |> put 36 s.cs.sel |> put 38 s.ss.sel
    |> put 40 s.ds.sel
  let old : PAddr := s.gdtr.base + BitVec.ofNat 24 (s.tr.sel.toNat / 8 * 8) + 5
  if nesting then saved.writePhys16 nd.base s.tr.sel
  else saved.writePhys old ((saved.reading .oldTask).readPhys old &&& 0xFD)

/-- The incoming task in the state `m` that the outgoing one left, none of its segments loaded yet (R720 steps 5-9). -/
def State.incoming (m : State) (nsel : Word) (nd : Desc) (nesting : Bool) (cause : SwitchCause) : State :=
  let w (k : PAddr) : Word := (m.reading .task).readPhys16 (nd.base + k)
  let f := Flags.ofWord (w 16)
  { m with
    tr := { sel := nsel, base := nd.base, limit := nd.limit, valid := true }
    msw := { m.msw with ts := true }
    dec := {}
    ip := w 14
    regs := { ax := w 18, cx := w 20, dx := w 22, bx := w 24, sp := w 26, bp := w 28, si := w 30, di := w 32 }
    flags := { f with nt := if nesting then true else if cause = .jmp then false else f.nt }
    es := { m.es with sel := w 34, valid := false }
    cs := { m.cs with sel := w 36, valid := false }
    ss := { m.ss with sel := w 38, valid := false }
    ds := { m.ds with sel := w 40, valid := false }
    ldtr := { m.ldtr with sel := w 42, valid := false } }

/-- The incoming task `s` with the LDT and every segment loaded (R720 steps 10-14). -/
def State.taskLoaded (s : State) : State :=
  (((s.taskLdt.taskSegment .ss .stackSeg).taskSegment .cs .codeSeg).taskSegment .ds .dsSeg).taskSegment .es .esSeg

/-- The tests on the LDT and the segments of the incoming task `s`, each when what precedes it is loaded
(R720 steps 10-14). -/
def State.loadTests (s : State) (x : Word) : List Test :=
  let u1 := s.taskLdt
  let u2 := u1.taskSegment .ss .stackSeg
  let u3 := u2.taskSegment .cs .codeSeg
  let u4 := u3.taskSegment .ds .dsSeg
  s.taskLdtTests x ++ u1.taskTests .ss .stackSeg x ++ u2.taskTests .cs .codeSeg x ++ u3.taskTests .ds .dsSeg x ++
    u4.taskTests .es .esSeg x

/-- THE TESTS OF A TASK SWITCH to the TSS of `nd`: that TR holds a TSS with room for the old task, which is left with the
new TSS marked busy; that the new TSS is whole; and those on what it names (R720-R723). -/
def State.switchTests (s : State) (nsel : Word) (nd : Desc) (nesting : Bool) (cause : SwitchCause) (ip x : Word) :
    List Test :=
  let m := s.outgoing nd nesting cause ip
  let new : SysReg := { sel := nsel, base := nd.base, limit := nd.limit, valid := true }
  let bad (left : State) : Stop := .exc 10 (some (errorCode nsel x)) (some left)
  [⟨s.tr.valid && decide (41 ≤ s.tr.limit.toNat), bad (s.underLock.writePhys (nd.addr + 5) (nd.ar ||| 2))⟩,
   ⟨decide (43 ≤ nd.limit.toNat), bad { m with tr := new }⟩] ++ (m.incoming nsel nd nesting cause).loadTests x

/-- What a delivered event comes to. -/
def State.delivered (s : State) (e : Event) : Out :=
  match s.deliver e with
  | .ok t => .next t
  | .error q => .refused q

/-- Instruction `i` comes to what the first test that fails comes to. -/
def State.Tests (s : State) (i : Instr) (l : List Test) : Prop := ∀ e, firstFailing l = some e → exec i s = s.stopped e

/-- EVENT `e` ENDS IN `t`: it is delivered so, and INT n, INT 3, INTO and the exceptions of instructions make that delivery
where it is theirs (R495-R497, R820, R845). -/
def State.Takes (s : State) (e : Event) (t : State) : Prop :=
  s.deliver e = .ok t ∧
    (e.kind = .sw → e.ret = s.nextIp → e.code = none →
      exec (.intDb e.vec) s = .next t ∧ (e.vec = 3 → exec .int3 s = .next t) ∧
        (e.vec = 4 → s.flags.of = true → exec .into s = .next t)) ∧
    (e.kind = .exc → e.ret = s.ip → s.exception e.vec e.code = .next t)

/-- One request after the other delivered, the first one due in the order of R810 each time, until none is, or `n` have been,
or the machine is in shutdown (R810, R820). -/
def State.takeRequests : Nat → State → Except Refusal State
  | 0, s => .ok s
  | n + 1, s =>
    match s.requests.find? (·.due) with
    | none => .ok s
    | some r =>
      match { r.left with runState := .running }.deliver { vec := r.vec, kind := .ext, ret := s.ip, code := none } with
      | .error q => .error q
      | .ok t =>
        let u := { t with free := t.free + 1 }
        if t.runState = .shutdown then .ok u else State.takeRequests n u

/-- No event is delivered before the next instruction: nothing requests RESET, the NPX does nothing, the machine runs, and
either the inhibit latch holds events off or none is due (R72, R810). -/
def State.quiet (s : State) : Bool :=
  !s.resetReq && s.npxIn.isEmpty && decide (s.runState = .running) &&
    (s.inhibit || (!s.trapPending && !(s.nmiPending && !s.nmiInService) && !s.overrunDue
      && !(s.intr.isSome && s.flags.ie)))

end Sys2Proof.Machine
end

