-- ==== Sys2Proof/Certificates/Slice0/Obligations.lean ====
section
/-!
DEFINITION. The statements for the provers. A statement `Does i s t stored` gives the whole next state `t` of an instruction,
and so its frame, and the bytes of memory it may change; its hypotheses are on the state and the operands alone.
-/

open Sys2Proof Sys2Proof.Machine

/-! Encoding -/

/-- Decoding what the encoder writes gives the instruction back, whatever follows; the bare escape 0F, which is an
element only at the end of what can be fetched, is the one exception (R220-R254). The model's own choices in it: notes
18 and 19. -/
def Obligations.DecodeOfEncode : Prop :=
  ∀ i : Instr, i.wf = true →
    (i ≠ .twoByteEscape → ∀ rest, decode (encode i ++ rest) = .ok (i, rest)) ∧
      decode (encode i) = .ok (i, [])

/-- Every element the decoder reads is well formed, takes one to six bytes and is what the encoder writes for it, and
six bytes are always enough. The rows of undefined and unlisted reg fields keep neither mod nor r/m (R263), so their
bytes cannot be had back (R222, R230-R264). The model's own choices in it: notes 11 and 18. -/
def Obligations.EncodeOfDecode : Prop :=
  (∀ bs i rest, decode bs = .ok (i, rest) →
      i.wf = true ∧ ∃ pre, bs = pre ++ rest ∧ 1 ≤ pre.length ∧ pre.length ≤ 6 ∧
        (i ∉ undefinedRows → i ∉ undefinedStackRows → i ∉ unlistedRows → pre = encode i)) ∧
  (∀ bs : List Byte, 6 ≤ bs.length → ∃ i rest, decode bs = .ok (i, rest))

/-- Words written out from the encoding tables, one of each family, among them a displacement before an immediate and
an ESC (R231-R254). The model's own choices in it: note 18. -/
def Obligations.SampleWordsDecode : Prop :=
  decode [0x01, 0x47, 0xFE] = .ok (.addEwRw (.mem (.disp8 .bx 0xFE)) .ax, []) ∧
  decode [0x83, 0x6E, 0x04, 0x80] = .ok (.subEwDb (.mem (.disp8 .bp 0x04)) 0x80, []) ∧
  decode [0xC6, 0x06, 0x34, 0x12, 0x7F] = .ok (.movEbDb (.mem (.direct 0x1234)) 0x7F, []) ∧
  decode [0xD3, 0xFA] = .ok (.sarEwCl (.reg .dx), []) ∧
  decode [0xF6, 0x38] = .ok (.idivEb (.mem (.ind .bxsi)), []) ∧
  decode [0x9A, 0x78, 0x56, 0x34, 0x12] = .ok (.callCd 0x5678 0x1234, []) ∧
  decode [0xF3, 0xA4] = .ok (.prefixRep, [0xA4]) ∧
  decode [0xC8, 0x10, 0x00, 0x02] = .ok (.enterDwDb 0x0010 0x02, []) ∧
  decode [0x0F, 0x01, 0x9F, 0x00, 0x80] = .ok (.lidtM (.mem (.disp16 .bx 0x8000)), []) ∧
  decode [0xDD, 0x35] = .ok (.esc 5 6 (.mem (.ind .di)), []) ∧
  decode [0x0F, 0xFF] = .ok (.undef0Fxx 0xFF, []) ∧
  decode [0xFF, 0xF8] = .ok (.undefFFn7, [])

/-! The step -/

/-- When no event is due and the bytes at CS:IP decode to `i`, the step is what `exec` makes of `i` at that state with
its length counted, the single-step latch set from TF, the model's counter advanced, nothing remembered of the
instruction; behind a prefix the elements that follow are executed in the same step. Where the bytes that can be
fetched end too early, the element raises exception 13, and so does the step. These bytes are the at most ten of the
instruction from CS:IP up that lie inside 64K and, in protected mode, inside CS's limit; an instruction of which some
bytes are missing ends too early (R151, R152, R221, R222, R275, R810). The model's own choices in it: notes 9, 19, 20,
36 and 42. -/
def Obligations.StepRunsTheDecodedInstruction : Prop :=
  (∀ (s : State) (i : Instr) (rest : List Byte),
      let u := { s with inhibit := false, dec := {} }
      let v := u.decoded (u.code.length - rest.length)
      s.quiet = true → decode u.code = .ok (i, rest) →
        (∀ t, exec i v = .next t → t.dec.phase ≠ .prefixed →
          step s = .next { t with trapPending := t.trapAfter s.flags.tf, dec := {}, free := t.free + 1 }) ∧
        (∀ t t', exec i v = .next t → t.dec.phase = .prefixed → State.elements 10 t = .next t' →
          step s = .next { t' with trapPending := t'.trapAfter s.flags.tf, dec := {}, free := t'.free + 1 }) ∧
        (∀ r, exec i v = .refused r → step s = .refused r)) ∧
  (∀ s : State,
      let u := { s with inhibit := false, dec := {} }
      s.quiet = true → (∀ x, decode u.code ≠ .ok x) →
        (∀ t, u.exception 13 (some 0) = .next t →
          step s = .next { t with trapPending := t.trapAfter s.flags.tf, dec := {}, free := t.free + 1 }) ∧
        (∀ r, u.exception 13 (some 0) = .refused r → step s = .refused r)) ∧
  (∀ (t : State) (n : Nat), (∀ x, decode t.code ≠ .ok x) → State.elements (n + 1) t = t.exception 13 (some 0)) ∧
  (∀ t : State,
      let at_ (k : Nat) : Nat := t.ip.toNat + t.dec.len + k
      let beyond (k : Nat) : Prop := 0xFFFF < at_ k ∨ t.prot = true ∧ t.cs.limit.toNat < at_ k
      t.code.length ≤ 10 - t.dec.len ∧ (t.code.length < 10 - t.dec.len → beyond t.code.length) ∧
      ∀ k < t.code.length, ¬beyond k ∧
        t.code[k]? = some ((t.reading .code).readPhys (t.cs.lin (BitVec.ofNat 16 (at_ k))))) ∧
  (∀ (i : Instr) (bs more : List Byte), i.wf = true → encode i = bs ++ more → more ≠ [] → bs ≠ [0x0F] →
      ∀ x, decode bs ≠ .ok x)

/-- Only a prefix leaves the decoder waiting for the instruction behind it; every other instruction leaves nothing
remembered, but for a repeat with more to do and a wait for BUSY, which are executed again (R224, R552, R752). The
model's own choices in it: notes 19, 21 and 42. -/
def Obligations.OnlyPrefixesAwaitAnInstruction : Prop :=
  ∀ (i : Instr) (s t : State), exec i s = .next t →
    t.dec = {} ∨ t.dec = { phase := .repeating } ∨ t.dec = { phase := .waiting } ∨
      (t.dec.phase = .prefixed ∧ t.ip = s.ip ∧
        i ∈ [.prefixEs, .prefixCs, .prefixSs, .prefixDs, .prefixLock, .prefixRep, .prefixRepne])

/-! What holds of the whole machine -/

/-- The state after reset meets the invariant (R80). The model's own choices in it: notes 2, 3, 4 and 42. -/
def Obligations.ResetMeetsInvariant : Prop := State.reset.Inv

/-- Every step keeps the invariant: memory in canonical form, nothing remembered of a finished instruction, and in
real mode every segment register valid with the limit FFFFH (R60, R141, R151). The model's own choices in it: notes 4
and 42. -/
def Obligations.StepKeepsInvariant : Prop :=
  ∀ s t : State, s.Inv → step s = .next t → t.Inv

/-- Protected mode is left by RESET only: a step from a state with PE set and no RESET requested leaves PE set (R67).
-/
def Obligations.ProtectionIsLeftByResetOnly : Prop :=
  ∀ s t : State, s.msw.pe = true → s.resetReq = false → step s = .next t → t.msw.pe = true

/-- In protected mode outside privilege level 0 no instruction changes GDTR, IDTR, PE, MP or EM, none clears TS or
halts the machine, and none but a task switch, which sets TS, changes LDTR or IOPL; with CPL above IOPL none sets IF,
but by a task switch. Where the current TSS is none that can be left, so that no task switch happens, LDTR, TR, IOPL
and, above IOPL, IF stay as they are whatever TS is (R67-R70, R171, R500, R670, R720). -/
def Obligations.UserInstructionsLeaveSystemState : Prop :=
  (∀ (i : Instr) (s t : State), s.prot = true → s.cpl ≠ 0 → exec i s = .next t →
      t.gdtr = s.gdtr ∧ t.idtr = s.idtr ∧
      t.msw.pe = s.msw.pe ∧ t.msw.mp = s.msw.mp ∧ t.msw.em = s.msw.em ∧
      (s.msw.ts = true → t.msw.ts = true) ∧
      (t.msw.ts = false → t.ldtr = s.ldtr ∧ t.flags.iopl = s.flags.iopl) ∧
      (t.runState = .halted → s.runState = .halted)) ∧
  (∀ (i : Instr) (s t : State), s.prot = true → s.flags.iopl < s.cpl → s.flags.ie = false →
      exec i s = .next t → t.msw.ts = false → t.flags.ie = false) ∧
  (∀ (i : Instr) (s t : State), s.prot = true → s.cpl ≠ 0 → (s.tr.valid = false ∨ s.tr.limit.toNat < 41) →
      exec i s = .next t →
      t.ldtr = s.ldtr ∧ t.tr = s.tr ∧ t.flags.iopl = s.flags.iopl ∧ t.msw = s.msw ∧
      (s.flags.iopl < s.cpl → t.flags.ie = true → s.flags.ie = true))

/-! RESET, shutdown, halt and the events of a boundary -/

/-- RESET, whatever the machine is doing: the registers the source names as it names them, execution at FFFFF0H,
memory unchanged (R80, R950). The model's own choices in it: notes 16 and 38. -/
def Obligations.ResetOverridesEverything : Prop :=
  ∀ s : State, s.resetReq = true → ∃ t, step s = .next t ∧
    t.flags.toWord = 0x0002 ∧ t.msw.toWord = 0xFFF0 ∧ t.ip = 0xFFF0 ∧
    t.cs.sel = 0xF000 ∧ t.cs.base = 0xFF0000 ∧ t.cs.limit = 0xFFFF ∧
    (∀ x ∈ [SReg.ds, .es, .ss], (t.seg x).sel = 0 ∧ (t.seg x).base = 0 ∧ (t.seg x).limit = 0xFFFF) ∧
    t.idtr = { base := 0, limit := 0x03FF } ∧ t.runState = .running ∧ t.inhibit = false ∧
    t.nmiInService = false ∧ t.trapPending = false ∧ t.overrunReq = false ∧
    t.cs.lin t.ip = 0xFFFFF0 ∧ t.mem = s.mem ∧ t.memMap = s.memMap

/-- In shutdown a step changes nothing but the model's counter and what the NPX does, whatever IF, INTR and the other
requests are, until RESET or an unmasked NMI; an NMI ends it if its delivery succeeds, and leaves registers, memory
and the shutdown as they were if not. A halted machine to which no event comes stays as it is (R609, R810, R905,
R906). The model's own choices in it: notes 7, 9, 36 and 48. -/
def Obligations.ShutdownAndHalt : Prop :=
  (∀ s : State, s.runState = .shutdown → s.resetReq = false → (s.nmiPending = false ∨ s.nmiInService = true) →
      step s = .next { s.npxStep with free := s.npxStep.free + 1 }) ∧
  (∀ s : State, s.runState = .shutdown → s.resetReq = false → s.nmiPending = true → s.nmiInService = false →
      let b := s.npxStep
      let a := { b with nmiPending := false, nmiInService := true }
      (∀ t, a.enter { vec := 2, kind := .ext, ret := s.ip, code := none } = .ok t →
        step s = .next { t with runState := .running, free := t.free + 1 }) ∧
      (∀ v c l, a.enter { vec := 2, kind := .ext, ret := s.ip, code := none } = .error (.exc v c l) →
        step s = .next { a with free := a.free + 1 })) ∧
  (∀ s : State, s.runState = .halted → s.resetReq = false → s.npxIn = [] → s.inhibit = false → s.trapPending = false →
      (s.nmiPending = false ∨ s.nmiInService = true) → s.overrunDue = false →
      (s.intr = none ∨ s.flags.ie = false) → step s = .next { s with free := s.free + 1 })

/-- The events of a boundary in real mode: the inhibit latch holds all of them off once; the single-step interrupt
comes through vector 1; NMI through vector 2 whatever IF is, masked from then on and before an INTR, which the
clearing of IF then holds off; the processor extension's overrun through vector 9 whatever IF is, but not while NMI is
masked; INTR with IF set is acknowledged once, under bus LOCK, and comes through the vector the host supplies. The
offset saved is that of the instruction not yet executed, a halt ends, and the handler's first instruction follows in
the same step. In either mode the first of the requests, in that order, is the one delivered, through the IDT in
protected mode, then the first one due of those left, on top of it, and so on until none is due or the machine is in
shutdown. What the NPX does comes before all of them, and without an NPX it does nothing (R72, R125, R750, R756,
R810-R812, R830, R840, R860). The model's own choices in it: notes 7, 8, 9, 15, 19, 36, 37, 43, 48, 49 and 52. -/
def Obligations.RealModeEvents : Prop :=
  (∀ s : State, s.resetReq = false → step s = step s.npxStep ∧
      (s.npxPresent = false → s.npxStep = { s with npxIn := [] } ∧ s.overrunDue = false)) ∧
  (∀ s : State, s.resetReq = false → s.npxIn = [] → s.runState = .running → s.inhibit = true →
      step s = { s with inhibit := false }.instruction) ∧
  (∀ s : State, s.resetReq = false → s.npxIn = [] → s.runState ≠ .shutdown → s.inhibit = false → s.trapPending = true →
      s.nmiPending = false → s.overrunDue = false → s.canEnterReal 1 = true →
      let a := { s with trapPending := false, runState := .running }
      step s = { a.realEntry 1 s.ip with free := s.free + 1 }.instruction) ∧
  (∀ s : State, s.resetReq = false → s.npxIn = [] → s.runState ≠ .shutdown → s.inhibit = false → s.trapPending = false →
      s.nmiPending = true → s.nmiInService = false → s.canEnterReal 2 = true →
      let a := { s with nmiPending := false, nmiInService := true, runState := .running }
      step s = { a.realEntry 2 s.ip with free := s.free + 1 }.instruction) ∧
  (∀ s : State, s.resetReq = false → s.npxIn = [] → s.runState ≠ .shutdown → s.inhibit = false → s.trapPending = false →
      s.nmiPending = false → s.nmiInService = false → s.overrunReq = true → s.npxPresent = true →
      s.canEnterReal 9 = true →
      let a := { s with overrunReq := false, runState := .running }
      step s = { a.realEntry 9 s.ip with free := s.free + 1 }.instruction) ∧
  (∀ (s : State) (v : Byte), s.resetReq = false → s.npxIn = [] → s.runState ≠ .shutdown → s.inhibit = false →
      s.trapPending = false → (s.nmiPending = false ∨ s.nmiInService = true) → s.overrunDue = false →
      s.intr = some v → s.flags.ie = true → s.canEnterReal v = true →
      let a := { s with intr := none, hostOut := .intAck :: .lock :: s.hostOut, runState := .running }
      step s = { a.realEntry v s.ip with free := s.free + 1 }.instruction) ∧
  (∀ (s t : State) (pre post : List Request) (r : Request), s.resetReq = false → s.npxIn = [] → s.runState ≠ .shutdown →
      s.inhibit = false → s.requests = pre ++ r :: post → (∀ q ∈ pre, q.due = false) → r.due = true →
      { r.left with runState := .running }.deliver { vec := r.vec, kind := .ext, ret := s.ip, code := none } = .ok t →
      (t.runState = .running → (∀ q ∈ t.requests, q.due = false) →
        step s = { t with free := t.free + 1 }.instruction)) ∧
  (∀ (s : State) (n : Nat), 4 ≤ n → s.resetReq = false → s.npxIn = [] → s.runState ≠ .shutdown → s.inhibit = false →
      step s = match s.takeRequests n with
        | .ok t => t.instruction
        | .error q => .refused q)

/-! Memory and the stack -/

/-- Reading after writing: the byte written where there is RAM, everything else as before; ROM, absent and device
addresses do not change; a word is two bytes, low byte first, at addresses modulo 2^24 (R122, R126-R128). The model's
own choices in it: notes 5 and 10. -/
def Obligations.ReadAfterWrite : Prop :=
  (∀ (s : State) (a b : PAddr) (v : Byte), (s.writePhys a v).readPhys b =
      if b = a ∧ kindAt s.memMap a = .ram then v else s.readPhys b) ∧
  (∀ (s : State) (a : PAddr) (v : Word), s.ram (wordCells a) →
      (s.writePhys16 a v).readPhys16 a = v ∧
      ((s.writePhys16 a v).readPhys a).toNat = v.toNat % 256 ∧
      ((s.writePhys16 a v).readPhys (a + 1)).toNat = v.toNat / 256 ∧
      ∀ b, b ∉ wordCells a → (s.writePhys16 a v).readPhys b = s.readPhys b)

/-- A reference passes its checks exactly when the source says so: in real mode when it ends at or below FFFFH; in
protected mode when its register is valid, its type allows it and it lies within the limit, above it for a segment
that expands down. An instruction, in the mode and at the level that it needs, all of whose earlier references pass
and one of which fails comes to #SS(0) for a reference through SS and #GP(0) otherwise, in real mode to interrupt 13,
with nothing changed; only ADC, SBB, RCL, RCR and XCHG, whose operand can be read and not written, have left the flags
they write, or the register, free (R140-R149, R151). The model's own choices in it: notes 9, 12, 25, 27, 29, 31, 33,
34, 35 and 52. -/
def Obligations.ReferenceChecks : Prop :=
  (∀ (s : State) (x : SReg) (off : Word) (n : Nat), n = 1 ∨ n = 2 →
        let g := s.seg x
        let inLimit : Prop :=
          if arExec g.ar = false ∧ arConfDown g.ar = true then g.limit < off ∧ off.toNat + n - 1 ≤ 0xFFFF
          else off.toNat + n - 1 ≤ g.limit.toNat
        (s.prot = false → (s.canRead x off n = true ↔ off.toNat + n - 1 ≤ 0xFFFF) ∧
          (s.canWrite x off n = true ↔ off.toNat + n - 1 ≤ 0xFFFF)) ∧
        (s.prot = true →
          (s.canRead x off n = true ↔ g.valid = true ∧ (arExec g.ar = false ∨ arReadWrite g.ar = true) ∧ inLimit) ∧
          (s.canWrite x off n = true ↔ g.valid = true ∧ (arExec g.ar = false ∧ arReadWrite g.ar = true) ∧ inLimit))) ∧
  (∀ (s : State) (i : Instr) (pre post : List Ref) (r : Ref), s.references i = pre ++ r :: post →
      (∀ q ∈ pre, s.permits q = true) → s.permits r = false → exec i s = s.badReference r.seg) ∧
  (∀ (s : State) (m : Mem),
      let bad (u : State) : Out := u.badReference (s.eaSeg m)
      let f := s.flags.free s.free
      let g := { s.flags with cf := Config.freeBit s.free .cf, of := Config.freeBit s.free .of }
      (s.canReadE8 (.mem m) = true → s.canWriteE8 (.mem m) = false →
        (∀ op ∈ [AluOp.adc, .sbb], (∀ r, exec (op.ebRb (.mem m) r) s = bad { s with flags := f }) ∧
          ∀ i, exec (op.ebDb (.mem m) i) s = bad { s with flags := f }) ∧
        (∀ op ∈ [ShiftOp.rcl, .rcr], exec (op.ebOne (.mem m)) s = bad { s with flags := g } ∧
          exec (op.ebCl (.mem m)) s = bad { s with flags := g } ∧
          ∀ i, exec (op.ebDb (.mem m) i) s = bad { s with flags := g }) ∧
        ∀ r, exec (.xchgEbRb (.mem m) r) s = bad (s.set8 r (Config.freeByte s.free .xchgReg))) ∧
      (s.canReadE16 (.mem m) = true → s.canWriteE16 (.mem m) = false →
        (∀ op ∈ [AluOp.adc, .sbb], (∀ r, exec (op.ewRw (.mem m) r) s = bad { s with flags := f }) ∧
          (∀ i, exec (op.ewDw (.mem m) i) s = bad { s with flags := f }) ∧
          ∀ mk i, op.ewDb = some mk → exec (mk (.mem m) i) s = bad { s with flags := f }) ∧
        (∀ op ∈ [ShiftOp.rcl, .rcr], exec (op.ewOne (.mem m)) s = bad { s with flags := g } ∧
          exec (op.ewCl (.mem m)) s = bad { s with flags := g } ∧
          ∀ i, exec (op.ewDb (.mem m) i) s = bad { s with flags := g }) ∧
        ∀ r, exec (.xchgEwRw (.mem m) r) s = bad (s.set16 r (Config.freeWord s.free .xchgReg))))

/-! Data movement -/

/-- MOV between registers, memory and immediates, and from a segment register, whose selector it stores in either mode
(R303-R305, R307-R310). -/
def Obligations.MovMovesItsSource : Prop :=
  (∀ s : State,
      (∀ e r, s.canWriteE8 e = true → Does (.movEbRb e r) s (s.put8 e (s.get8 r)).advance (s.cells8 e)) ∧
      (∀ e r, s.canWriteE16 e = true → Does (.movEwRw e r) s (s.put16 e (s.get16 r)).advance (s.cells16 e)) ∧
      (∀ r e, s.canReadE8 e = true → Does (.movRbEb r e) s (s.set8 r (s.val8 e)).advance []) ∧
      (∀ r e, s.canReadE16 e = true → Does (.movRwEw r e) s (s.set16 r (s.val16 e)).advance []) ∧
      (∀ e i, s.canWriteE8 e = true → Does (.movEbDb e i) s (s.put8 e i).advance (s.cells8 e)) ∧
      (∀ e i, s.canWriteE16 e = true → Does (.movEwDw e i) s (s.put16 e i).advance (s.cells16 e)) ∧
      (∀ r i, Does (.movRbDb r i) s (s.set8 r i).advance []) ∧
      (∀ r i, Does (.movRwDw r i) s (s.set16 r i).advance []) ∧
      (∀ a, s.canReadE8 (.mem (.direct a)) = true →
        Does (.movAlXb a) s (s.set8 .al (s.readPhys (s.addr (.direct a)))).advance []) ∧
      (∀ a, s.canReadE16 (.mem (.direct a)) = true →
        Does (.movAxXw a) s (s.set16 .ax (s.readPhys16 (s.addr (.direct a)))).advance []) ∧
      (∀ a, s.canWriteE8 (.mem (.direct a)) = true →
        Does (.movXbAl a) s (s.writePhys (s.addr (.direct a)) (s.get8 .al)).advance [s.addr (.direct a)]) ∧
      (∀ a, s.canWriteE16 (.mem (.direct a)) = true →
        Does (.movXwAx a) s (s.writePhys16 (s.addr (.direct a)) (s.get16 .ax)).advance (wordCells (s.addr (.direct a))))) ∧
  (∀ (s : State) (e : E16), s.canWriteE16 e = true →
      Does (.movEwEs e) s (s.put16 e s.es.sel).advance (s.cells16 e) ∧
      Does (.movEwCs e) s (s.put16 e s.cs.sel).advance (s.cells16 e) ∧
      Does (.movEwSs e) s (s.put16 e s.ss.sel).advance (s.cells16 e) ∧
      Does (.movEwDs e) s (s.put16 e s.ds.sel).advance (s.cells16 e))

/-- Every real-mode load of ES, SS and DS: base 16 times the selector, limit FFFFH; a load of SS by MOV or POP holds
off interrupts for one instruction (R60, R72, R131, R306, R319, R328, R329). The model's own choices in it: note 3. -/
def Obligations.RealModeSegmentLoads : Prop :=
  ∀ s : State, s.prot = false →
    (∀ e, s.canReadE16 e = true →
      Does (.movEsEw e) s { s with es := s.es.real (s.val16 e) }.advance [] ∧
      Does (.movDsEw e) s { s with ds := s.ds.real (s.val16 e) }.advance [] ∧
      Does (.movSsEw e) s { s with ss := s.ss.real (s.val16 e), inhibit := true }.advance []) ∧
    (s.canRead .ss s.regs.sp 2 = true →
      let v := s.readPhys16 (s.stackAddr 0)
      let r := { s.regs with sp := s.regs.sp + 2 }
      Does .popEs s { s with es := s.es.real v, regs := r }.advance [] ∧
      Does .popDs s { s with ds := s.ds.real v, regs := r }.advance [] ∧
      Does .popSs s { s with ss := s.ss.real v, regs := r, inhibit := true }.advance []) ∧
    (∀ r m, s.canReadMem m 4 = true →
      let off := s.readPhys16 (s.addr m)
      let sel := s.readPhys16 (s.addr m + 2)
      Does (.ldsRwEd r (.mem m)) s ({ s with ds := s.ds.real sel }.set16 r off).advance [] ∧
      Does (.lesRwEd r (.mem m)) s ({ s with es := s.es.real sel }.set16 r off).advance [])

/-- Protected-mode loads of DS, ES and SS from a descriptor that passes every test: the cache holds its base, limit
and access byte, and the Accessed bit is written to the table under bus LOCK and nothing else to memory; a null
selector only makes DS or ES invalid; a load of SS by MOV or POP holds off interrupts for one instruction (R72, R141,
R153, R155, R306, R319, R328, R329). The model's own choices in it: notes 28 and 52. -/
def Obligations.ProtectedModeSegmentLoads : Prop :=
  (∀ s : State,
      (∀ e d, s.canReadE16 e = true → s.loadsData (s.val16 e) d = true →
        Does (.movEsEw e) s { s.access d with es := d.loaded (s.val16 e) }.advance [d.addr + 5] ∧
        Does (.movDsEw e) s { s.access d with ds := d.loaded (s.val16 e) }.advance [d.addr + 5]) ∧
      (∀ d, s.canRead .ss s.regs.sp 2 = true →
        let v := s.readPhys16 (s.stackAddr 0)
        let r := { s.regs with sp := s.regs.sp + 2 }
        s.loadsData v d = true →
          Does .popEs s { s.access d with es := d.loaded v, regs := r }.advance [d.addr + 5] ∧
          Does .popDs s { s.access d with ds := d.loaded v, regs := r }.advance [d.addr + 5]) ∧
      (∀ r m d, s.canReadMem m 4 = true →
        let off := s.readPhys16 (s.addr m)
        let sel := s.readPhys16 (s.addr m + 2)
        s.loadsData sel d = true →
          Does (.ldsRwEd r (.mem m)) s ({ s.access d with ds := d.loaded sel }.set16 r off).advance [d.addr + 5] ∧
          Does (.lesRwEd r (.mem m)) s ({ s.access d with es := d.loaded sel }.set16 r off).advance [d.addr + 5]) ∧
      (∀ e, s.canReadE16 e = true → s.prot = true → (s.val16 e).toNat < 4 →
        Does (.movEsEw e) s { s with es := { s.es with sel := s.val16 e, valid := false } }.advance [] ∧
        Does (.movDsEw e) s { s with ds := { s.ds with sel := s.val16 e, valid := false } }.advance []) ∧
      (s.canRead .ss s.regs.sp 2 = true → s.prot = true →
        let v := s.readPhys16 (s.stackAddr 0)
        let r := { s.regs with sp := s.regs.sp + 2 }
        v.toNat < 4 →
          Does .popEs s { s with es := { s.es with sel := v, valid := false }, regs := r }.advance [] ∧
          Does .popDs s { s with ds := { s.ds with sel := v, valid := false }, regs := r }.advance []) ∧
      (∀ r m, s.canReadMem m 4 = true → s.prot = true →
        let off := s.readPhys16 (s.addr m)
        let v := s.readPhys16 (s.addr m + 2)
        v.toNat < 4 →
          Does (.ldsRwEd r (.mem m)) s ({ s with ds := { s.ds with sel := v, valid := false } }.set16 r off).advance [] ∧
          Does (.lesRwEd r (.mem m)) s ({ s with es := { s.es with sel := v, valid := false } }.set16 r off).advance [])) ∧
  (∀ s : State,
      (∀ e d, s.canReadE16 e = true → s.loadsStack (s.val16 e) d = true →
        Does (.movSsEw e) s { s.access d with ss := d.loaded (s.val16 e), inhibit := true }.advance [d.addr + 5]) ∧
      (∀ d, s.canRead .ss s.regs.sp 2 = true →
        let v := s.readPhys16 (s.stackAddr 0)
        s.loadsStack v d = true →
          let r := { s.regs with sp := s.regs.sp + 2 }
          Does .popSs s { s.access d with ss := d.loaded v, inhibit := true, regs := r }.advance [d.addr + 5]))

/-- Protected-mode loads that fail, by MOV, POP, LDS and LES: a null selector in SS, a selector outside its table, a
wrong type, a privilege not had, a segment not present; the exception is taken with nothing changed, SP and the word
register included (R153, R154, R306, R319, R328, R329). The model's own choices in it: notes 28 and 52. -/
def Obligations.SegmentLoadExceptions : Prop :=
  (∀ (s : State) (i : Instr) (v : Word), s.prot = true → s.loadsSsFrom i v →
      let ec := v &&& 0xFFFC
      (v.toNat < 4 → exec i s = s.exception 13 (some 0)) ∧
      (4 ≤ v.toNat → s.desc? v = none → exec i s = s.exception 13 (some ec)) ∧
      (∀ d, 4 ≤ v.toNat → s.desc? v = some d →
        ((d.isWritableData = false ∨ rplOf v ≠ s.cpl ∨ arDpl d.ar ≠ s.cpl) → exec i s = s.exception 13 (some ec)) ∧
        (d.isWritableData = true → rplOf v = s.cpl → arDpl d.ar = s.cpl → arPresent d.ar = false →
          exec i s = s.exception 12 (some ec)))) ∧
  (∀ (s : State) (i : Instr) (v : Word), s.prot = true → s.loadsDataFrom i v →
      let ec := v &&& 0xFFFC
      (4 ≤ v.toNat → s.desc? v = none → exec i s = s.exception 13 (some ec)) ∧
      (∀ d, 4 ≤ v.toNat → s.desc? v = some d →
        ((d.isDataOrReadable = false ∨ (d.isConforming = false ∧ s.mayUse v d = false)) →
          exec i s = s.exception 13 (some ec)) ∧
        (d.isDataOrReadable = true → (d.isConforming = true ∨ s.mayUse v d = true) → arPresent d.ar = false →
          exec i s = s.exception 11 (some ec))))

/-- Every one-word push: the word goes to SS:SP-2, SP goes down by 2, nothing else changes. PUSH SP pushes the value
from before (R160, R313-R316, R322). The model's own choices in it: note 15. -/
def Obligations.Pushes : Prop :=
  ∀ s : State, s.canWrite .ss (s.regs.sp - 2) 2 = true →
    let pushed (v : Word) : State :=
      { s.writePhys16 (s.stackAddr (-2)) v with regs := { s.regs with sp := s.regs.sp - 2 } }.advance
    (∀ r, Does (.pushRw r) s (pushed (s.get16 r)) (s.pushCells 1)) ∧
    Does .pushEs s (pushed s.es.sel) (s.pushCells 1) ∧
    Does .pushCs s (pushed s.cs.sel) (s.pushCells 1) ∧
    Does .pushSs s (pushed s.ss.sel) (s.pushCells 1) ∧
    Does .pushDs s (pushed s.ds.sel) (s.pushCells 1) ∧
    (∀ e, s.canReadE16 e = true → Does (.pushMw e) s (pushed (s.val16 e)) (s.pushCells 1)) ∧
    (∀ i, Does (.pushDw i) s (pushed i) (s.pushCells 1)) ∧
    (∀ i, Does (.pushDb i) s (pushed (BitVec.ofInt 16 i.toInt)) (s.pushCells 1)) ∧
    Does .pushf s (pushed s.flags.toWord) (s.pushCells 1)

/-- POP into a register or memory: SP goes up by 2, but POP SP ends with the word popped; a memory operand's address
is that from before the pop. POPF: every flag from the word, but IOPL only at CPL 0 in protected mode, IF only if CPL
is at most IOPL, NT only in protected mode; no exception for what may not change (R161, R318, R320, R323, R500, D10).
The model's own choices in it: notes 15 and 17. -/
def Obligations.PopsIntoRegistersMemoryAndFlags : Prop :=
  (∀ s : State, s.canRead .ss s.regs.sp 2 = true →
      let v := s.readPhys16 (s.stackAddr 0)
      let up := { s with regs := { s.regs with sp := s.regs.sp + 2 } }
      (∀ r, Does (.popRw r) s (up.set16 r v).advance []) ∧
      (∀ r, Does (.popMw (.reg r)) s (up.set16 r v).advance []) ∧
      (∀ m, s.canWriteE16 (.mem m) = true →
        Does (.popMw (.mem m)) s
          { s.writePhys16 (s.addr m) v with regs := { s.regs with sp := s.regs.sp + 2 } }.advance (wordCells (s.addr m)))) ∧
  (∀ s : State, s.canRead .ss s.regs.sp 2 = true →
      let f := Flags.ofWord (s.readPhys16 (s.stackAddr 0))
      Does .popf s
        { s with
          regs := { s.regs with sp := s.regs.sp + 2 }
          flags := { f with
            ie := if s.cpl.toNat ≤ s.flags.iopl.toNat then f.ie else s.flags.ie
            iopl := if s.prot = true ∧ s.cpl = 0 then f.iopl else s.flags.iopl
            nt := if s.prot = true then f.nt else s.flags.nt } }.advance [])

/-- PUSHA and POPA away from the end of the stack segment: eight words each, SP as it was before among those pushed
and not among those loaded; POPA after PUSHA gives every register back. Where a word fails its checks and the stack
does not wrap, the exception is taken with nothing changed. Where the words wrap in protected mode it is #SS(0) with
SP as the source lists it; of PUSHA's words those that lie below the old SP and pass their checks may have been
written, each whole or not at all, and of POPA's registers those whose word can be read may have been loaded (R317,
R321). The model's own choices in it: note 30. -/
def Obligations.PushaAndPopa : Prop :=
  (∀ s : State,
      (s.canPush 8 = true → (s.prot = true → s.regs.sp = 0 ∨ 16 ≤ s.regs.sp.toNat) →
        let w (k v : Word) (t : State) : State := t.writePhys16 (s.stackAddr k) v
        let t := s |> w (-2) s.regs.ax |> w (-4) s.regs.cx |> w (-6) s.regs.dx |> w (-8) s.regs.bx
          |> w (-10) s.regs.sp |> w (-12) s.regs.bp |> w (-14) s.regs.si |> w (-16) s.regs.di
        Does .pusha s { t with regs := { s.regs with sp := s.regs.sp - 16 } }.advance (s.pushCells 8)) ∧
      ((∀ k < 8, s.canRead .ss (s.regs.sp + BitVec.ofNat 16 (2 * k)) 2 = true) →
        (s.prot = true → s.regs.sp.toNat ≤ 0xFFF0) →
        let w (k : Word) : Word := s.readPhys16 (s.stackAddr k)
        let r : Regs :=
          { ax := w 14, cx := w 12, dx := w 10, bx := w 8, sp := s.regs.sp + 16, bp := w 4, si := w 2, di := w 0 }
        Does .popa s { s with regs := r }.advance [])) ∧
  (∀ s t : State, s.canPush 8 = true → (s.prot = true → s.regs.sp = 0 ∨ 16 ≤ s.regs.sp.toNat) →
      s.ram (s.pushCells 8) → exec .pusha s = .next t → exec .popa t = .next { t with regs := s.regs }) ∧
  (∀ s : State,
      (s.canPush 8 = false → (s.prot = true → s.regs.sp = 0 ∨ 16 ≤ s.regs.sp.toNat) →
        exec .pusha s = s.badReference .ss) ∧
      ((∃ k < 8, s.canRead .ss (s.regs.sp + BitVec.ofNat 16 (2 * k)) 2 = false) →
        (s.prot = true → s.regs.sp.toNat ≤ 0xFFF0) → exec .popa s = s.badReference .ss)) ∧
  (∀ s : State, s.prot = true → 0 < s.regs.sp.toNat → s.regs.sp.toNat < 16 →
      let w : List Word :=
        [s.regs.ax, s.regs.cx, s.regs.dx, s.regs.bx, s.regs.sp, s.regs.bp, s.regs.si, s.regs.di]
      ∃ t : State, exec .pusha s = t.exception 12 (some 0) ∧ { t with mem := s.mem, hostOut := s.hostOut, regs := s.regs } = s ∧
        t.regs = { s.regs with sp := s.regs.sp &&& 1 } ∧
        (∀ a, a ∉ s.pushCells (s.regs.sp.toNat / 2) → t.readPhys a = s.readPhys a) ∧
        ∀ k < s.regs.sp.toNat / 2,
          let off := s.regs.sp - BitVec.ofNat 16 (2 * (k + 1))
          let a := s.ss.lin off
          t.readPhys16 a = s.readPhys16 a ∨ s.canWrite .ss off 2 = true ∧
            (s.ram (wordCells a) → some (t.readPhys16 a) = w[k]?)) ∧
  (∀ s : State, s.prot = true → 0xFFF0 < s.regs.sp.toNat →
      ∃ v : Nat → Word → Word,
        (∀ k x, let off := s.regs.sp + BitVec.ofNat 16 (2 * k)
          v k x = x ∨ s.canRead .ss off 2 = true ∧ v k x = s.readPhys16 (s.ss.lin off)) ∧
        exec .popa s = { s with
          regs := { di := v 0 s.regs.di, si := v 1 s.regs.si, bp := v 2 s.regs.bp, sp := 0xFFFE + (s.regs.sp &&& 1),
                    bx := v 4 s.regs.bx, dx := v 5 s.regs.dx, cx := v 6 s.regs.cx, ax := v 7 s.regs.ax } }.exception
          12 (some 0))

/-- XCHG with a register, memory and AX, with memory under bus LOCK, prefix or not; LAHF, SAHF, XLAT and LEA. LAHF
puts five flags into AH; LEA makes no reference, and a register as its operand is #UD (R125, R311, R312, R324-R327).
The model's own choices in it: notes 44 and 52. -/
def Obligations.ExchangesAndTransfers : Prop :=
  ((∀ r, r ≠ .ax → decode [BitVec.ofNat 8 (0x90 + r.code.toNat)] = .ok (.xchgAxRw r, [])) ∧
    decode [0x90] = .ok (.nop, []) ∧ decode [0x9E] = .ok (.sahf, []) ∧
    (∀ r e, encode (.leaRwM r e) = 0x8D :: encE16 r.code e) ∧
    ∀ (s : State) (r q : Reg16), exec (.leaRwM r (.reg q)) s = s.exception 6 none) ∧
  (∀ s : State,
      (∀ e r, s.canWriteE8 e = true →
        let u := match e with
          | .reg _ => s
          | .mem _ => s.underLock
        Does (.xchgEbRb e r) s ((u.put8 e (s.get8 r)).set8 r (s.val8 e)).advance (s.cells8 e)) ∧
      (∀ e r, s.canWriteE16 e = true →
        let u := match e with
          | .reg _ => s
          | .mem _ => s.underLock
        Does (.xchgEwRw e r) s ((u.put16 e (s.get16 r)).set16 r (s.val16 e)).advance (s.cells16 e)) ∧
      (∀ r, Does (.xchgAxRw r) s ((s.set16 .ax (s.get16 r)).set16 r (s.get16 .ax)).advance [])) ∧
  (∀ s : State,
      (∃ h : Byte, Does .lahf s (s.set8 .ah h).advance [] ∧
        h.getLsbD 7 = s.flags.sf ∧ h.getLsbD 6 = s.flags.zf ∧ h.getLsbD 4 = s.flags.af ∧
        h.getLsbD 2 = s.flags.pf ∧ h.getLsbD 0 = s.flags.cf) ∧
      (let h := s.get8 .ah
        let f := { s.flags with
          sf := h.getLsbD 7
          zf := h.getLsbD 6
          af := h.getLsbD 4
          pf := h.getLsbD 2
          cf := h.getLsbD 0 }
        Does .sahf s { s with flags := f }.advance []) ∧
      (let x := s.override .ds
        let off : Word := s.regs.bx + BitVec.ofNat 16 (s.get8 .al).toNat
        s.canRead x off 1 = true → Does .xlat s (s.set8 .al (s.readPhys ((s.seg x).lin off))).advance []) ∧
      (∀ r m, Does (.leaRwM r (.mem m)) s (s.set16 r (s.eaOff m)).advance []))

/-! Arithmetic and logic -/

/-- ADD, ADC, SUB, SBB, AND, OR and XOR in their nine operand forms: the exact sum or difference modulo 2^w or the
bitwise result, and the flags: carry, overflow and auxiliary carry say that the exact unsigned, signed and low-digit
values do not fit; a byte immediate of a word form is sign-extended (R350-R357, R400-R403). The model's own choices in
it: note 9. -/
def Obligations.TwoOperandArithmetic : Prop :=
  (∀ (op : AluOp) (s : State),
      (∀ e r, s.canWriteE8 e = true →
        let x := op.effect s.flags s.free (s.val8 e) (s.get8 r)
        Does (op.ebRb e r) s { s.put8 e x.1 with flags := x.2 }.advance (s.cells8 e)) ∧
      (∀ e i, s.canWriteE8 e = true →
        let x := op.effect s.flags s.free (s.val8 e) i
        Does (op.ebDb e i) s { s.put8 e x.1 with flags := x.2 }.advance (s.cells8 e)) ∧
      (∀ i,
        let x := op.effect s.flags s.free (s.get8 .al) i
        Does (op.alDb i) s { s.set8 .al x.1 with flags := x.2 }.advance []) ∧
      (∀ r e, s.canReadE8 e = true →
        let x := op.effect s.flags s.free (s.get8 r) (s.val8 e)
        Does (op.rbEb r e) s { s.set8 r x.1 with flags := x.2 }.advance [])) ∧
  (∀ (op : AluOp) (s : State),
      (∀ e r, s.canWriteE16 e = true →
        let x := op.effect s.flags s.free (s.val16 e) (s.get16 r)
        Does (op.ewRw e r) s { s.put16 e x.1 with flags := x.2 }.advance (s.cells16 e)) ∧
      (∀ e i, s.canWriteE16 e = true →
        let x := op.effect s.flags s.free (s.val16 e) i
        Does (op.ewDw e i) s { s.put16 e x.1 with flags := x.2 }.advance (s.cells16 e)) ∧
      (∀ mk e i, op.ewDb = some mk → s.canWriteE16 e = true →
        let x := op.effect s.flags s.free (s.val16 e) (BitVec.ofInt 16 i.toInt)
        Does (mk e i) s { s.put16 e x.1 with flags := x.2 }.advance (s.cells16 e)) ∧
      (∀ i,
        let x := op.effect s.flags s.free (s.get16 .ax) i
        Does (op.axDw i) s { s.set16 .ax x.1 with flags := x.2 }.advance []) ∧
      (∀ r e, s.canReadE16 e = true →
        let x := op.effect s.flags s.free (s.get16 r) (s.val16 e)
        Does (op.rwEw r e) s { s.set16 r x.1 with flags := x.2 }.advance []))

/-- CMP writes the flags of the difference, TEST those of the bitwise AND, and neither anything else (R359, R400,
R405). The model's own choices in it: note 9. -/
def Obligations.ComparesWriteFlagsOnly : Prop :=
  (∀ s : State,
      let f8 (a b : Byte) : State := { s with flags := (s.flags.difference a b false).2 }.advance
      let f16 (a b : Word) : State := { s with flags := (s.flags.difference a b false).2 }.advance
      (∀ e, s.canReadE8 e = true →
        (∀ r, Does (.cmpEbRb e r) s (f8 (s.val8 e) (s.get8 r)) []) ∧
        (∀ r, Does (.cmpRbEb r e) s (f8 (s.get8 r) (s.val8 e)) []) ∧
        (∀ i, Does (.cmpEbDb e i) s (f8 (s.val8 e) i) [])) ∧
      (∀ e, s.canReadE16 e = true →
        (∀ r, Does (.cmpEwRw e r) s (f16 (s.val16 e) (s.get16 r)) []) ∧
        (∀ r, Does (.cmpRwEw r e) s (f16 (s.get16 r) (s.val16 e)) []) ∧
        (∀ i, Does (.cmpEwDw e i) s (f16 (s.val16 e) i) []) ∧
        (∀ i, Does (.cmpEwDb e i) s (f16 (s.val16 e) (BitVec.ofInt 16 i.toInt)) [])) ∧
      (∀ i, Does (.cmpAlDb i) s (f8 (s.get8 .al) i) []) ∧
      (∀ i, Does (.cmpAxDw i) s (f16 (s.get16 .ax) i) [])) ∧
  (∀ s : State,
      let f8 (a b : Byte) : State := { s with flags := (s.flags.bitwise s.free (a &&& b)).2 }.advance
      let f16 (a b : Word) : State := { s with flags := (s.flags.bitwise s.free (a &&& b)).2 }.advance
      (∀ e, s.canReadE8 e = true →
        (∀ r, Does (.testEbRb e r) s (f8 (s.val8 e) (s.get8 r)) []) ∧
        (∀ i, Does (.testEbDb e i) s (f8 (s.val8 e) i) [])) ∧
      (∀ e, s.canReadE16 e = true →
        (∀ r, Does (.testEwRw e r) s (f16 (s.val16 e) (s.get16 r)) []) ∧
        (∀ i, Does (.testEwDw e i) s (f16 (s.val16 e) i) [])) ∧
      (∀ i, Does (.testAlDb i) s (f8 (s.get8 .al) i) []) ∧
      (∀ i, Does (.testAxDw i) s (f16 (s.get16 .ax) i) []))

/-- INC and DEC keep CF, NEG is the difference from 0, NOT complements every bit and touches no flag (R355, R358,
R360, R404). -/
def Obligations.UnaryArithmetic : Prop :=
  ∀ s : State,
    let keep (f : Flags) : Flags := { f with cf := s.flags.cf }
    (∀ e, s.canWriteE8 e = true →
      let up := s.flags.sum (s.val8 e) 1 false
      let down := s.flags.difference (s.val8 e) 1 false
      let neg := s.flags.difference 0 (s.val8 e) false
      Does (.incEb e) s { s.put8 e up.1 with flags := keep up.2 }.advance (s.cells8 e) ∧
      Does (.decEb e) s { s.put8 e down.1 with flags := keep down.2 }.advance (s.cells8 e) ∧
      Does (.negEb e) s { s.put8 e neg.1 with flags := neg.2 }.advance (s.cells8 e) ∧
      Does (.notEb e) s (s.put8 e (~~~s.val8 e)).advance (s.cells8 e)) ∧
    (∀ e, s.canWriteE16 e = true →
      let up := s.flags.sum (s.val16 e) 1 false
      let down := s.flags.difference (s.val16 e) 1 false
      let neg := s.flags.difference 0 (s.val16 e) false
      Does (.incEw e) s { s.put16 e up.1 with flags := keep up.2 }.advance (s.cells16 e) ∧
      Does (.decEw e) s { s.put16 e down.1 with flags := keep down.2 }.advance (s.cells16 e) ∧
      Does (.negEw e) s { s.put16 e neg.1 with flags := neg.2 }.advance (s.cells16 e) ∧
      Does (.notEw e) s (s.put16 e (~~~s.val16 e)).advance (s.cells16 e)) ∧
    (∀ r,
      let up := s.flags.sum (s.get16 r) 1 false
      let down := s.flags.difference (s.get16 r) 1 false
      Does (.incRw r) s { s.set16 r up.1 with flags := keep up.2 }.advance [] ∧
      Does (.decRw r) s { s.set16 r down.1 with flags := keep down.2 }.advance [])

/-- MUL and IMUL: the exact product in AX, in DX:AX or, its low word, in a register; CF and OF say that it does not
fit the lower half; SF, ZF, AF and PF are free (R361-R363). The model's own choices in it: note 9. -/
def Obligations.Multiplication : Prop :=
  ∀ s : State,
    let fl (big : Prop) [Decidable big] : Flags := { s.flags.free s.free with cf := decide big, of := decide big }
    (∀ e, s.canReadE8 e = true →
      let u := (s.get8 .al).toNat * (s.val8 e).toNat
      let v := (s.get8 .al).toInt * (s.val8 e).toInt
      Does (.mulEb e) s { s with
        regs := { s.regs with ax := BitVec.ofNat 16 u }
        flags := fl (2 ^ 8 ≤ u) }.advance [] ∧
      Does (.imulEb e) s { s with
        regs := { s.regs with ax := BitVec.ofInt 16 v }
        flags := fl (v < -2 ^ 7 ∨ 2 ^ 7 ≤ v) }.advance []) ∧
    (∀ e, s.canReadE16 e = true →
      let u := s.regs.ax.toNat * (s.val16 e).toNat
      let v := s.regs.ax.toInt * (s.val16 e).toInt
      Does (.mulEw e) s { s with
        regs := { s.regs with ax := BitVec.ofNat 16 u, dx := BitVec.ofNat 16 (u / 2 ^ 16) }
        flags := fl (2 ^ 16 ≤ u) }.advance [] ∧
      Does (.imulEw e) s { s with
        regs := { s.regs with ax := BitVec.ofInt 16 v, dx := BitVec.ofInt 16 (v / 2 ^ 16) }
        flags := fl (v < -2 ^ 15 ∨ 2 ^ 15 ≤ v) }.advance [] ∧
      (∀ r (i : Word),
        let p := (s.val16 e).toInt * i.toInt
        Does (.imulRwEwDw r e i) s
          { s.set16 r (BitVec.ofInt 16 p) with flags := fl (p < -2 ^ 15 ∨ 2 ^ 15 ≤ p) }.advance []) ∧
      (∀ r (i : Byte),
        let p := (s.val16 e).toInt * i.toInt
        Does (.imulRwEwDb r e i) s
          { s.set16 r (BitVec.ofInt 16 p) with flags := fl (p < -2 ^ 15 ∨ 2 ^ 15 ≤ p) }.advance []))

/-- DIV and IDIV when the quotient fits: quotient and remainder are the ones with dividend = quotient * divisor +
remainder, the remainder smaller than the divisor and, when signed, of the dividend's sign; all six status flags are
free. A zero divisor, or a quotient that does not fit, is interrupt 0 with every register as before and the status
flags free (R364, R365). The model's own choices in it: note 9. -/
def Obligations.Division : Prop :=
  (∀ s : State,
      let f := s.flags.free s.free
      (∀ e q r, s.canReadE8 e = true → q < 2 ^ 8 → r < (s.val8 e).toNat →
        s.regs.ax.toNat = q * (s.val8 e).toNat + r →
        Does (.divEb e) s
          { s with regs := { s.regs with ax := BitVec.ofNat 16 (256 * r + q) }, flags := f }.advance []) ∧
      (∀ e q r, s.canReadE16 e = true → q < 2 ^ 16 → r < (s.val16 e).toNat →
        s.regs.dx.toNat * 2 ^ 16 + s.regs.ax.toNat = q * (s.val16 e).toNat + r →
        Does (.divEw e) s
          { s with regs := { s.regs with ax := BitVec.ofNat 16 q, dx := BitVec.ofNat 16 r }, flags := f }.advance []) ∧
      (∀ e (q r : Int), s.canReadE8 e = true → -2 ^ 7 ≤ q → q < 2 ^ 7 → r.natAbs < (s.val8 e).toInt.natAbs →
        0 ≤ r * s.regs.ax.toInt → s.regs.ax.toInt = q * (s.val8 e).toInt + r →
        Does (.idivEb e) s
          { s with regs := { s.regs with ax := BitVec.ofInt 8 r ++ BitVec.ofInt 8 q }, flags := f }.advance []) ∧
      (∀ e (q r : Int), s.canReadE16 e = true → -2 ^ 15 ≤ q → q < 2 ^ 15 → r.natAbs < (s.val16 e).toInt.natAbs →
        let n := s.regs.dx.toInt * 2 ^ 16 + s.regs.ax.toNat
        0 ≤ r * n → n = q * (s.val16 e).toInt + r →
        Does (.idivEw e) s
          { s with regs := { s.regs with ax := BitVec.ofInt 16 q, dx := BitVec.ofInt 16 r }, flags := f }.advance [])) ∧
  (∀ s : State,
      let u := { s with flags := s.flags.free s.free }
      (∀ e, s.canReadE8 e = true →
        (((s.val8 e).toNat = 0 ∨ 2 ^ 8 * (s.val8 e).toNat ≤ s.regs.ax.toNat) →
          exec (.divEb e) s = u.exception 0 none) ∧
        (((s.val8 e).toNat = 0 ∨ ∀ q : Int, -2 ^ 7 ≤ q → q < 2 ^ 7 → q ≠ s.regs.ax.toInt.tdiv (s.val8 e).toInt) →
          exec (.idivEb e) s = u.exception 0 none)) ∧
      (∀ e, s.canReadE16 e = true →
        let n := s.regs.dx.toNat * 2 ^ 16 + s.regs.ax.toNat
        let m := s.regs.dx.toInt * 2 ^ 16 + s.regs.ax.toNat
        (((s.val16 e).toNat = 0 ∨ 2 ^ 16 * (s.val16 e).toNat ≤ n) → exec (.divEw e) s = u.exception 0 none) ∧
        (((s.val16 e).toNat = 0 ∨ ∀ q : Int, -2 ^ 15 ≤ q → q < 2 ^ 15 → q ≠ m.tdiv (s.val16 e).toInt) →
          exec (.idivEw e) s = u.exception 0 none)))

/-- CBW and CWD, 98H and 99H: AL into AX and AX into DX:AX with their sign, no flag touched, no exception (R366,
R367). -/
def Obligations.SignExtension : Prop :=
  decode [0x98] = .ok (.cbw, []) ∧ decode [0x99] = .ok (.cwd, []) ∧
  ∀ s : State,
    Does .cbw s { s with regs := { s.regs with ax := BitVec.ofInt 16 (s.get8 .al).toInt } }.advance [] ∧
    Does .cwd s { s with regs := { s.regs with dx := if s.regs.ax.toInt < 0 then 0xFFFF else 0x0000 } }.advance []

/-- The seven shifts and rotates of a byte and of a word, in their three counts: the count modulo 32, the result and
the carry in closed form, OF for a count of one whether the sign has changed (R410-R416, R420-R433). The model's own
choices in it: notes 9 and 31. -/
def Obligations.ShiftsAndRotates : Prop :=
  (∀ (op : ShiftOp) (s : State) (e : E8), s.canWriteE8 e = true →
      let t (cnt : Byte) : State :=
        let k := cnt.toNat % 32
        { s.put8 e (op.closed (s.val8 e) s.flags.cf k).1 with
          flags := op.flagsAfter s.flags s.free k (s.val8 e) }.advance
      Does (op.ebOne e) s (t 1) (s.cells8 e) ∧ Does (op.ebCl e) s (t (s.get8 .cl)) (s.cells8 e) ∧
        ∀ i, Does (op.ebDb e i) s (t i) (s.cells8 e)) ∧
  (∀ (op : ShiftOp) (s : State) (e : E16), s.canWriteE16 e = true →
      let t (cnt : Byte) : State :=
        let k := cnt.toNat % 32
        { s.put16 e (op.closed (s.val16 e) s.flags.cf k).1 with
          flags := op.flagsAfter s.flags s.free k (s.val16 e) }.advance
      Does (op.ewOne e) s (t 1) (s.cells16 e) ∧ Does (op.ewCl e) s (t (s.get8 .cl)) (s.cells16 e) ∧
        ∀ i, Does (op.ewDb e i) s (t i) (s.cells16 e))

/-- The decimal adjusts, 27H, 2FH, 37H, 3FH, D4H 0AH and D5H 0AH, as their pages define them, for every AL, AH, AF and
CF, with no exception; AAM splits AL by ten and AAD puts it together again (R621-R626). The model's own choices in it:
notes 9 and 34. -/
def Obligations.DecimalAdjusts : Prop :=
  (decode [0x27] = .ok (.daa, []) ∧ decode [0x2F] = .ok (.das, []) ∧ decode [0x37] = .ok (.aaa, []) ∧
    decode [0x3F] = .ok (.aas, []) ∧ decode [0xD4, 0x0A] = .ok (.aam, []) ∧ decode [0xD5, 0x0A] = .ok (.aad, [])) ∧
  ∀ s : State,
    let al := (s.get8 .al).toNat
    let ah := (s.get8 .ah).toNat
    let low : Bool := 9 < al % 16 ∨ s.flags.af = true
    let done (l : Nat) (h : Nat) (f : Flags) : State :=
      { s with regs := { s.regs with ax := BitVec.ofNat 16 (h % 256 * 256 + l % 256) }, flags := f }.advance
    let packed (c1 c2 : Nat) : State :=
      let a1 := (if low then al + c1 else al) % 256
      let high : Bool := 0x9F < a1 ∨ s.flags.cf = true
      let a2 := (if high then a1 + c2 else a1) % 256
      done a2 ah { s.flags.result (BitVec.ofNat 8 a2) with af := low, cf := high, of := Config.freeBit s.free .of }
    let ascii (c1 c2 : Nat) : State :=
      done ((if low then al + c1 else al) % 16) (if low then ah + c2 else ah)
        { s.flags with
          af := low
          cf := low
          of := Config.freeBit s.free .of
          sf := Config.freeBit s.free .sf
          zf := Config.freeBit s.free .zf
          pf := Config.freeBit s.free .pf }
    let split (l h : Nat) : State :=
      done l h { s.flags.result (BitVec.ofNat 8 l) with
        of := Config.freeBit s.free .of
        af := Config.freeBit s.free .af
        cf := Config.freeBit s.free .cf }
    Does .daa s (packed 0x06 0x60) [] ∧ Does .das s (packed (256 - 0x06) (256 - 0x60)) [] ∧
    Does .aaa s (ascii 6 1) [] ∧ Does .aas s (ascii (256 - 6) 255) [] ∧
    Does .aam s (split (al % 10) (al / 10)) [] ∧ Does .aad s (split (al + 10 * ah) 0) []

/-- DAA after an addition of two packed decimal numbers gives their decimal sum, with the decimal carry in CF, but for
the binary sums FAH to FFH, which the definition wraps to 00H to 05H with CF clear; DAS after a subtraction their
difference, with the decimal borrow (R621, R622; note 46). The model's own choices in it: note 46. -/
def Obligations.PackedDecimalArithmetic : Prop :=
  ∀ (s t u : State) (a b : Nat), a < 100 → b < 100 →
    let bcd (n : Nat) : Nat := n / 10 * 16 + n % 10
    s.get8 .al = BitVec.ofNat 8 (bcd a) →
    (exec (.addAlDb (BitVec.ofNat 8 (bcd b))) s = .next t → exec .daa t = .next u →
      (if 0xFA ≤ bcd a + bcd b ∧ bcd a + bcd b ≤ 0xFF then
        (u.get8 .al).toNat = bcd a + bcd b - 0xFA ∧ u.flags.cf = false
      else (u.get8 .al).toNat = bcd ((a + b) % 100) ∧ (u.flags.cf = true ↔ 100 ≤ a + b))) ∧
    (exec (.subAlDb (BitVec.ofNat 8 (bcd b))) s = .next t → exec .das t = .next u →
      (u.get8 .al).toNat = bcd ((a + 100 - b) % 100) ∧ (u.flags.cf = true ↔ a < b))

/-! Control transfer -/

/-- The conditional jumps, JCXZ, LOOP, LOOPE and LOOPNE: taken, to a target inside the code segment, or not; the loop
forms count CX down and touch no flag (R450-R457). -/
def Obligations.ConditionalJumps : Prop :=
  ∀ (s : State) (d : Byte),
    let dest := s.target d.toInt
    let down := { s with regs := { s.regs with cx := s.regs.cx - 1 } }
    (∀ j ∈ conditionalJumps,
      (j.2 s.flags = true → s.targetOk dest = true → Does (j.1 d) s { s with ip := dest, dec := {} } []) ∧
      (j.2 s.flags = false → Does (j.1 d) s s.advance [])) ∧
    (s.regs.cx = 0 → s.targetOk dest = true → Does (.jcxz d) s { s with ip := dest, dec := {} } []) ∧
    (s.regs.cx ≠ 0 → Does (.jcxz d) s s.advance []) ∧
    (∀ l ∈ [(Instr.loop, true), (Instr.loope, s.flags.zf), (Instr.loopne, !s.flags.zf)],
      (s.regs.cx ≠ 1 → l.2 = true → s.targetOk dest = true → Does (l.1 d) s { down with ip := dest, dec := {} } []) ∧
      ((s.regs.cx = 1 ∨ l.2 = false) → Does (l.1 d) s down.advance []))

/-- After a comparison of two words JL, JNL, JLE and JNLE order them as signed numbers and JB, JNB, JBE and JNBE as
unsigned ones, and JE and JNE tell equality: the jump is taken exactly then (R359, R452). -/
def Obligations.JumpsOrderComparedOperands : Prop :=
  ∀ (s t : State) (a b : Word) (d : Byte), s.get16 .ax = a → exec (.cmpAxDw b) s = .next t → t.prot = false →
    let taken := { t with ip := t.target d.toInt, dec := {} }
    let goes (i : Instr) (c : Prop) : Prop := (c → exec i t = .next taken) ∧ (¬c → exec i t = .next t.advance)
    goes (.jl d) (a.toInt < b.toInt) ∧ goes (.jnl d) (b.toInt ≤ a.toInt) ∧
    goes (.jle d) (a.toInt ≤ b.toInt) ∧ goes (.jnle d) (b.toInt < a.toInt) ∧
    goes (.jb d) (a.toNat < b.toNat) ∧ goes (.jnb d) (b.toNat ≤ a.toNat) ∧
    goes (.jbe d) (a.toNat ≤ b.toNat) ∧ goes (.jnbe d) (b.toNat < a.toNat) ∧
    goes (.je d) (a = b) ∧ goes (.jne d) (a ≠ b)

/-- Near JMP, CALL and RET to a target inside the code segment. A near target above its limit is #GP(0) with nothing
changed, CX and the stack included, in every instruction that can have one (R450, R453, R455, R460-R462, R465, R466,
R485, R486). -/
def Obligations.NearTransfers : Prop :=
  (∀ s : State,
      let called (t : Word) : State :=
        { s.writePhys16 (s.stackAddr (-2)) s.nextIp with
          ip := t, dec := {}, regs := { s.regs with sp := s.regs.sp - 2 } }
      (∀ d, s.targetOk (s.target d.toInt) = true →
        Does (.jmpCb d) s { s with ip := s.target d.toInt, dec := {} } []) ∧
      (∀ d, s.targetOk (s.target d.toInt) = true →
        Does (.jmpCw d) s { s with ip := s.target d.toInt, dec := {} } []) ∧
      (∀ e, s.canReadE16 e = true → s.targetOk (s.val16 e) = true →
        Does (.jmpEw e) s { s with ip := s.val16 e, dec := {} } []) ∧
      (s.canWrite .ss (s.regs.sp - 2) 2 = true →
        (∀ d, s.targetOk (s.target d.toInt) = true →
          Does (.callCw d) s (called (s.target d.toInt)) (s.pushCells 1)) ∧
        (∀ e, s.canReadE16 e = true → s.targetOk (s.val16 e) = true →
          Does (.callEw e) s (called (s.val16 e)) (s.pushCells 1))) ∧
      (s.canRead .ss s.regs.sp 2 = true →
        let t := s.readPhys16 (s.stackAddr 0)
        s.targetOk t = true →
          Does .retNear s { s with ip := t, dec := {}, regs := { s.regs with sp := s.regs.sp + 2 } } [] ∧
          ∀ n, Does (.retNearDw n) s { s with ip := t, dec := {}, regs := { s.regs with sp := s.regs.sp + 2 + n } } [])) ∧
  (∀ s : State, s.prot = true →
      let gp : Out := s.exception 13 (some 0)
      (∀ d : Byte, s.cs.limit < s.target d.toInt →
        exec (.jmpCb d) s = gp ∧
        (∀ j ∈ conditionalJumps, j.2 s.flags = true → exec (j.1 d) s = gp) ∧
        (s.regs.cx = 0 → exec (.jcxz d) s = gp) ∧
        (s.regs.cx ≠ 1 → exec (.loop d) s = gp) ∧
        (s.regs.cx ≠ 1 → s.flags.zf = true → exec (.loope d) s = gp) ∧
        (s.regs.cx ≠ 1 → s.flags.zf = false → exec (.loopne d) s = gp)) ∧
      (∀ d : Word, s.cs.limit < s.target d.toInt →
        exec (.jmpCw d) s = gp ∧ (s.canWrite .ss (s.regs.sp - 2) 2 = true → exec (.callCw d) s = gp)) ∧
      (∀ e, s.canReadE16 e = true → s.cs.limit < s.val16 e →
        exec (.jmpEw e) s = gp ∧ (s.canWrite .ss (s.regs.sp - 2) 2 = true → exec (.callEw e) s = gp)) ∧
      (s.canRead .ss s.regs.sp 2 = true → s.cs.limit < s.readPhys16 (s.stackAddr 0) →
        exec .retNear s = gp ∧ ∀ n, exec (.retNearDw n) s = gp))

/-- Far JMP, CALL and RET in real mode: CS is loaded with base 16 times the selector, CALL pushes CS and the offset of
the next instruction, RET pops them and releases its immediate (R463, R464, R467, R468, R471, R487). -/
def Obligations.RealModeFarTransfers : Prop :=
  ∀ s : State, s.prot = false →
    let gone (t : State) (sel off : Word) : State := { t with cs := s.cs.real sel, ip := off, dec := {} }
    let called : State :=
      { (s.writePhys16 (s.stackAddr (-2)) s.cs.sel).writePhys16 (s.stackAddr (-4)) s.nextIp with
        regs := { s.regs with sp := s.regs.sp - 4 } }
    (∀ off sel, Does (.jmpCd off sel) s (gone s sel off) []) ∧
    (∀ m, s.canReadMem m 4 = true →
      Does (.jmpEd (.mem m)) s (gone s (s.readPhys16 (s.addr m + 2)) (s.readPhys16 (s.addr m))) []) ∧
    (s.canPush 2 = true →
      (∀ off sel, Does (.callCd off sel) s (gone called sel off) (s.pushCells 2)) ∧
      (∀ m, s.canReadMem m 4 = true →
        Does (.callEd (.mem m)) s (gone called (s.readPhys16 (s.addr m + 2)) (s.readPhys16 (s.addr m)))
          (s.pushCells 2))) ∧
    (s.canRead .ss s.regs.sp 2 = true → s.canRead .ss (s.regs.sp + 2) 2 = true →
      let back (n : Word) : State :=
        { gone s (s.readPhys16 (s.stackAddr 2)) (s.readPhys16 (s.stackAddr 0)) with
          regs := { s.regs with sp := s.regs.sp + 4 + n } }
      Does .retFar s (back 0) [] ∧ ∀ n, Does (.retFarDw n) s (back n) [])

/-- Far JMP, CALL and RET in protected mode within the privilege level, to a code segment named directly, or, for JMP
and CALL, through a call gate, that passes every test: CS is loaded from the descriptor, the Accessed bit written
under bus LOCK, CPL unchanged; a gate supplies the offset, and its word count is not used. A JMP through a gate to
more privilege is #GP(the segment's selector) (R473-R476, R488). The model's own choices in it: notes 28 and 52. -/
def Obligations.ProtectedFarTransfersSameLevel : Prop :=
  (∀ (s : State) (sel : Word) (d : Desc), s.prot = true → 4 ≤ sel.toNat → d.isCode = true → arPresent d.ar = true →
      let gone (t : State) (off : Word) : State :=
        { t.access d with
          cs := d.loaded ((sel &&& 0xFFFC) ||| s.cpl.setWidth 16), ip := off, dec := {} }
      let called : State :=
        { (s.writePhys16 (s.stackAddr (-2)) s.cs.sel).writePhys16 (s.stackAddr (-4)) s.nextIp with
          regs := { s.regs with sp := s.regs.sp - 4 } }
      (s.desc? sel = some d →
        (d.isConforming = true ∧ (arDpl d.ar).toNat ≤ s.cpl.toNat ∨
          d.isConforming = false ∧ (rplOf sel).toNat ≤ s.cpl.toNat ∧ arDpl d.ar = s.cpl) →
        (∀ off : Word, off.toNat ≤ d.limit.toNat →
          Does (.jmpCd off sel) s (gone s off) [d.addr + 5] ∧
          (s.canPush 2 = true → Does (.callCd off sel) s (gone called off) ((d.addr + 5) :: s.pushCells 2))) ∧
        (∀ m, s.canReadMem m 4 = true → s.readPhys16 (s.addr m + 2) = sel →
          let off := s.readPhys16 (s.addr m)
          off.toNat ≤ d.limit.toNat →
            Does (.jmpEd (.mem m)) s (gone s off) [d.addr + 5] ∧
            (s.canPush 2 = true → Does (.callEd (.mem m)) s (gone called off) ((d.addr + 5) :: s.pushCells 2)))) ∧
      ((s.reading .target).desc? sel = some d → rplOf sel = s.cpl →
        (d.isConforming = true ∧ (arDpl d.ar).toNat ≤ s.cpl.toNat ∨ d.isConforming = false ∧ arDpl d.ar = s.cpl) →
        s.canRead .ss s.regs.sp 2 = true → s.canRead .ss (s.regs.sp + 2) 2 = true →
        s.readPhys16 (s.stackAddr 2) = sel →
        let off := s.readPhys16 (s.stackAddr 0)
        off.toNat ≤ d.limit.toNat →
          let back (n : Word) : State := { gone s off with regs := { s.regs with sp := s.regs.sp + 4 + n } }
          Does .retFar s (back 0) [d.addr + 5] ∧ ∀ n, Does (.retFarDw n) s (back n) [d.addr + 5])) ∧
  (∀ (s : State) (off sel : Word) (g c : Desc), s.prot = true → 4 ≤ sel.toNat → s.desc? sel = some g →
      arIsType g.ar 4 = true → s.mayUse sel g = true → arPresent g.ar = true → 4 ≤ g.gateSel.toNat →
      (s.reading .target).desc? g.gateSel = some c → c.isCode = true →
      let gone (t : State) : State :=
        { t.access c with
          cs := c.loaded ((g.gateSel &&& 0xFFFC) ||| s.cpl.setWidth 16), ip := g.gateOffset, dec := {} }
      let called : State :=
        { (s.writePhys16 (s.stackAddr (-2)) s.cs.sel).writePhys16 (s.stackAddr (-4)) s.nextIp with
          regs := { s.regs with sp := s.regs.sp - 4 } }
      (∀ i, s.farForm .jmp off sel i →
        ((c.isConforming = true ∧ (arDpl c.ar).toNat ≤ s.cpl.toNat ∨ c.isConforming = false ∧ arDpl c.ar = s.cpl) →
          arPresent c.ar = true → g.gateOffset.toNat ≤ c.limit.toNat → Does i s (gone s) [c.addr + 5]) ∧
        ((c.isConforming = false ∧ arDpl c.ar ≠ s.cpl ∨ s.cpl.toNat < (arDpl c.ar).toNat) →
          exec i s = s.exception 13 (some (g.gateSel &&& 0xFFFC)))) ∧
      (∀ i, s.farForm .call off sel i →
        (c.isConforming = true ∧ (arDpl c.ar).toNat ≤ s.cpl.toNat ∨ c.isConforming = false ∧ arDpl c.ar = s.cpl) →
          arPresent c.ar = true → g.gateOffset.toNat ≤ c.limit.toNat → s.canPush 2 = true →
          Does i s (gone called) ((c.addr + 5) :: s.pushCells 2)))

/-- CALL through a call gate to an inner level, when every test passes: SS:SP come from the current TSS, the caller's
SS:SP, the gate's count of parameter words, CS and the offset of the next instruction are pushed there, and CPL
becomes the DPL of the segment called. Far RET back to an outer level, when every test passes: CS, and SS:SP from
beyond the parameters, which are released on both stacks; DS and ES are made null where they name a segment that the
outer level may not use. A far RET to any level one of whose tests fails comes to what the first of them raises:
#SS(0) where the words cannot be read, #GP of the selector for an RPL inside CPL or a bad CS or SS selector, #NP or
#SS for one not present, #GP(0) for an offset above the limit (R474, R477, R489, R492). The model's own choices in it:
notes 14, 28, 32 and 52. -/
def Obligations.CallGateToInnerLevel : Prop :=
  (∀ (s : State) (off sel : Word) (g c d : Desc) (ps : List Word), s.prot = true →
      let l := arDpl c.ar
      let nsp := (s.reading .innerStack).readPhys16 (s.tr.base + BitVec.ofNat 24 (4 * l.toNat + 2))
      let nss := (s.reading .innerStack).readPhys16 (s.tr.base + BitVec.ofNat 24 (4 * l.toNat + 4))
      let words := [s.ss.sel, s.regs.sp] ++ ps.reverse ++ [s.cs.sel, s.nextIp]
      4 ≤ sel.toNat → s.desc? sel = some g → arIsType g.ar 4 = true → s.mayUse sel g = true → arPresent g.ar = true →
      4 ≤ g.gateSel.toNat → (s.reading .target).desc? g.gateSel = some c → c.isCode = true → c.isConforming = false →
      l.toNat < s.cpl.toNat → arPresent c.ar = true →
      s.tr.valid = true → 4 * l.toNat + 5 ≤ s.tr.limit.toNat →
      4 ≤ nss.toNat → (s.reading .stackSeg).desc? nss = some d → rplOf nss = l → arDpl d.ar = l → d.isWritableData = true →
      arPresent d.ar = true →
      (∀ k < words.length, (d.loaded nss).inLimit (nsp - BitVec.ofNat 16 (2 * (k + 1))) 2 = true) →
      g.gateOffset.toNat ≤ c.limit.toNat →
      ps.length = g.wordCount →
      (∀ k < g.wordCount, s.canRead .ss (s.regs.sp + BitVec.ofNat 16 (2 * k)) 2 = true ∧
        ps[k]? = some ((s.reading .parameters).readPhys16 (s.stackAddr (BitVec.ofNat 16 (2 * k))))) →
      let a := (s.access d).access c
      let t := { a.pushList (d.loaded nss) nsp words with
        regs := { s.regs with sp := nsp - BitVec.ofNat 16 (2 * words.length) }
        ss := d.loaded nss
        cs := c.loaded ((g.gateSel &&& 0xFFFC) ||| l.setWidth 16)
        ip := g.gateOffset
        dec := {} }
      ∀ i, s.farForm .call off sel i →
        Does i s t ([d.addr + 5, c.addr + 5] ++ (d.loaded nss).pushCells nsp words.length)) ∧
  (∀ (s : State) (c d : Desc) (n : Word), s.prot = true →
      let w (k : Word) : Word := s.readPhys16 (s.stackAddr k)
      let o (k : Word) : Word := (s.reading .outerStack).readPhys16 (s.stackAddr k)
      let l := rplOf (w 2)
      s.cpl.toNat < l.toNat →
      (∀ k < 8 + n.toNat, s.canRead .ss (s.regs.sp + BitVec.ofNat 16 k) 1 = true) →
      (∀ k ∈ [0, 2, 4 + n, 6 + n], s.canRead .ss (s.regs.sp + k) 2 = true) →
      4 ≤ (w 2).toNat → (s.reading .target).desc? (w 2) = some c → c.isCode = true →
      (c.isConforming = true ∧ (arDpl c.ar).toNat ≤ l.toNat ∨ c.isConforming = false ∧ arDpl c.ar = l) →
      arPresent c.ar = true → (w 0).toNat ≤ c.limit.toNat →
      4 ≤ (o (6 + n)).toNat → (s.reading .stackSeg).desc? (o (6 + n)) = some d → rplOf (o (6 + n)) = l →
      arDpl d.ar = l → d.isWritableData = true → arPresent d.ar = true →
      let t := { (s.access c).access d with
        regs := { s.regs with sp := o (4 + n) + n }
        cs := c.loaded (w 2)
        ss := d.loaded (o (6 + n))
        ds := s.outward l s.ds
        es := s.outward l s.es
        ip := w 0
        dec := {} }
      Does (.retFarDw n) s t [c.addr + 5, d.addr + 5] ∧ (n = 0 → Does .retFar s t [c.addr + 5, d.addr + 5])) ∧
  (∀ s : State, s.prot = true →
      s.Tests .retFar (s.retFarTests 0) ∧ ∀ n, s.Tests (.retFarDw n) (s.retFarTests n))

/-- A far transfer outside the privilege rules is #GP(selector): to a null selector (code 0), outside its table, to a
non-conforming segment of another level, to a conforming one of less privilege; one that is not present is #NP. A far
JMP or CALL one of whose tests fails comes to what the first of them raises: those on a code segment and the offset in
it, #GP(0) above its limit; those on a call gate, the segment it names, the inner stack (#TS, #SS) and the parameters;
those on a task gate and the TSS it names; those on a TSS descriptor (R472-R479). The model's own choices in it: notes
13, 14, 28, 32 and 52. -/
def Obligations.FarTransferExceptions : Prop :=
  ∀ (s : State) (off sel : Word), s.prot = true →
    let ec := sel &&& 0xFFFC
    let both (vec : Byte) (code : Word) : Prop :=
      ∀ kind i, s.farForm kind off sel i → exec i s = s.exception vec (some code)
    (∀ kind i, s.farTo kind off sel i → s.Tests i (s.farTests kind off sel)) ∧
    (sel.toNat < 4 → both 13 0) ∧
    (4 ≤ sel.toNat → s.desc? sel = none → both 13 ec) ∧
    (∀ d, 4 ≤ sel.toNat → s.desc? sel = some d → d.isCode = true →
      (d.isConforming = false → ((rplOf sel).toNat > s.cpl.toNat ∨ arDpl d.ar ≠ s.cpl) → both 13 ec) ∧
      (d.isConforming = true → (arDpl d.ar).toNat > s.cpl.toNat → both 13 ec) ∧
      (d.isConforming = false → (rplOf sel).toNat ≤ s.cpl.toNat → arDpl d.ar = s.cpl → arPresent d.ar = false →
        both 11 ec) ∧
      (d.isConforming = true → (arDpl d.ar).toNat ≤ s.cpl.toNat → arPresent d.ar = false → both 11 ec)) ∧
    (∀ d, 4 ≤ sel.toNat → s.desc? sel = some d → d.isCode = false →
      (∀ k ∈ [1, 3, 4, 5], arIsType d.ar k = false) → both 13 ec)

/-! Interrupts -/

/-- INT n, INT 3, INTO and IRET in real mode; IRET leaves IOPL and NT as they are there (D10) and unmasks NMI. Every
exception in real mode that can be entered is: no error code is pushed, the saved offset is that of the instruction's
first byte (R495-R497, R500, R820, R830). The model's own choices in it: notes 15, 17 and 36. -/
def Obligations.RealModeInterrupts : Prop :=
  (∀ s : State, s.prot = false →
      (∀ n, s.canEnterReal n = true → Does (.intDb n) s (s.realEntry n s.nextIp) (s.pushCells 3)) ∧
      (s.canEnterReal 3 = true → Does .int3 s (s.realEntry 3 s.nextIp) (s.pushCells 3)) ∧
      (s.flags.of = true → s.canEnterReal 4 = true → Does .into s (s.realEntry 4 s.nextIp) (s.pushCells 3)) ∧
      (s.flags.of = false → Does .into s s.advance []) ∧
      (s.canRead .ss s.regs.sp 2 = true → s.canRead .ss (s.regs.sp + 2) 2 = true →
        s.canRead .ss (s.regs.sp + 4) 2 = true →
        let f := Flags.ofWord (s.readPhys16 (s.stackAddr 4))
        let fl := { f with iopl := s.flags.iopl, nt := s.flags.nt }
        let t := { s with
          regs := { s.regs with sp := s.regs.sp + 6 }
          cs := s.cs.real (s.readPhys16 (s.stackAddr 2))
          ip := s.readPhys16 (s.stackAddr 0)
          flags := fl
          nmiInService := false
          dec := {} }
        Does .iret s t [])) ∧
  (∀ (s : State) (vec : Byte) (code : Option Word), s.canEnterReal vec = true →
      s.exception vec code = .next (s.realEntry vec s.ip))

/-- In real mode IRET undoes the entry of an interrupt or exception: registers, flags, CS:IP come back, whatever it
was, if CS held a real-mode base (R500, R830). The model's own choices in it: notes 17 and 36. -/
def Obligations.IretUndoesRealModeEntry : Prop :=
  ∀ (s t : State) (e : Event), s.prot = false → s.ram (s.pushCells 3) → s.cs = s.cs.real s.cs.sel →
    s.enter e = .ok t →
    ∃ u, exec .iret t = .next u ∧ u.regs = s.regs ∧ u.flags = s.flags ∧ u.cs = s.cs ∧ u.ip = e.ret ∧
      ∀ a, a ∉ s.pushCells 3 → u.readPhys a = s.readPhys a

/-- Entry through an interrupt or trap gate to a handler at the same level, in protected mode, when every test passes:
FLAGS, CS, the return offset and the error code pushed, CS loaded from the gate's selector with CPL as its RPL, IF
cleared by an interrupt gate only, TF and NT cleared. A delivery to the same level or to a task gate one of whose
tests fails comes to what the first of them raises, its EXT bit as R806 says: #GP(8 vec + 2) beyond the IDT's limit,
for no gate and for INT at a level outside the gate's DPL, #NP of a gate or segment not present, #GP of a bad code
selector, #SS without room. In either mode INT n, INT 3 and INTO with OF set deliver a software interrupt that returns
behind them, an exception that an instruction raises is delivered with the instruction's own offset, and INTO with OF
clear only advances (R495-R497, R806, R820, R840, R844, R845). The model's own choices in it: notes 15, 28, 36 and 52.
-/
def Obligations.ProtectedEntrySameLevel : Prop :=
  (∀ (s : State) (e : Event) (c : Desc), s.prot = true →
      let a1 := s.attempt 1
      let g := a1.descAt (s.idtr.base + BitVec.ofNat 24 (8 * e.vec.toNat))
      let n := if e.code = none then 3 else 4
      8 * e.vec.toNat + 7 ≤ s.idtr.limit.toNat →
      (arIsType g.ar 6 = true ∨ arIsType g.ar 7 = true) →
      (e.kind = .sw → s.cpl.toNat ≤ (arDpl g.ar).toNat) →
      arPresent g.ar = true → 4 ≤ g.gateSel.toNat → (a1.reading .target).desc? g.gateSel = some c → c.isCode = true →
      (c.isConforming = true ∧ (arDpl c.ar).toNat ≤ s.cpl.toNat ∨ arDpl c.ar = s.cpl) →
      arPresent c.ar = true → s.canPush n = true → g.gateOffset.toNat ≤ c.limit.toNat →
      let a := ((s.writePhys16 (s.stackAddr (-2)) s.flags.toWord).writePhys16 (s.stackAddr (-4)) s.cs.sel).writePhys16
        (s.stackAddr (-6)) e.ret
      let b := a.access c
      let m := match e.code with
        | none => b
        | some k => b.writePhys16 (s.stackAddr (-8)) k
      s.Takes e { m with
        regs := { s.regs with sp := s.regs.sp - BitVec.ofNat 16 (2 * n) }
        cs := c.loaded ((g.gateSel &&& 0xFFFC) ||| s.cpl.setWidth 16)
        ip := g.gateOffset
        flags := { s.flags with ie := if arIsType g.ar 6 then false else s.flags.ie, tf := false, nt := false }
        dec := {} }) ∧
  (∀ (s : State) (e : Event) (n : Nat) (stop : Stop), s.prot = true →
      let a := s.attempt n
      a.goesInside e = false → firstFailing (a.entryTests e) = some stop → a.enter e = .error stop) ∧
  (∀ s : State,
      let sw (vec : Byte) : Event := { vec, kind := .sw, ret := s.nextIp, code := none }
      (∀ n, exec (.intDb n) s = s.delivered (sw n)) ∧ exec .int3 s = s.delivered (sw 3) ∧
      (s.flags.of = true → exec .into s = s.delivered (sw 4)) ∧ (s.flags.of = false → Does .into s s.advance []) ∧
      ∀ vec code, s.exception vec code = s.delivered { vec, kind := .exc, ret := s.ip, code })

/-- Entry through an interrupt or trap gate to a handler at an inner level, when every test passes: SS:SP come from
the current TSS, the old SS:SP are pushed there before FLAGS, CS, the return offset and the error code, and CPL
becomes the DPL of the handler's segment; INT n, INT 3, INTO and the exceptions of instructions make such entries too.
A delivery to an inner level one of whose tests fails comes to what the first of them raises, with the EXT bit: those
on the gate and its segment, #TS for a bad stack selector of the TSS, #SS for one not present or without room, #GP for
the offset (R806, R820, R840, R844, R845). The model's own choices in it: notes 14, 15, 28, 36 and 52. -/
def Obligations.ProtectedEntryInnerLevel : Prop :=
  (∀ (s : State) (e : Event) (c d : Desc), s.prot = true →
      let a1 := s.attempt 1
      let g := a1.descAt (s.idtr.base + BitVec.ofNat 24 (8 * e.vec.toNat))
      let l := arDpl c.ar
      let nsp := (a1.reading .innerStack).readPhys16 (s.tr.base + BitVec.ofNat 24 (4 * l.toNat + 2))
      let nss := (a1.reading .innerStack).readPhys16 (s.tr.base + BitVec.ofNat 24 (4 * l.toNat + 4))
      let words := [s.ss.sel, s.regs.sp, s.flags.toWord, s.cs.sel, e.ret] ++ e.code.toList
      8 * e.vec.toNat + 7 ≤ s.idtr.limit.toNat →
      (arIsType g.ar 6 = true ∨ arIsType g.ar 7 = true) →
      (e.kind = .sw → s.cpl.toNat ≤ (arDpl g.ar).toNat) →
      arPresent g.ar = true → 4 ≤ g.gateSel.toNat → (a1.reading .target).desc? g.gateSel = some c → c.isCode = true →
      c.isConforming = false → l.toNat < s.cpl.toNat → arPresent c.ar = true →
      s.tr.valid = true → 4 * l.toNat + 5 ≤ s.tr.limit.toNat →
      4 ≤ nss.toNat → (a1.reading .stackSeg).desc? nss = some d → rplOf nss = l → arDpl d.ar = l → d.isWritableData = true →
      arPresent d.ar = true →
      (∀ k < words.length, (d.loaded nss).inLimit (nsp - BitVec.ofNat 16 (2 * (k + 1))) 2 = true) →
      g.gateOffset.toNat ≤ c.limit.toNat →
      let a := (s.access d).access c
      s.Takes e { a.pushList (d.loaded nss) nsp words with
        regs := { s.regs with sp := nsp - BitVec.ofNat 16 (2 * words.length) }
        ss := d.loaded nss
        cs := c.loaded ((g.gateSel &&& 0xFFFC) ||| l.setWidth 16)
        ip := g.gateOffset
        flags := { s.flags with ie := if arIsType g.ar 6 then false else s.flags.ie, tf := false, nt := false }
        dec := {} }) ∧
  (∀ (s : State) (e : Event) (n : Nat) (stop : Stop), s.prot = true →
      let a := s.attempt n
      a.goesInside e = true → firstFailing (a.entryTests e) = some stop → a.enter e = .error stop)

/-- A delivery that raises an exception, in the state it leaves: a contributory exception is followed by a double
fault; an event that is not contributory by the exception raised, and by a double fault when that one is not delivered
either; the exception raised in real mode by a vector outside the IDT is itself the double fault. A double fault whose
delivery fails is shutdown, in which nothing else of the failed delivery shows. INT n, INT 3, INTO and the exceptions
of instructions end so too (R832, R845, R880, R905). The model's own choices in it: notes 36 and 52. -/
def Obligations.DoubleFaultAndShutdown : Prop :=
  ∀ (s : State) (e : Event) (v : Byte) (c : Option Word) (left : Option State),
    (s.attempt 1).enter e = .error (.exc v c left) →
    let u := left.getD s
    let down (t : State) : State := { t with runState := .shutdown, dec := {}, use := s.use }
    let double (t : State) : Prop :=
      let df : Event := { vec := 8, kind := .exc, ret := t.ip, code := some 0 }
      (∀ r, (t.attempt 3).enter df = .ok r → s.Takes e { r with use := s.use }) ∧
      (∀ v' c' left', (t.attempt 3).enter df = .error (.exc v' c' left') → s.Takes e (down (left'.getD t)))
    (e.kind = .exc → e.vec = 8 → s.Takes e (down u)) ∧
    (e.kind = .exc → e.vec ∈ [0, 10, 11, 12, 13] → double u) ∧
    ((e.kind ≠ .exc ∨ e.vec ∉ [0, 8, 10, 11, 12, 13]) →
      let second : Event := { vec := v, kind := .exc, ret := u.ip, code := c }
      (v = 8 → double u) ∧
      (v ≠ 8 →
        (∀ r, (u.attempt 2).enter second = .ok r → s.Takes e { r with use := s.use }) ∧
        ∀ v' c' left', (u.attempt 2).enter second = .error (.exc v' c' left') → double (left'.getD u)))

/-- IRET to the same level in protected mode, NT clear, when every test passes: FLAGS by the privilege rule, CS from
the descriptor, the Accessed bit written under bus LOCK, NMI unmasked. To an outer level also SS:SP come from the
stack, and DS and ES are made null where they name a segment that the outer level may not use; IOPL and IF are
restored by the privilege of the level left. An IRET one of whose tests fails comes to what the first of them raises:
#SS(0) where the words cannot be read, #GP of the selector for an RPL inside CPL or a bad CS or SS selector, #NP or
#SS for one not present, #GP(0) for an offset above the limit (R492, R500-R502). The model's own choices in it: notes
15, 28, 32 and 52. -/
def Obligations.ProtectedIretSameLevel : Prop :=
  (∀ (s : State) (c : Desc), s.prot = true → s.flags.nt = false →
      s.canRead .ss s.regs.sp 2 = true → s.canRead .ss (s.regs.sp + 2) 2 = true →
      s.canRead .ss (s.regs.sp + 4) 2 = true →
      let off := s.readPhys16 (s.stackAddr 0)
      let sel := s.readPhys16 (s.stackAddr 2)
      let f := Flags.ofWord (s.readPhys16 (s.stackAddr 4))
      4 ≤ sel.toNat → (s.reading .target).desc? sel = some c → c.isCode = true → rplOf sel = s.cpl →
      (c.isConforming = true ∧ (arDpl c.ar).toNat ≤ s.cpl.toNat ∨ c.isConforming = false ∧ arDpl c.ar = s.cpl) →
      arPresent c.ar = true → off.toNat ≤ c.limit.toNat →
      Does .iret s
        { s.access c with
          regs := { s.regs with sp := s.regs.sp + 6 }
          cs := c.loaded sel
          ip := off
          flags := { f with
            ie := if s.cpl.toNat ≤ s.flags.iopl.toNat then f.ie else s.flags.ie
            iopl := if s.cpl = 0 then f.iopl else s.flags.iopl }
          nmiInService := false
          dec := {} } [c.addr + 5]) ∧
  (∀ (s : State) (c d : Desc), s.prot = true → s.flags.nt = false →
      let w (k : Word) : Word := s.readPhys16 (s.stackAddr k)
      let l := rplOf (w 2)
      let f := Flags.ofWord (w 4)
      s.cpl.toNat < l.toNat → (∀ k ∈ [0, 2, 4, 6, 8], s.canRead .ss (s.regs.sp + k) 2 = true) →
      4 ≤ (w 2).toNat → (s.reading .target).desc? (w 2) = some c → c.isCode = true →
      (c.isConforming = true ∧ (arDpl c.ar).toNat ≤ l.toNat ∨ c.isConforming = false ∧ arDpl c.ar = l) →
      arPresent c.ar = true → (w 0).toNat ≤ c.limit.toNat →
      4 ≤ (w 8).toNat → (s.reading .stackSeg).desc? (w 8) = some d → rplOf (w 8) = l →
      arDpl d.ar = l → d.isWritableData = true → arPresent d.ar = true →
      Does .iret s
        { (s.access c).access d with
          regs := { s.regs with sp := w 6 }
          cs := c.loaded (w 2)
          ss := d.loaded (w 8)
          ds := s.outward l s.ds
          es := s.outward l s.es
          ip := w 0
          flags := { f with
            ie := if s.cpl.toNat ≤ s.flags.iopl.toNat then f.ie else s.flags.ie
            iopl := if s.cpl = 0 then f.iopl else s.flags.iopl }
          nmiInService := false
          dec := {} } [c.addr + 5, d.addr + 5]) ∧
  (∀ s : State, s.prot = true → s.flags.nt = false → s.Tests .iret s.iretTests)

/-- What a completed task switch leaves: the new TSS is marked busy under bus LOCK; the return offset, FLAGS, with NT
cleared for IRET, and every register are saved in the old TSS; the old TSS is linked to by the new one when nesting
and marked available otherwise; TR names the new TSS, TS is set, every register and the offset come from the new TSS,
NT says whether the task was nested, and nothing else of memory changes but the Accessed bits of the segments loaded.
A switch one of whose tests fails raises what the first of them says, from the state reached: #TS for a TSS too short,
a bad LDT or a bad SS, CS, DS or ES, #SS or #NP for a segment not present; otherwise it completes with LDT, SS, CS, DS
and ES loaded in that order, and the instruction or delivery that made it comes to the same. JMP and CALL to an
available TSS or to a task gate that names one make that switch, CALL with nesting, and so does IRET with NT set to
the busy TSS that the back link names, which also unmasks NMI; a back link that names no busy TSS is #TS, one not
present #NP; a new offset outside the new code segment is #GP(0) in the new task. An interrupt or exception whose IDT
entry is a task gate that passes every test makes the nesting switch, with the event's return offset saved and its
error code pushed on the stack of the new task, #SS where there is no room for it (R478, R479, R503, R710, R713, R720,
R722). The model's own choices in it: notes 14, 15, 28, 35, 36 and 52. -/
def Obligations.TaskSwitchLoadsTheTask : Prop :=
  (∀ (s t : State) (nsel : Word) (nd : Desc) (nesting : Bool) (cause : SwitchCause) (ip ext : Word),
      let m := s.outgoing nd nesting cause ip
      let w (k : PAddr) : Word := (m.reading .task).readPhys16 (nd.base + k)
      let tests := s.switchTests nsel nd nesting cause ip ext
      (∀ e, firstFailing tests = some e → s.switchTasks nsel nd nesting cause ip ext = .error e) ∧
      (firstFailing tests = none →
        s.switchTasks nsel nd nesting cause ip ext = .ok (m.incoming nsel nd nesting cause).taskLoaded) ∧
      (s.switchTasks nsel nd nesting cause ip ext = .ok t →
        t.tr = { sel := nsel, base := nd.base, limit := nd.limit, valid := true } ∧ t.msw = { s.msw with ts := true } ∧
        t.regs = { ax := w 18, cx := w 20, dx := w 22, bx := w 24, sp := w 26, bp := w 28, si := w 30, di := w 32 } ∧
        t.ip = w 14 ∧ t.cs.sel = w 36 ∧ t.ss.sel = w 38 ∧ t.ds.sel = w 40 ∧ t.es.sel = w 34 ∧ t.ldtr.sel = w 42 ∧
        t.cs.valid = true ∧ t.ss.valid = true ∧
        t.flags = { Flags.ofWord (w 16) with
          nt := if nesting then true else if cause = .jmp then false else (Flags.ofWord (w 16)).nt } ∧
        t.gdtr = s.gdtr ∧ t.idtr = s.idtr ∧
        ∀ a, a ∉ ([t.ss, t.cs, t.ds, t.es].filter (·.valid)).map (fun x => t.accessCell x.sel) →
          t.readPhys a = m.readPhys a)) ∧
  (∀ (s n : State) (off sel : Word) (d td : Desc) (tsel : Word), s.prot = true → 4 ≤ sel.toNat → s.desc? sel = some d →
      s.mayUse sel d = true → arPresent d.ar = true → tsel.getLsbD 2 = false → arIsType td.ar 1 = true →
      (arIsType d.ar 1 = true ∧ tsel = sel ∧ td = d ∨
        arIsType d.ar 5 = true ∧ tsel = d.gateSel ∧ tsel.toNat / 8 * 8 + 7 ≤ s.gdtr.limit.toNat ∧
          arPresent td.ar = true ∧
          td = (s.reading .target).descAt (s.gdtr.base + BitVec.ofNat 24 (tsel.toNat / 8 * 8))) →
      (∀ i, s.farForm .jmp off sel i →
        (∀ e, s.switchTasks tsel td false .jmp s.nextIp 0 = .error e → exec i s = s.stopped e) ∧
        (s.switchTasks tsel td false .jmp s.nextIp 0 = .ok n →
          (n.ip.toNat ≤ n.cs.limit.toNat → exec i s = .next n) ∧
          (n.cs.limit.toNat < n.ip.toNat → exec i s = n.exception 13 (some 0)))) ∧
      (∀ i, s.farForm .call off sel i →
        (∀ e, s.switchTasks tsel td true .call s.nextIp 0 = .error e → exec i s = s.stopped e) ∧
        (s.switchTasks tsel td true .call s.nextIp 0 = .ok n →
          (n.ip.toNat ≤ n.cs.limit.toNat → exec i s = .next n) ∧
          (n.cs.limit.toNat < n.ip.toNat → exec i s = n.exception 13 (some 0))))) ∧
  (∀ s : State, s.prot = true → s.flags.nt = true →
      let bl := (s.reading .backLink).readPhys16 s.tr.base
      let ec := bl &&& 0xFFFC
      let d := (s.reading .target).descAt (s.gdtr.base + BitVec.ofNat 24 (bl.toNat / 8 * 8))
      ((bl.getLsbD 2 = true ∨ s.gdtr.limit.toNat < bl.toNat / 8 * 8 + 7 ∨ arIsType d.ar 3 = false) →
        exec .iret s = s.exception 10 (some ec)) ∧
      (bl.getLsbD 2 = false → bl.toNat / 8 * 8 + 7 ≤ s.gdtr.limit.toNat → arIsType d.ar 3 = true →
        (arPresent d.ar = false → exec .iret s = s.exception 11 (some ec)) ∧
        (∀ e, arPresent d.ar = true → s.switchTasks bl d false .iret s.nextIp 0 = .error e → exec .iret s = s.stopped e) ∧
        ∀ n, arPresent d.ar = true → s.switchTasks bl d false .iret s.nextIp 0 = .ok n →
          (n.ip.toNat ≤ n.cs.limit.toNat → exec .iret s = .next { n with nmiInService := false }) ∧
          (n.cs.limit.toNat < n.ip.toNat → exec .iret s = n.exception 13 (some 0)))) ∧
  (∀ (s n : State) (e : Event) (td : Desc), s.prot = true →
      let a1 := s.attempt 1
      let g := a1.descAt (s.idtr.base + BitVec.ofNat 24 (8 * e.vec.toNat))
      let x : Word := if e.kind = .ext ∨ e.kind = .exc ∧ (e.vec = 7 ∨ e.vec = 16) then 1 else 0
      8 * e.vec.toNat + 7 ≤ s.idtr.limit.toNat → arIsType g.ar 5 = true →
      (e.kind = .sw → s.cpl.toNat ≤ (arDpl g.ar).toNat) → arPresent g.ar = true →
      g.gateSel.getLsbD 2 = false → g.gateSel.toNat / 8 * 8 + 7 ≤ s.gdtr.limit.toNat →
      td = (a1.reading .target).descAt (s.gdtr.base + BitVec.ofNat 24 (g.gateSel.toNat / 8 * 8)) →
      arIsType td.ar 1 = true → arPresent td.ar = true →
      (∀ stop, a1.switchTasks g.gateSel td true .int e.ret x = .error stop → a1.enter e = .error stop) ∧
      (a1.switchTasks g.gateSel td true .int e.ret x = .ok n →
        let fails (vec : Byte) (u : State) : Prop := a1.enter e = .error (.exc vec (some x) (some u))
        (e.code = none →
          (n.ip.toNat ≤ n.cs.limit.toNat → s.Takes e { n with use := s.use }) ∧
          (n.cs.limit.toNat < n.ip.toNat → fails 13 n)) ∧
        (∀ c, e.code = some c →
          (n.canWrite .ss (n.regs.sp - 2) 2 = false → fails 12 n) ∧
          (n.canWrite .ss (n.regs.sp - 2) 2 = true →
            let p := { n.writePhys16 (n.stackAddr (-2)) c with regs := { n.regs with sp := n.regs.sp - 2 } }
            (n.ip.toNat ≤ n.cs.limit.toNat → s.Takes e { p with use := s.use }) ∧
            (n.cs.limit.toNat < n.ip.toNat → fails 13 p)))))

/-! Strings and input/output -/

/-- MOVS, LODS, STOS, CMPS and SCAS without a repeat prefix: the source element through the override or DS, the
destination through ES, SI and DI stepped by the element's size up or down as DF says (R550, R560-R564). The model's
own choices in it: note 25. -/
def Obligations.StringPrimitives : Prop :=
  ∀ s : State, s.dec.rep = none →
    let x := s.override .ds
    let src := (s.seg x).lin s.regs.si
    let dst := s.es.lin s.regs.di
    let by_ (n : Word) : Word := if s.flags.df then -n else n
    let si' (n : Word) : Regs := { s.regs with si := s.regs.si + by_ n }
    let di' (n : Word) : Regs := { s.regs with di := s.regs.di + by_ n }
    let both (n : Word) : Regs := { s.regs with si := s.regs.si + by_ n, di := s.regs.di + by_ n }
    (s.canRead x s.regs.si 1 = true → s.canWrite .es s.regs.di 1 = true →
      Does .movsb s { s.writePhys dst (s.readPhys src) with regs := both 1 }.advance [dst]) ∧
    (s.canRead x s.regs.si 2 = true → s.canWrite .es s.regs.di 2 = true →
      Does .movsw s { s.writePhys16 dst (s.readPhys16 src) with regs := both 2 }.advance (wordCells dst)) ∧
    (s.canRead x s.regs.si 1 = true → s.canRead .es s.regs.di 1 = true →
      Does .cmpsb s { s with
        regs := both 1
        flags := (s.flags.difference (s.readPhys src) ((s.reading .second).readPhys dst) false).2 }.advance []) ∧
    (s.canRead x s.regs.si 2 = true → s.canRead .es s.regs.di 2 = true →
      Does .cmpsw s { s with
        regs := both 2
        flags := (s.flags.difference (s.readPhys16 src) ((s.reading .second).readPhys16 dst) false).2 }.advance []) ∧
    (s.canRead .es s.regs.di 1 = true →
      Does .scasb s { s with
        regs := di' 1
        flags := (s.flags.difference (s.get8 .al) (s.readPhys dst) false).2 }.advance []) ∧
    (s.canRead .es s.regs.di 2 = true →
      Does .scasw s { s with
        regs := di' 2
        flags := (s.flags.difference s.regs.ax (s.readPhys16 dst) false).2 }.advance []) ∧
    (s.canRead x s.regs.si 1 = true →
      Does .lodsb s ({ s with regs := si' 1 }.set8 .al (s.readPhys src)).advance []) ∧
    (s.canRead x s.regs.si 2 = true →
      Does .lodsw s { s with regs := { si' 2 with ax := s.readPhys16 src } }.advance []) ∧
    (s.canWrite .es s.regs.di 1 = true →
      Does .stosb s { s.writePhys dst (s.get8 .al) with regs := di' 1 }.advance [dst]) ∧
    (s.canWrite .es s.regs.di 2 = true →
      Does .stosw s { s.writePhys16 dst s.regs.ax with regs := di' 2 }.advance (wordCells dst))

/-- A repeated string instruction: with CX zero nothing is done; otherwise one element is processed as without the
prefix, CX counts down with no flag touched, and IP stays at the instruction, to be executed again, unless CX has come
to zero or, for CMPS and SCAS, ZF ends it. F2H before a string instruction that compares nothing is refused: it has no
row (R551-R553, D16). The model's own choices in it: notes 12 and 21. -/
def Obligations.RepeatedStrings : Prop :=
  (∀ (s : State), ∀ p ∈ s.stringElements,
      let compares := p.1 ∈ [Instr.cmpsb, .cmpsw, .scasb, .scasw]
      (s.dec.rep = some .rep ∨ (s.dec.rep = some .repne ∧ compares)) →
      (s.regs.cx = 0 → Does p.1 s s.advance []) ∧
      (s.regs.cx ≠ 0 → p.2 = true →
        ∃ t, exec p.1 { s with dec := { s.dec with rep := none } } = .next t ∧
          let u := { t with regs := { t.regs with cx := s.regs.cx - 1 } }
          let ends := s.regs.cx = 1 ∨ (compares ∧
            (s.dec.rep = some .rep ∧ t.flags.zf = false ∨ s.dec.rep = some .repne ∧ t.flags.zf = true))
          (ends → exec p.1 s = .next u) ∧
          (¬ends → exec p.1 s = .next { u with ip := s.ip, dec := { phase := .repeating } }))) ∧
  (∀ s : State, s.dec.rep = some .repne →
      ∀ i ∈ [Instr.movsb, .movsw, .lodsb, .lodsw, .stosb, .stosw, .insb, .insw, .outsb, .outsw],
        exec i s = .refused .repneNotListed)

/-- IN, OUT, INS and OUTS with the privilege to use ports: the port is the immediate byte or DX, a word's second byte
is at the next port, modulo 2^16; the host supplies the bytes read and receives those written (R170, R171, R565, R566,
R570, R571, D18). The model's own choices in it: notes 10, 26, 33 and 44. -/
def Obligations.PortInstructions : Prop :=
  (∀ s : State, (s.prot = true → s.cpl.toNat ≤ s.flags.iopl.toNat) →
      let dx := s.regs.dx
      let out8 (p : Word) : State := { s with hostOut := .port p (s.get8 .al) :: s.hostOut }.advance
      let out16 (p : Word) : State :=
        { s with hostOut := .port (p + 1) (s.get8 .ah) :: .port p (s.get8 .al) :: s.hostOut }.advance
      (∀ n : Byte, let p : Word := BitVec.ofNat 16 n.toNat
        Does (.inAlDb n) s (s.set8 .al (Config.portByte s.free 0 p)).advance [] ∧
        Does (.inAxDb n) s (s.set16 .ax (Config.portByte s.free 1 (p + 1) ++ Config.portByte s.free 0 p)).advance [] ∧
        Does (.outDbAl n) s (out8 p) [] ∧ Does (.outDbAx n) s (out16 p) []) ∧
      Does .inAlDx s (s.set8 .al (Config.portByte s.free 0 dx)).advance [] ∧
      Does .inAxDx s (s.set16 .ax (Config.portByte s.free 1 (dx + 1) ++ Config.portByte s.free 0 dx)).advance [] ∧
      Does .outDxAl s (out8 dx) [] ∧ Does .outDxAx s (out16 dx) []) ∧
  (∀ s : State, s.dec.rep = none → (s.prot = true → s.cpl.toNat ≤ s.flags.iopl.toNat) →
      let x := s.override .ds
      let src := (s.seg x).lin s.regs.si
      let dst := s.es.lin s.regs.di
      let by_ (n : Word) : Word := if s.flags.df then -n else n
      let si' (n : Word) : Regs := { s.regs with si := s.regs.si + by_ n }
      let di' (n : Word) : Regs := { s.regs with di := s.regs.di + by_ n }
      (s.canWrite .es s.regs.di 1 = true →
        Does .insb s { s.writePhys dst (Config.portByte s.free 0 s.regs.dx) with regs := di' 1 }.advance [dst]) ∧
      (s.canWrite .es s.regs.di 2 = true →
        let v := Config.portByte s.free 1 (s.regs.dx + 1) ++ Config.portByte s.free 0 s.regs.dx
        Does .insw s { s.writePhys16 dst v with regs := di' 2 }.advance (wordCells dst)) ∧
      (s.canRead x s.regs.si 1 = true →
        Does .outsb s { s with
          regs := si' 1
          hostOut := .port s.regs.dx (s.readPhys src) :: s.hostOut }.advance []) ∧
      (s.canRead x s.regs.si 2 = true →
        Does .outsw s { s with
          regs := si' 2
          hostOut := .port (s.regs.dx + 1) (s.readPhys16 src).hi :: .port s.regs.dx (s.readPhys16 src).lo ::
            s.hostOut }.advance []))

/-! Flags, processor control, frames -/

/-- CLC, STC and CMC: F8H, F9H and F5H clear, set and reverse CF, and nothing else but IP changes (R601-R603). -/
def Obligations.CarryFlagInstructions : Prop :=
  decode [0xF8] = .ok (.clc, []) ∧ decode [0xF9] = .ok (.stc, []) ∧ decode [0xF5] = .ok (.cmc, []) ∧
  ∀ s : State,
    let carry (c : Bool) : State := { s with flags := { s.flags with cf := c }, ip := s.nextIp, dec := {} }
    Does .clc s (carry false) [] ∧ Does .stc s (carry true) [] ∧ Does .cmc s (carry !s.flags.cf) []

/-- CLD, STD and NOP complete at any privilege, CLI and STI where IOPL allows them, HLT at level 0 (R604-R607, R609,
R610). -/
def Obligations.FlagAndProcessorControl : Prop :=
  ∀ s : State,
    let fl (f : Flags) : State := { s with flags := f }.advance
    Does .cld s (fl { s.flags with df := false }) [] ∧
    Does .std s (fl { s.flags with df := true }) [] ∧
    Does .nop s { s with ip := s.nextIp, dec := {} } [] ∧
    ((s.prot = true → s.cpl.toNat ≤ s.flags.iopl.toNat) →
      Does .cli s (fl { s.flags with ie := false }) [] ∧ Does .sti s (fl { s.flags with ie := true }) []) ∧
    (s.cpl = 0 → Does .hlt s { s.advance with runState := .halted } [])

/-- ENTER that passes its checks: BP is saved, a display of LEVEL-1 older frame pointers and the new one follow, BP
points at the saved BP and SP is SIZE below the display; outside the words pushed memory is unchanged. LEAVE: SP from
BP and BP popped; after an ENTER it gives BP and SP back (R651, R653). The model's own choices in it: note 34. -/
def Obligations.EnterAndLeave : Prop :=
  (∀ (s : State) (size : Word) (level : Byte),
      let l := level.toNat % 32
      let n := if l = 0 then 1 else l + 1
      let frame := s.regs.sp - 2
      let sp := s.regs.sp - BitVec.ofNat 16 (2 * n) - size
      s.canPush n = true →
      (∀ k, 1 ≤ k → k < l → s.canRead .ss (s.regs.bp - BitVec.ofNat 16 (2 * k)) 2 = true) →
      (s.prot = true → s.ss.inLimit sp 1 = true) →
      s.ram (s.pushCells n) →
      ∃ t, Does (.enterDwDb size level) s t (s.pushCells n) ∧
        { t with mem := s.mem } = { s with regs := { s.regs with bp := frame, sp := sp } }.advance ∧
        t.readPhys16 (s.ss.lin frame) = s.regs.bp ∧
        (0 < l → t.readPhys16 (s.ss.lin (s.regs.sp - BitVec.ofNat 16 (2 * n))) = frame) ∧
        ((∀ k, 1 ≤ k → k < l → ∀ a ∈ wordCells (s.ss.lin (s.regs.bp - BitVec.ofNat 16 (2 * k))), a ∉ s.pushCells n) →
          ∀ k, 1 ≤ k → k < l →
            t.readPhys16 (s.ss.lin (frame - BitVec.ofNat 16 (2 * k))) =
              s.readPhys16 (s.ss.lin (s.regs.bp - BitVec.ofNat 16 (2 * k))))) ∧
  ((∀ s : State, s.canRead .ss s.regs.bp 2 = true →
      Does .leave s
        { s with regs := { s.regs with sp := s.regs.bp + 2, bp := s.readPhys16 (s.ss.lin s.regs.bp) } }.advance []) ∧
    (∀ (s t : State) (size : Word) (level : Byte),
      let l := level.toNat % 32
      let n := if l = 0 then 1 else l + 1
      s.canPush n = true →
      (∀ k, 1 ≤ k → k < l → s.canRead .ss (s.regs.bp - BitVec.ofNat 16 (2 * k)) 2 = true) →
      (s.prot = true → s.ss.inLimit (s.regs.sp - BitVec.ofNat 16 (2 * n) - size) 1 = true) →
      s.ram (s.pushCells n) → exec (.enterDwDb size level) s = .next t →
      ∃ u, exec .leave t = .next u ∧ u.regs = s.regs ∧ u.ip = t.ip))

/-- BOUND, 62H /r: within the signed bounds, both included, nothing happens; outside them interrupt 5 is raised at the
instruction. A register where the bounds should be is #UD; bounds that cannot be read are #SS(0) through SS and #GP(0)
otherwise, interrupt 13 in real mode, before anything is compared (R654). -/
def Obligations.BoundChecksBothLimits : Prop :=
  (∀ r e, encode (.boundRwMd r e) = 0x62 :: encE16 r.code e) ∧
  (∀ (s : State) (r q : Reg16), exec (.boundRwMd r (.reg q)) s = s.exception 6 none) ∧
  (∀ (s : State) (r : Reg16) (m : Mem), s.canReadMem m 4 = false →
      exec (.boundRwMd r (.mem m)) s =
        s.exception (if s.prot = true ∧ s.eaSeg m = .ss then 12 else 13) (some 0)) ∧
  ∀ (s : State) (r : Reg16) (m : Mem), s.canReadMem m 4 = true →
    let low := (s.readPhys16 (s.addr m)).toInt
    let high := (s.readPhys16 (s.addr m + 2)).toInt
    let v := (s.get16 r).toInt
    (low ≤ v → v ≤ high → Does (.boundRwMd r (.mem m)) s s.advance []) ∧
    ((v < low ∨ high < v) → exec (.boundRwMd r (.mem m)) s = s.exception 5 none)

/-! The system instructions -/

/-- LGDT and LIDT at level 0 or in real mode load limit and base from the six bytes, the last ignored; SGDT and SIDT
store them at any level, the last byte free (R671-R675, D35). The model's own choices in it: note 35. -/
def Obligations.DescriptorTableRegisters : Prop :=
  ∀ (s : State) (m : Mem),
    let a := s.addr m
    (s.cpl = 0 → s.canReadMem m 6 = true →
      let t : TableReg := { limit := s.readPhys16 a, base := s.readPhys (a + 4) ++ s.readPhys16 (a + 2) }
      Does (.lgdtM (.mem m)) s { s with gdtr := t }.advance [] ∧
      Does (.lidtM (.mem m)) s { s with idtr := t }.advance []) ∧
    (s.canWrite (s.eaSeg m) (s.eaOff m) 6 = true →
      let cells := [a, a + 1, a + 2, a + 3, a + 4, a + 5]
      let stored (r : TableReg) (pad : Byte) : State :=
        ((((s.writePhys16 a r.limit).writePhys16 (a + 2) (BitVec.ofNat 16 r.base.toNat)).writePhys (a + 4)
          (BitVec.ofNat 8 (r.base.toNat / 2 ^ 16))).writePhys (a + 5) pad).advance
      (∃ pad, Does (.sgdtM (.mem m)) s (stored s.gdtr pad) cells) ∧
      (∃ pad, Does (.sidtM (.mem m)) s (stored s.idtr pad) cells))

/-- LLDT and LTR in protected mode at level 0 with a good selector, under bus LOCK; a null one makes the LDT invalid;
LTR marks its TSS busy. A selector with TI set, outside the GDT or of another type is #GP of the selector, one not
present #NP (R125, R670, R676, R678, R805). The model's own choices in it: notes 28, 35, 45 and 52. -/
def Obligations.SystemSegmentLoads : Prop :=
  ∀ (s : State) (e : E16), s.prot = true → s.cpl = 0 → s.canReadE16 e = true →
    let v := s.val16 e
    let a := s.gdtr.base + BitVec.ofNat 24 (v.toNat / 8 * 8)
    let d := s.descAt a
    let loaded : SysReg := { sel := v, base := d.base, limit := d.limit, valid := true }
    (v.toNat < 4 → Does (.lldtEw e) s { s with ldtr := { s.ldtr with sel := v, valid := false } }.advance []) ∧
    (v.getLsbD 2 = false → v.toNat / 8 * 8 + 7 ≤ s.gdtr.limit.toNat → arPresent d.ar = true →
      (4 ≤ v.toNat → arIsType d.ar 2 = true → Does (.lldtEw e) s { s.underLock with ldtr := loaded }.advance []) ∧
      (arIsType d.ar 1 = true →
        Does (.ltrEw e) s { s.underLock.writePhys (a + 5) (d.ar ||| 2) with tr := loaded }.advance [a + 5])) ∧
    (4 ≤ v.toNat → s.Tests (.lldtEw e) (s.systemTests 2 v 0)) ∧ s.Tests (.ltrEw e) (s.systemTests 1 v 0)

/-- SMSW, and in protected mode SLDT and STR, store; LMSW and CLTS change the machine status word: LMSW sets PE and
never clears it, bits 15-4 read as ones (R66-R71, R677, R679-R682). The model's own choices in it: note 16. -/
def Obligations.StatusWordAndSelectors : Prop :=
  ∀ s : State,
    (∀ e, s.canWriteE16 e = true →
      Does (.smswEw e) s
        (s.put16 e (BitVec.ofNat 16 (0xFFF0 + 8 * s.msw.ts.toNat + 4 * s.msw.em.toNat + 2 * s.msw.mp.toNat
          + s.msw.pe.toNat))).advance (s.cells16 e) ∧
      (s.prot = true →
        Does (.sldtEw e) s (s.put16 e s.ldtr.sel).advance (s.cells16 e) ∧
        Does (.strEw e) s (s.put16 e s.tr.sel).advance (s.cells16 e))) ∧
    (s.cpl = 0 →
      (∀ e, s.canReadE16 e = true →
        let v := s.val16 e
        Does (.lmswEw e) s
          { s with msw := { pe := s.msw.pe || v.getLsbD 0, mp := v.getLsbD 1, em := v.getLsbD 2,
                            ts := v.getLsbD 3 } }.advance []) ∧
      Does .clts s { s with msw := { s.msw with ts := false } }.advance []) ∧
    (s.cpl ≠ 0 → exec .clts s = s.exception 13 (some 0)) ∧ encode .clts = [0x0F, 0x06]

/-- ARPL, LAR, LSL, VERR and VERW in protected mode. ARPL: the destination's RPL is raised to the source's and ZF set,
or only ZF cleared. The others: a selector that is null, outside its table, of a wrong type or not visible at this
privilege only clears ZF; otherwise ZF is set, a segment's Accessed bit written under bus LOCK, and LAR and LSL load
their register (R689-R694). The model's own choices in it: notes 28, 35 and 52. -/
def Obligations.SelectorInstructions : Prop :=
  (∀ (s : State) (e : E16) (r : Reg16), s.prot = true → s.canReadE16 e = true →
      let d := (s.val16 e).toNat
      let p := (s.get16 r).toNat % 4
      (d % 4 < p → s.canWriteE16 e = true →
        Does (.arplEwRw e r) s
          { s.put16 e (BitVec.ofNat 16 (d - d % 4 + p)) with flags := { s.flags with zf := true } }.advance (s.cells16 e)) ∧
      (p ≤ d % 4 → Does (.arplEwRw e r) s { s with flags := { s.flags with zf := false } }.advance [])) ∧
  (∀ (s : State) (e : E16) (r : Reg16), s.prot = true → s.canReadE16 e = true →
      let v := s.val16 e
      let fails (i : Instr) : Prop := Does i s { s with flags := { s.flags with zf := false } }.advance []
      let marked (d : Desc) : State :=
        { (if arSegment d.ar = true then s.access d else s) with flags := { s.flags with zf := true } }
      let seen (d : Desc) : Prop := d.isConforming = true ∨ s.mayUse v d = true
      ((v.toNat < 4 ∨ s.desc? v = none) →
        fails (.larRwEw r e) ∧ fails (.lslRwEw r e) ∧ fails (.verrEw e) ∧ fails (.verwEw e)) ∧
      (∀ d, 4 ≤ v.toNat → s.desc? v = some d →
        (¬seen d → fails (.larRwEw r e) ∧ fails (.lslRwEw r e) ∧ fails (.verrEw e) ∧ fails (.verwEw e)) ∧
        (d.hasLimit = false → fails (.lslRwEw r e)) ∧
        (d.isDataOrReadable = false → fails (.verrEw e)) ∧
        (d.isWritableData = false → fails (.verwEw e)) ∧
        (seen d →
          Does (.larRwEw r e) s ((marked d).set16 r (BitVec.ofNat 16 (256 * d.ar.toNat))).advance [d.addr + 5] ∧
          (d.hasLimit = true → Does (.lslRwEw r e) s ((marked d).set16 r d.limit).advance [d.addr + 5]) ∧
          (d.isDataOrReadable = true → Does (.verrEw e) s (marked d).advance [d.addr + 5]) ∧
          (d.isWritableData = true → Does (.verwEw e) s (marked d).advance [d.addr + 5]))))

/-- The privileged instructions outside level 0 are #GP(0) before their operand is looked at; those not recognized in
real mode are #UD there; a register where memory is required is #UD in either mode and at any level; with CPL above
IOPL every instruction that uses ports, CLI, STI and LOCK are #GP(0), nothing read, written or sent (R171, R227, R261,
R551, R565-R571, R606-R608, R670, D20). The model's own choices in it: note 29. -/
def Obligations.PrivilegeExceptions : Prop :=
  (∀ s : State, s.prot = true → s.cpl ≠ 0 →
      exec .hlt s = s.exception 13 (some 0) ∧ exec .clts s = s.exception 13 (some 0) ∧
      (∀ m, exec (.lgdtM (.mem m)) s = s.exception 13 (some 0) ∧ exec (.lidtM (.mem m)) s = s.exception 13 (some 0)) ∧
      (∀ e, exec (.lldtEw e) s = s.exception 13 (some 0) ∧ exec (.ltrEw e) s = s.exception 13 (some 0) ∧
        exec (.lmswEw e) s = s.exception 13 (some 0))) ∧
  (∀ (s : State) (e : E16) (r : Reg16), s.prot = false →
      ∀ i ∈ [Instr.sldtEw e, .strEw e, .lldtEw e, .ltrEw e, .verrEw e, .verwEw e, .arplEwRw e r, .larRwEw r e,
        .lslRwEw r e], exec i s = s.exception 6 none) ∧
  (∀ (s : State) (q r : Reg16),
      ∀ i ∈ [Instr.boundRwMd q (.reg r), .leaRwM q (.reg r), .lesRwEd q (.reg r), .ldsRwEd q (.reg r),
        .callEd (.reg r), .jmpEd (.reg r), .sgdtM (.reg r), .sidtM (.reg r), .lgdtM (.reg r), .lidtM (.reg r)],
        exec i s = s.exception 6 none) ∧
  (∀ s : State, s.prot = true → s.flags.iopl.toNat < s.cpl.toNat →
      (∀ i ∈ [Instr.inAlDx, .inAxDx, .outDxAl, .outDxAx, .cli, .sti, .prefixLock], exec i s = s.exception 13 (some 0)) ∧
      (∀ n, ∀ i ∈ [Instr.inAlDb n, .inAxDb n, .outDbAl n, .outDbAx n], exec i s = s.exception 13 (some 0)) ∧
      (∀ i ∈ [Instr.insb, .insw, .outsb, .outsw], s.dec.rep = none ∨ (s.dec.rep = some .rep ∧ s.regs.cx ≠ 0) →
        exec i s = s.exception 13 (some 0)))

/-! The processor extension -/

/-- WAIT and ESC when nothing hinders them: WAIT only advances; ESC checks its memory operand's first word, is handed
to the processor extension with its opcode and ModRM bytes and that operand's segment register and offset, gives the
operand to the data channel, and leaves AX to the extension in the one form that answers there. ESC is interrupt 7
when EM or TS is set, WAIT when MP and TS are; an error of the processor extension is interrupt 16 at an ESC that
tests it, and at a WAIT unless EM is set. While the extension is busy both stay at their first byte, to be executed
again. The forms that neither test an error nor wait complete whatever the extension signals. The data channel moves a
word for a busy extension to or from the operand, each within the segment's limit as it was at the ESC; a word outside
is not moved, the overrun is requested, and the extension stays busy, whatever it does and whichever other ESC
follows, until FNINIT, which makes the channel idle. What the extension does changes no register of the 80286, and
memory only in the operand of a storing ESC, from its offset upward. With no extension attached there is no busy, no
error and no overrun (R750-R756). The model's own choices in it: notes 9, 23, 24, 48 and 49. -/
def Obligations.WaitAndEsc : Prop :=
  (∀ s : State, s.busy = false → (s.msw.mp = false ∨ s.msw.ts = false) → (s.msw.em = true ∨ s.mathError = false) →
      Does .wait s s.advance []) ∧
  (∀ s : State, s.msw.em = false → s.msw.ts = false → ∀ x y,
      let free (e : E16) : Prop := escNoWait x y e = true ∨ s.busy = false ∧ s.mathError = false
      (∀ op modrm rest m, free (.mem m) → encode (.esc x y (.mem m)) = op :: modrm :: rest →
        (s.canWrite (s.eaSeg m) (s.eaOff m) 2 = true ∨
          s.canRead (s.eaSeg m) (s.eaOff m) 2 = true ∧ escWrites x y = false) →
        let g := s.seg (s.eaSeg m)
        Does (.esc x y (.mem m)) s
          { s with
            hostOut := .esc op modrm (some (g, s.eaOff m)) :: s.hostOut
            channel := if s.npxPresent = true ∧ s.channel ≠ Channel.overrun then
                .moving { seg := g, prot := s.prot, next := (s.eaOff m).toNat, store := escWrites x y }
              else s.channel }.advance []) ∧
      (∀ op modrm rest (r : Reg16), free (.reg r) → encode (.esc x y (.reg r)) = op :: modrm :: rest →
        let t := { s with
          hostOut := .esc op modrm none :: s.hostOut
          channel := if x = 3 ∧ y = 4 ∧ r = Reg16.bx then .idle else s.channel }
        ((x, y, r) ≠ (7, 4, .ax) → Does (.esc x y (.reg r)) s t.advance []) ∧
        ((x, y, r) = (7, 4, .ax) →
          Does (.esc x y (.reg r)) s (t.set16 .ax (Config.freeWord s.free .npxStatus)).advance [])) ∧
      (∀ m, free (.mem m) → s.canRead (s.eaSeg m) (s.eaOff m) 2 = false →
        exec (.esc x y (.mem m)) s = s.badReference (s.eaSeg m)) ∧
      (∀ m, free (.mem m) → escWrites x y = true → s.canWrite (s.eaSeg m) (s.eaOff m) 2 = false →
        exec (.esc x y (.mem m)) s = s.badReference (s.eaSeg m))) ∧
  (∀ s t : State,
      (s.msw.em = false → s.msw.ts = false → exec (.esc 3 4 (.reg .bx)) s = .next t →
        t.channel = .idle ∧ t.busy = (s.npxBusy && s.npxPresent)) ∧
      (∀ x y e, (x, y, e) ≠ (3, 4, .reg .bx) → s.channel = .overrun → exec (.esc x y e) s = .next t →
        t.channel = .overrun)) ∧
  (∀ s : State,
      ((s.msw.em = true ∨ s.msw.ts = true) → ∀ x y e, exec (.esc x y e) s = s.exception 7 none) ∧
      (s.msw.mp = true → s.msw.ts = true → exec .wait s = s.exception 7 none) ∧
      (s.msw.em = false → s.msw.ts = false → s.mathError = true →
        (∀ x y e, escNoWait x y e = false → exec (.esc x y e) s = s.exception 16 none) ∧
        (s.busy = false → exec .wait s = s.exception 16 none))) ∧
  (∀ s : State, s.busy = true → s.msw.ts = false → s.msw.em = false → s.mathError = false →
      exec .wait s = .next { s with dec := { phase := .waiting } } ∧
      ∀ x y e, escNoWait x y e = false → exec (.esc x y e) s = .next { s with dec := { phase := .waiting } }) ∧
  (∀ (s : State) (p : Transfer), s.channel = .moving p → s.busy = true →
      let a := p.seg.lin (BitVec.ofNat 16 p.next)
      let inside := p.next + 1 ≤ 0xFFFF ∧ (p.prot = true → p.seg.inLimit (BitVec.ofNat 16 p.next) 2 = true)
      let on := Channel.moving { p with next := p.next + 2 }
      let lost := { s with channel := .overrun, overrunReq := true }
      (p.store = true → s.npxAct .read = s ∧ ∀ v,
        (inside → s.npxAct (.write v) = { s.writePhys16 a v with channel := on, free := s.free + 1 }) ∧
        (¬inside → s.npxAct (.write v) = lost)) ∧
      (p.store = false → (∀ v, s.npxAct (.write v) = s) ∧
        (inside → s.npxAct .read =
          { s with hostOut := .npxWord (s.readPhys16 a) :: s.hostOut, channel := on, free := s.free + 1 }) ∧
        (¬inside → s.npxAct .read = lost))) ∧
  (∀ s : State,
      let t := s.npxStep
      { t with npxBusy := s.npxBusy, npxError := s.npxError, npxIn := s.npxIn, channel := s.channel, mem := s.mem,
               hostOut := s.hostOut, free := s.free, overrunReq := s.overrunReq } = s ∧
      (s.channel = .overrun → s.npxPresent = true → t.busy = true ∧ t.channel = .overrun ∧ t.mem = s.mem) ∧
      (∀ a : PAddr, (∀ p, s.channel = .moving p → p.store = true →
          ∀ k, p.next ≤ k → k ≤ 0xFFFF → a ≠ p.seg.lin (BitVec.ofNat 16 k)) →
        Memory.read t.mem a.toNat = Memory.read s.mem a.toNat) ∧
      (s.npxPresent = false → t = { s with npxIn := [] } ∧ s.busy = false ∧ s.mathError = false ∧
        s.overrunDue = false))

/-! Prefixes and encodings that are no instruction -/

/-- A prefix changes nothing but what is remembered for the instruction behind it; the last of several segment
overrides or repeats counts; LOCK where IOPL allows it. Behind LOCK, bus LOCK is asserted for MOVS, INS and OUTS, for
a MOV with a memory operand as the configuration has it, and for nothing else by the prefix (R125, R224-R227, R608,
C45). The model's own choices in it: notes 18, 19, 42, 44 and 52. -/
def Obligations.PrefixesAreRemembered : Prop :=
  (∀ s : State,
      let seg (x : SReg) : State := { s with dec := { s.dec with seg := some x, phase := .prefixed } }
      Does .prefixEs s (seg .es) [] ∧ Does .prefixCs s (seg .cs) [] ∧ Does .prefixSs s (seg .ss) [] ∧
      Does .prefixDs s (seg .ds) [] ∧
      Does .prefixRep s { s with dec := { s.dec with rep := some .rep, phase := .prefixed } } [] ∧
      Does .prefixRepne s { s with dec := { s.dec with rep := some .repne, phase := .prefixed } } [] ∧
      ((s.prot = true → s.cpl.toNat ≤ s.flags.iopl.toNat) →
        Does .prefixLock s { s with dec := { s.dec with lock := true, phase := .prefixed } } [])) ∧
  (∀ (s : State) (i : Instr) (rest : List Byte) (n : Nat), decode s.code = .ok (i, rest) →
      let u := s.decoded (s.code.length - rest.length)
      let runs (v : State) : Prop :=
        State.elements (n + 1) s =
          match exec i v with
          | .next t => if t.dec.phase = .prefixed then State.elements n t else .next t
          | .fault f => .fault f
          | .refused q => .refused q
      (s.dec.lock = false → runs u) ∧
      (s.dec.lock = true →
        (i ∈ lockedByPrefix → runs u.underLock) ∧
        (movOfMemory i → runs (if Config.lockHeldForMov = true then u.underLock else u)) ∧
        (i ∉ lockedByPrefix → ¬movOfMemory i → runs u)))

/-- The undefined encodings: #UD in either mode, exception 13 for the undefined fields of POP MEM and PUSH MEM and for
the escape byte with nothing behind it; the encodings on which a model must refuse to step (R152, R252, R260, R263,
R264). The model's own choices in it: notes 11, 15, 19 and 36. -/
def Obligations.EncodingsWithoutInstruction : Prop :=
  (∀ s : State,
      (∀ i, (i ∈ undefinedRows ∨ ∃ b, i = .undef0Fxx b) →
        exec i s = s.exception 6 none ∧
        (s.canEnterReal 6 = true → Does i s (s.realEntry 6 s.ip) (s.pushCells 3))) ∧
      (∀ i, (i ∈ undefinedStackRows ∨ i = .twoByteEscape) →
        exec i s = s.exception 13 (some 0) ∧
        (s.canEnterReal 13 = true → Does i s (s.realEntry 13 s.ip) (s.pushCells 3)))) ∧
  (∀ s : State,
      (∀ i ∈ unlistedRows, exec i s = .refused .unlistedEncoding) ∧
      ∀ b, exec (.unlistedD4xx b) s = .refused .unlistedEncoding ∧
        exec (.unlistedD5xx b) s = .refused .unlistedEncoding)
end

