-- ==== Sys2Proof/Laws/State.lean ====
section
/-!
SUPPORT. What each update of the state leaves in each field: one lemma per field per update, true by `rfl`.
-/

namespace Sys2Proof.Machine

variable (s : State)

@[simp] theorem State.setFlags_regs (f : Flags) : (s.setFlags f).regs = s.regs := rfl
@[simp] theorem State.setFlags_ip (f : Flags) : (s.setFlags f).ip = s.ip := rfl
@[simp] theorem State.setFlags_flags (f : Flags) : (s.setFlags f).flags = f := rfl
@[simp] theorem State.setFlags_es (f : Flags) : (s.setFlags f).es = s.es := rfl
@[simp] theorem State.setFlags_cs (f : Flags) : (s.setFlags f).cs = s.cs := rfl
@[simp] theorem State.setFlags_ss (f : Flags) : (s.setFlags f).ss = s.ss := rfl
@[simp] theorem State.setFlags_ds (f : Flags) : (s.setFlags f).ds = s.ds := rfl
@[simp] theorem State.setFlags_gdtr (f : Flags) : (s.setFlags f).gdtr = s.gdtr := rfl
@[simp] theorem State.setFlags_idtr (f : Flags) : (s.setFlags f).idtr = s.idtr := rfl
@[simp] theorem State.setFlags_ldtr (f : Flags) : (s.setFlags f).ldtr = s.ldtr := rfl
@[simp] theorem State.setFlags_tr (f : Flags) : (s.setFlags f).tr = s.tr := rfl
@[simp] theorem State.setFlags_msw (f : Flags) : (s.setFlags f).msw = s.msw := rfl
@[simp] theorem State.setFlags_runState (f : Flags) : (s.setFlags f).runState = s.runState := rfl
@[simp] theorem State.setFlags_inhibit (f : Flags) : (s.setFlags f).inhibit = s.inhibit := rfl
@[simp] theorem State.setFlags_nmiInService (f : Flags) : (s.setFlags f).nmiInService = s.nmiInService := rfl
@[simp] theorem State.setFlags_nmiPending (f : Flags) : (s.setFlags f).nmiPending = s.nmiPending := rfl
@[simp] theorem State.setFlags_trapPending (f : Flags) : (s.setFlags f).trapPending = s.trapPending := rfl
@[simp] theorem State.setFlags_overrunReq (f : Flags) : (s.setFlags f).overrunReq = s.overrunReq := rfl
@[simp] theorem State.setFlags_intr (f : Flags) : (s.setFlags f).intr = s.intr := rfl
@[simp] theorem State.setFlags_resetReq (f : Flags) : (s.setFlags f).resetReq = s.resetReq := rfl
@[simp] theorem State.setFlags_npxPresent (f : Flags) : (s.setFlags f).npxPresent = s.npxPresent := rfl
@[simp] theorem State.setFlags_npxBusy (f : Flags) : (s.setFlags f).npxBusy = s.npxBusy := rfl
@[simp] theorem State.setFlags_npxError (f : Flags) : (s.setFlags f).npxError = s.npxError := rfl
@[simp] theorem State.setFlags_npxIn (f : Flags) : (s.setFlags f).npxIn = s.npxIn := rfl
@[simp] theorem State.setFlags_channel (f : Flags) : (s.setFlags f).channel = s.channel := rfl
@[simp] theorem State.setFlags_mem (f : Flags) : (s.setFlags f).mem = s.mem := rfl
@[simp] theorem State.setFlags_memMap (f : Flags) : (s.setFlags f).memMap = s.memMap := rfl
@[simp] theorem State.setFlags_hostOut (f : Flags) : (s.setFlags f).hostOut = s.hostOut := rfl
@[simp] theorem State.setFlags_free (f : Flags) : (s.setFlags f).free = s.free := rfl
@[simp] theorem State.setFlags_use (f : Flags) : (s.setFlags f).use = s.use := rfl
@[simp] theorem State.setFlags_dec (f : Flags) : (s.setFlags f).dec = s.dec := rfl

@[simp] theorem State.set16_regs (r : Reg16) (v : Word) : (s.set16 r v).regs = s.regs.set r v := rfl
@[simp] theorem State.set16_ip (r : Reg16) (v : Word) : (s.set16 r v).ip = s.ip := rfl
@[simp] theorem State.set16_flags (r : Reg16) (v : Word) : (s.set16 r v).flags = s.flags := rfl
@[simp] theorem State.set16_es (r : Reg16) (v : Word) : (s.set16 r v).es = s.es := rfl
@[simp] theorem State.set16_cs (r : Reg16) (v : Word) : (s.set16 r v).cs = s.cs := rfl
@[simp] theorem State.set16_ss (r : Reg16) (v : Word) : (s.set16 r v).ss = s.ss := rfl
@[simp] theorem State.set16_ds (r : Reg16) (v : Word) : (s.set16 r v).ds = s.ds := rfl
@[simp] theorem State.set16_gdtr (r : Reg16) (v : Word) : (s.set16 r v).gdtr = s.gdtr := rfl
@[simp] theorem State.set16_idtr (r : Reg16) (v : Word) : (s.set16 r v).idtr = s.idtr := rfl
@[simp] theorem State.set16_ldtr (r : Reg16) (v : Word) : (s.set16 r v).ldtr = s.ldtr := rfl
@[simp] theorem State.set16_tr (r : Reg16) (v : Word) : (s.set16 r v).tr = s.tr := rfl
@[simp] theorem State.set16_msw (r : Reg16) (v : Word) : (s.set16 r v).msw = s.msw := rfl
@[simp] theorem State.set16_runState (r : Reg16) (v : Word) : (s.set16 r v).runState = s.runState := rfl
@[simp] theorem State.set16_inhibit (r : Reg16) (v : Word) : (s.set16 r v).inhibit = s.inhibit := rfl
@[simp] theorem State.set16_nmiInService (r : Reg16) (v : Word) : (s.set16 r v).nmiInService = s.nmiInService := rfl
@[simp] theorem State.set16_nmiPending (r : Reg16) (v : Word) : (s.set16 r v).nmiPending = s.nmiPending := rfl
@[simp] theorem State.set16_trapPending (r : Reg16) (v : Word) : (s.set16 r v).trapPending = s.trapPending := rfl
@[simp] theorem State.set16_overrunReq (r : Reg16) (v : Word) : (s.set16 r v).overrunReq = s.overrunReq := rfl
@[simp] theorem State.set16_intr (r : Reg16) (v : Word) : (s.set16 r v).intr = s.intr := rfl
@[simp] theorem State.set16_resetReq (r : Reg16) (v : Word) : (s.set16 r v).resetReq = s.resetReq := rfl
@[simp] theorem State.set16_npxPresent (r : Reg16) (v : Word) : (s.set16 r v).npxPresent = s.npxPresent := rfl
@[simp] theorem State.set16_npxBusy (r : Reg16) (v : Word) : (s.set16 r v).npxBusy = s.npxBusy := rfl
@[simp] theorem State.set16_npxError (r : Reg16) (v : Word) : (s.set16 r v).npxError = s.npxError := rfl
@[simp] theorem State.set16_npxIn (r : Reg16) (v : Word) : (s.set16 r v).npxIn = s.npxIn := rfl
@[simp] theorem State.set16_channel (r : Reg16) (v : Word) : (s.set16 r v).channel = s.channel := rfl
@[simp] theorem State.set16_mem (r : Reg16) (v : Word) : (s.set16 r v).mem = s.mem := rfl
@[simp] theorem State.set16_memMap (r : Reg16) (v : Word) : (s.set16 r v).memMap = s.memMap := rfl
@[simp] theorem State.set16_hostOut (r : Reg16) (v : Word) : (s.set16 r v).hostOut = s.hostOut := rfl
@[simp] theorem State.set16_free (r : Reg16) (v : Word) : (s.set16 r v).free = s.free := rfl
@[simp] theorem State.set16_use (r : Reg16) (v : Word) : (s.set16 r v).use = s.use := rfl
@[simp] theorem State.set16_dec (r : Reg16) (v : Word) : (s.set16 r v).dec = s.dec := rfl

@[simp] theorem State.set8_regs (r : Reg8) (v : Byte) : (s.set8 r v).regs = s.regs.set8 r v := rfl
@[simp] theorem State.set8_ip (r : Reg8) (v : Byte) : (s.set8 r v).ip = s.ip := rfl
@[simp] theorem State.set8_flags (r : Reg8) (v : Byte) : (s.set8 r v).flags = s.flags := rfl
@[simp] theorem State.set8_es (r : Reg8) (v : Byte) : (s.set8 r v).es = s.es := rfl
@[simp] theorem State.set8_cs (r : Reg8) (v : Byte) : (s.set8 r v).cs = s.cs := rfl
@[simp] theorem State.set8_ss (r : Reg8) (v : Byte) : (s.set8 r v).ss = s.ss := rfl
@[simp] theorem State.set8_ds (r : Reg8) (v : Byte) : (s.set8 r v).ds = s.ds := rfl
@[simp] theorem State.set8_gdtr (r : Reg8) (v : Byte) : (s.set8 r v).gdtr = s.gdtr := rfl
@[simp] theorem State.set8_idtr (r : Reg8) (v : Byte) : (s.set8 r v).idtr = s.idtr := rfl
@[simp] theorem State.set8_ldtr (r : Reg8) (v : Byte) : (s.set8 r v).ldtr = s.ldtr := rfl
@[simp] theorem State.set8_tr (r : Reg8) (v : Byte) : (s.set8 r v).tr = s.tr := rfl
@[simp] theorem State.set8_msw (r : Reg8) (v : Byte) : (s.set8 r v).msw = s.msw := rfl
@[simp] theorem State.set8_runState (r : Reg8) (v : Byte) : (s.set8 r v).runState = s.runState := rfl
@[simp] theorem State.set8_inhibit (r : Reg8) (v : Byte) : (s.set8 r v).inhibit = s.inhibit := rfl
@[simp] theorem State.set8_nmiInService (r : Reg8) (v : Byte) : (s.set8 r v).nmiInService = s.nmiInService := rfl
@[simp] theorem State.set8_nmiPending (r : Reg8) (v : Byte) : (s.set8 r v).nmiPending = s.nmiPending := rfl
@[simp] theorem State.set8_trapPending (r : Reg8) (v : Byte) : (s.set8 r v).trapPending = s.trapPending := rfl
@[simp] theorem State.set8_overrunReq (r : Reg8) (v : Byte) : (s.set8 r v).overrunReq = s.overrunReq := rfl
@[simp] theorem State.set8_intr (r : Reg8) (v : Byte) : (s.set8 r v).intr = s.intr := rfl
@[simp] theorem State.set8_resetReq (r : Reg8) (v : Byte) : (s.set8 r v).resetReq = s.resetReq := rfl
@[simp] theorem State.set8_npxPresent (r : Reg8) (v : Byte) : (s.set8 r v).npxPresent = s.npxPresent := rfl
@[simp] theorem State.set8_npxBusy (r : Reg8) (v : Byte) : (s.set8 r v).npxBusy = s.npxBusy := rfl
@[simp] theorem State.set8_npxError (r : Reg8) (v : Byte) : (s.set8 r v).npxError = s.npxError := rfl
@[simp] theorem State.set8_npxIn (r : Reg8) (v : Byte) : (s.set8 r v).npxIn = s.npxIn := rfl
@[simp] theorem State.set8_channel (r : Reg8) (v : Byte) : (s.set8 r v).channel = s.channel := rfl
@[simp] theorem State.set8_mem (r : Reg8) (v : Byte) : (s.set8 r v).mem = s.mem := rfl
@[simp] theorem State.set8_memMap (r : Reg8) (v : Byte) : (s.set8 r v).memMap = s.memMap := rfl
@[simp] theorem State.set8_hostOut (r : Reg8) (v : Byte) : (s.set8 r v).hostOut = s.hostOut := rfl
@[simp] theorem State.set8_free (r : Reg8) (v : Byte) : (s.set8 r v).free = s.free := rfl
@[simp] theorem State.set8_use (r : Reg8) (v : Byte) : (s.set8 r v).use = s.use := rfl
@[simp] theorem State.set8_dec (r : Reg8) (v : Byte) : (s.set8 r v).dec = s.dec := rfl

@[simp] theorem State.setSp_regs (v : Word) : (s.setSp v).regs = { s.regs with sp := v } := rfl
@[simp] theorem State.setSp_ip (v : Word) : (s.setSp v).ip = s.ip := rfl
@[simp] theorem State.setSp_flags (v : Word) : (s.setSp v).flags = s.flags := rfl
@[simp] theorem State.setSp_es (v : Word) : (s.setSp v).es = s.es := rfl
@[simp] theorem State.setSp_cs (v : Word) : (s.setSp v).cs = s.cs := rfl
@[simp] theorem State.setSp_ss (v : Word) : (s.setSp v).ss = s.ss := rfl
@[simp] theorem State.setSp_ds (v : Word) : (s.setSp v).ds = s.ds := rfl
@[simp] theorem State.setSp_gdtr (v : Word) : (s.setSp v).gdtr = s.gdtr := rfl
@[simp] theorem State.setSp_idtr (v : Word) : (s.setSp v).idtr = s.idtr := rfl
@[simp] theorem State.setSp_ldtr (v : Word) : (s.setSp v).ldtr = s.ldtr := rfl
@[simp] theorem State.setSp_tr (v : Word) : (s.setSp v).tr = s.tr := rfl
@[simp] theorem State.setSp_msw (v : Word) : (s.setSp v).msw = s.msw := rfl
@[simp] theorem State.setSp_runState (v : Word) : (s.setSp v).runState = s.runState := rfl
@[simp] theorem State.setSp_inhibit (v : Word) : (s.setSp v).inhibit = s.inhibit := rfl
@[simp] theorem State.setSp_nmiInService (v : Word) : (s.setSp v).nmiInService = s.nmiInService := rfl
@[simp] theorem State.setSp_nmiPending (v : Word) : (s.setSp v).nmiPending = s.nmiPending := rfl
@[simp] theorem State.setSp_trapPending (v : Word) : (s.setSp v).trapPending = s.trapPending := rfl
@[simp] theorem State.setSp_overrunReq (v : Word) : (s.setSp v).overrunReq = s.overrunReq := rfl
@[simp] theorem State.setSp_intr (v : Word) : (s.setSp v).intr = s.intr := rfl
@[simp] theorem State.setSp_resetReq (v : Word) : (s.setSp v).resetReq = s.resetReq := rfl
@[simp] theorem State.setSp_npxPresent (v : Word) : (s.setSp v).npxPresent = s.npxPresent := rfl
@[simp] theorem State.setSp_npxBusy (v : Word) : (s.setSp v).npxBusy = s.npxBusy := rfl
@[simp] theorem State.setSp_npxError (v : Word) : (s.setSp v).npxError = s.npxError := rfl
@[simp] theorem State.setSp_npxIn (v : Word) : (s.setSp v).npxIn = s.npxIn := rfl
@[simp] theorem State.setSp_channel (v : Word) : (s.setSp v).channel = s.channel := rfl
@[simp] theorem State.setSp_mem (v : Word) : (s.setSp v).mem = s.mem := rfl
@[simp] theorem State.setSp_memMap (v : Word) : (s.setSp v).memMap = s.memMap := rfl
@[simp] theorem State.setSp_hostOut (v : Word) : (s.setSp v).hostOut = s.hostOut := rfl
@[simp] theorem State.setSp_free (v : Word) : (s.setSp v).free = s.free := rfl
@[simp] theorem State.setSp_use (v : Word) : (s.setSp v).use = s.use := rfl
@[simp] theorem State.setSp_dec (v : Word) : (s.setSp v).dec = s.dec := rfl

@[simp] theorem State.goto_regs (v : Word) : (s.goto v).regs = s.regs := rfl
@[simp] theorem State.goto_ip (v : Word) : (s.goto v).ip = v := rfl
@[simp] theorem State.goto_flags (v : Word) : (s.goto v).flags = s.flags := rfl
@[simp] theorem State.goto_es (v : Word) : (s.goto v).es = s.es := rfl
@[simp] theorem State.goto_cs (v : Word) : (s.goto v).cs = s.cs := rfl
@[simp] theorem State.goto_ss (v : Word) : (s.goto v).ss = s.ss := rfl
@[simp] theorem State.goto_ds (v : Word) : (s.goto v).ds = s.ds := rfl
@[simp] theorem State.goto_gdtr (v : Word) : (s.goto v).gdtr = s.gdtr := rfl
@[simp] theorem State.goto_idtr (v : Word) : (s.goto v).idtr = s.idtr := rfl
@[simp] theorem State.goto_ldtr (v : Word) : (s.goto v).ldtr = s.ldtr := rfl
@[simp] theorem State.goto_tr (v : Word) : (s.goto v).tr = s.tr := rfl
@[simp] theorem State.goto_msw (v : Word) : (s.goto v).msw = s.msw := rfl
@[simp] theorem State.goto_runState (v : Word) : (s.goto v).runState = s.runState := rfl
@[simp] theorem State.goto_inhibit (v : Word) : (s.goto v).inhibit = s.inhibit := rfl
@[simp] theorem State.goto_nmiInService (v : Word) : (s.goto v).nmiInService = s.nmiInService := rfl
@[simp] theorem State.goto_nmiPending (v : Word) : (s.goto v).nmiPending = s.nmiPending := rfl
@[simp] theorem State.goto_trapPending (v : Word) : (s.goto v).trapPending = s.trapPending := rfl
@[simp] theorem State.goto_overrunReq (v : Word) : (s.goto v).overrunReq = s.overrunReq := rfl
@[simp] theorem State.goto_intr (v : Word) : (s.goto v).intr = s.intr := rfl
@[simp] theorem State.goto_resetReq (v : Word) : (s.goto v).resetReq = s.resetReq := rfl
@[simp] theorem State.goto_npxPresent (v : Word) : (s.goto v).npxPresent = s.npxPresent := rfl
@[simp] theorem State.goto_npxBusy (v : Word) : (s.goto v).npxBusy = s.npxBusy := rfl
@[simp] theorem State.goto_npxError (v : Word) : (s.goto v).npxError = s.npxError := rfl
@[simp] theorem State.goto_npxIn (v : Word) : (s.goto v).npxIn = s.npxIn := rfl
@[simp] theorem State.goto_channel (v : Word) : (s.goto v).channel = s.channel := rfl
@[simp] theorem State.goto_mem (v : Word) : (s.goto v).mem = s.mem := rfl
@[simp] theorem State.goto_memMap (v : Word) : (s.goto v).memMap = s.memMap := rfl
@[simp] theorem State.goto_hostOut (v : Word) : (s.goto v).hostOut = s.hostOut := rfl
@[simp] theorem State.goto_free (v : Word) : (s.goto v).free = s.free := rfl
@[simp] theorem State.goto_use (v : Word) : (s.goto v).use = s.use := rfl
@[simp] theorem State.goto_dec (v : Word) : (s.goto v).dec = {} := rfl

@[simp] theorem State.advance_regs : (s.advance).regs = s.regs := rfl
@[simp] theorem State.advance_ip : (s.advance).ip = s.nextIp := rfl
@[simp] theorem State.advance_flags : (s.advance).flags = s.flags := rfl
@[simp] theorem State.advance_es : (s.advance).es = s.es := rfl
@[simp] theorem State.advance_cs : (s.advance).cs = s.cs := rfl
@[simp] theorem State.advance_ss : (s.advance).ss = s.ss := rfl
@[simp] theorem State.advance_ds : (s.advance).ds = s.ds := rfl
@[simp] theorem State.advance_gdtr : (s.advance).gdtr = s.gdtr := rfl
@[simp] theorem State.advance_idtr : (s.advance).idtr = s.idtr := rfl
@[simp] theorem State.advance_ldtr : (s.advance).ldtr = s.ldtr := rfl
@[simp] theorem State.advance_tr : (s.advance).tr = s.tr := rfl
@[simp] theorem State.advance_msw : (s.advance).msw = s.msw := rfl
@[simp] theorem State.advance_runState : (s.advance).runState = s.runState := rfl
@[simp] theorem State.advance_inhibit : (s.advance).inhibit = s.inhibit := rfl
@[simp] theorem State.advance_nmiInService : (s.advance).nmiInService = s.nmiInService := rfl
@[simp] theorem State.advance_nmiPending : (s.advance).nmiPending = s.nmiPending := rfl
@[simp] theorem State.advance_trapPending : (s.advance).trapPending = s.trapPending := rfl
@[simp] theorem State.advance_overrunReq : (s.advance).overrunReq = s.overrunReq := rfl
@[simp] theorem State.advance_intr : (s.advance).intr = s.intr := rfl
@[simp] theorem State.advance_resetReq : (s.advance).resetReq = s.resetReq := rfl
@[simp] theorem State.advance_npxPresent : (s.advance).npxPresent = s.npxPresent := rfl
@[simp] theorem State.advance_npxBusy : (s.advance).npxBusy = s.npxBusy := rfl
@[simp] theorem State.advance_npxError : (s.advance).npxError = s.npxError := rfl
@[simp] theorem State.advance_npxIn : (s.advance).npxIn = s.npxIn := rfl
@[simp] theorem State.advance_channel : (s.advance).channel = s.channel := rfl
@[simp] theorem State.advance_mem : (s.advance).mem = s.mem := rfl
@[simp] theorem State.advance_memMap : (s.advance).memMap = s.memMap := rfl
@[simp] theorem State.advance_hostOut : (s.advance).hostOut = s.hostOut := rfl
@[simp] theorem State.advance_free : (s.advance).free = s.free := rfl
@[simp] theorem State.advance_use : (s.advance).use = s.use := rfl
@[simp] theorem State.advance_dec : (s.advance).dec = {} := rfl

@[simp] theorem State.tick_regs : (s.tick).regs = s.regs := rfl
@[simp] theorem State.tick_ip : (s.tick).ip = s.ip := rfl
@[simp] theorem State.tick_flags : (s.tick).flags = s.flags := rfl
@[simp] theorem State.tick_es : (s.tick).es = s.es := rfl
@[simp] theorem State.tick_cs : (s.tick).cs = s.cs := rfl
@[simp] theorem State.tick_ss : (s.tick).ss = s.ss := rfl
@[simp] theorem State.tick_ds : (s.tick).ds = s.ds := rfl
@[simp] theorem State.tick_gdtr : (s.tick).gdtr = s.gdtr := rfl
@[simp] theorem State.tick_idtr : (s.tick).idtr = s.idtr := rfl
@[simp] theorem State.tick_ldtr : (s.tick).ldtr = s.ldtr := rfl
@[simp] theorem State.tick_tr : (s.tick).tr = s.tr := rfl
@[simp] theorem State.tick_msw : (s.tick).msw = s.msw := rfl
@[simp] theorem State.tick_runState : (s.tick).runState = s.runState := rfl
@[simp] theorem State.tick_inhibit : (s.tick).inhibit = s.inhibit := rfl
@[simp] theorem State.tick_nmiInService : (s.tick).nmiInService = s.nmiInService := rfl
@[simp] theorem State.tick_nmiPending : (s.tick).nmiPending = s.nmiPending := rfl
@[simp] theorem State.tick_trapPending : (s.tick).trapPending = s.trapPending := rfl
@[simp] theorem State.tick_overrunReq : (s.tick).overrunReq = s.overrunReq := rfl
@[simp] theorem State.tick_intr : (s.tick).intr = s.intr := rfl
@[simp] theorem State.tick_resetReq : (s.tick).resetReq = s.resetReq := rfl
@[simp] theorem State.tick_npxPresent : (s.tick).npxPresent = s.npxPresent := rfl
@[simp] theorem State.tick_npxBusy : (s.tick).npxBusy = s.npxBusy := rfl
@[simp] theorem State.tick_npxError : (s.tick).npxError = s.npxError := rfl
@[simp] theorem State.tick_npxIn : (s.tick).npxIn = s.npxIn := rfl
@[simp] theorem State.tick_channel : (s.tick).channel = s.channel := rfl
@[simp] theorem State.tick_mem : (s.tick).mem = s.mem := rfl
@[simp] theorem State.tick_memMap : (s.tick).memMap = s.memMap := rfl
@[simp] theorem State.tick_hostOut : (s.tick).hostOut = s.hostOut := rfl
@[simp] theorem State.tick_free : (s.tick).free = s.free + 1 := rfl
@[simp] theorem State.tick_use : (s.tick).use = s.use := rfl
@[simp] theorem State.tick_dec : (s.tick).dec = s.dec := rfl

@[simp] theorem State.reading_regs (p : Part) : (s.reading p).regs = s.regs := rfl
@[simp] theorem State.reading_ip (p : Part) : (s.reading p).ip = s.ip := rfl
@[simp] theorem State.reading_flags (p : Part) : (s.reading p).flags = s.flags := rfl
@[simp] theorem State.reading_es (p : Part) : (s.reading p).es = s.es := rfl
@[simp] theorem State.reading_cs (p : Part) : (s.reading p).cs = s.cs := rfl
@[simp] theorem State.reading_ss (p : Part) : (s.reading p).ss = s.ss := rfl
@[simp] theorem State.reading_ds (p : Part) : (s.reading p).ds = s.ds := rfl
@[simp] theorem State.reading_gdtr (p : Part) : (s.reading p).gdtr = s.gdtr := rfl
@[simp] theorem State.reading_idtr (p : Part) : (s.reading p).idtr = s.idtr := rfl
@[simp] theorem State.reading_ldtr (p : Part) : (s.reading p).ldtr = s.ldtr := rfl
@[simp] theorem State.reading_tr (p : Part) : (s.reading p).tr = s.tr := rfl
@[simp] theorem State.reading_msw (p : Part) : (s.reading p).msw = s.msw := rfl
@[simp] theorem State.reading_runState (p : Part) : (s.reading p).runState = s.runState := rfl
@[simp] theorem State.reading_inhibit (p : Part) : (s.reading p).inhibit = s.inhibit := rfl
@[simp] theorem State.reading_nmiInService (p : Part) : (s.reading p).nmiInService = s.nmiInService := rfl
@[simp] theorem State.reading_nmiPending (p : Part) : (s.reading p).nmiPending = s.nmiPending := rfl
@[simp] theorem State.reading_trapPending (p : Part) : (s.reading p).trapPending = s.trapPending := rfl
@[simp] theorem State.reading_overrunReq (p : Part) : (s.reading p).overrunReq = s.overrunReq := rfl
@[simp] theorem State.reading_intr (p : Part) : (s.reading p).intr = s.intr := rfl
@[simp] theorem State.reading_resetReq (p : Part) : (s.reading p).resetReq = s.resetReq := rfl
@[simp] theorem State.reading_npxPresent (p : Part) : (s.reading p).npxPresent = s.npxPresent := rfl
@[simp] theorem State.reading_npxBusy (p : Part) : (s.reading p).npxBusy = s.npxBusy := rfl
@[simp] theorem State.reading_npxError (p : Part) : (s.reading p).npxError = s.npxError := rfl
@[simp] theorem State.reading_npxIn (p : Part) : (s.reading p).npxIn = s.npxIn := rfl
@[simp] theorem State.reading_channel (p : Part) : (s.reading p).channel = s.channel := rfl
@[simp] theorem State.reading_mem (p : Part) : (s.reading p).mem = s.mem := rfl
@[simp] theorem State.reading_memMap (p : Part) : (s.reading p).memMap = s.memMap := rfl
@[simp] theorem State.reading_hostOut (p : Part) : (s.reading p).hostOut = s.hostOut := rfl
@[simp] theorem State.reading_free (p : Part) : (s.reading p).free = s.free := rfl
@[simp] theorem State.reading_use (p : Part) : (s.reading p).use = { s.use with part := p } := rfl
@[simp] theorem State.reading_dec (p : Part) : (s.reading p).dec = s.dec := rfl

@[simp] theorem State.readingTable_regs : (s.readingTable).regs = s.regs := rfl
@[simp] theorem State.readingTable_ip : (s.readingTable).ip = s.ip := rfl
@[simp] theorem State.readingTable_flags : (s.readingTable).flags = s.flags := rfl
@[simp] theorem State.readingTable_es : (s.readingTable).es = s.es := rfl
@[simp] theorem State.readingTable_cs : (s.readingTable).cs = s.cs := rfl
@[simp] theorem State.readingTable_ss : (s.readingTable).ss = s.ss := rfl
@[simp] theorem State.readingTable_ds : (s.readingTable).ds = s.ds := rfl
@[simp] theorem State.readingTable_gdtr : (s.readingTable).gdtr = s.gdtr := rfl
@[simp] theorem State.readingTable_idtr : (s.readingTable).idtr = s.idtr := rfl
@[simp] theorem State.readingTable_ldtr : (s.readingTable).ldtr = s.ldtr := rfl
@[simp] theorem State.readingTable_tr : (s.readingTable).tr = s.tr := rfl
@[simp] theorem State.readingTable_msw : (s.readingTable).msw = s.msw := rfl
@[simp] theorem State.readingTable_runState : (s.readingTable).runState = s.runState := rfl
@[simp] theorem State.readingTable_inhibit : (s.readingTable).inhibit = s.inhibit := rfl
@[simp] theorem State.readingTable_nmiInService : (s.readingTable).nmiInService = s.nmiInService := rfl
@[simp] theorem State.readingTable_nmiPending : (s.readingTable).nmiPending = s.nmiPending := rfl
@[simp] theorem State.readingTable_trapPending : (s.readingTable).trapPending = s.trapPending := rfl
@[simp] theorem State.readingTable_overrunReq : (s.readingTable).overrunReq = s.overrunReq := rfl
@[simp] theorem State.readingTable_intr : (s.readingTable).intr = s.intr := rfl
@[simp] theorem State.readingTable_resetReq : (s.readingTable).resetReq = s.resetReq := rfl
@[simp] theorem State.readingTable_npxPresent : (s.readingTable).npxPresent = s.npxPresent := rfl
@[simp] theorem State.readingTable_npxBusy : (s.readingTable).npxBusy = s.npxBusy := rfl
@[simp] theorem State.readingTable_npxError : (s.readingTable).npxError = s.npxError := rfl
@[simp] theorem State.readingTable_npxIn : (s.readingTable).npxIn = s.npxIn := rfl
@[simp] theorem State.readingTable_channel : (s.readingTable).channel = s.channel := rfl
@[simp] theorem State.readingTable_mem : (s.readingTable).mem = s.mem := rfl
@[simp] theorem State.readingTable_memMap : (s.readingTable).memMap = s.memMap := rfl
@[simp] theorem State.readingTable_hostOut : (s.readingTable).hostOut = s.hostOut := rfl
@[simp] theorem State.readingTable_free : (s.readingTable).free = s.free := rfl
@[simp] theorem State.readingTable_use : (s.readingTable).use = { s.use with table := true } := rfl
@[simp] theorem State.readingTable_dec : (s.readingTable).dec = s.dec := rfl

@[simp] theorem State.attempt_regs (n : Nat) : (s.attempt n).regs = s.regs := rfl
@[simp] theorem State.attempt_ip (n : Nat) : (s.attempt n).ip = s.ip := rfl
@[simp] theorem State.attempt_flags (n : Nat) : (s.attempt n).flags = s.flags := rfl
@[simp] theorem State.attempt_es (n : Nat) : (s.attempt n).es = s.es := rfl
@[simp] theorem State.attempt_cs (n : Nat) : (s.attempt n).cs = s.cs := rfl
@[simp] theorem State.attempt_ss (n : Nat) : (s.attempt n).ss = s.ss := rfl
@[simp] theorem State.attempt_ds (n : Nat) : (s.attempt n).ds = s.ds := rfl
@[simp] theorem State.attempt_gdtr (n : Nat) : (s.attempt n).gdtr = s.gdtr := rfl
@[simp] theorem State.attempt_idtr (n : Nat) : (s.attempt n).idtr = s.idtr := rfl
@[simp] theorem State.attempt_ldtr (n : Nat) : (s.attempt n).ldtr = s.ldtr := rfl
@[simp] theorem State.attempt_tr (n : Nat) : (s.attempt n).tr = s.tr := rfl
@[simp] theorem State.attempt_msw (n : Nat) : (s.attempt n).msw = s.msw := rfl
@[simp] theorem State.attempt_runState (n : Nat) : (s.attempt n).runState = s.runState := rfl
@[simp] theorem State.attempt_inhibit (n : Nat) : (s.attempt n).inhibit = s.inhibit := rfl
@[simp] theorem State.attempt_nmiInService (n : Nat) : (s.attempt n).nmiInService = s.nmiInService := rfl
@[simp] theorem State.attempt_nmiPending (n : Nat) : (s.attempt n).nmiPending = s.nmiPending := rfl
@[simp] theorem State.attempt_trapPending (n : Nat) : (s.attempt n).trapPending = s.trapPending := rfl
@[simp] theorem State.attempt_overrunReq (n : Nat) : (s.attempt n).overrunReq = s.overrunReq := rfl
@[simp] theorem State.attempt_intr (n : Nat) : (s.attempt n).intr = s.intr := rfl
@[simp] theorem State.attempt_resetReq (n : Nat) : (s.attempt n).resetReq = s.resetReq := rfl
@[simp] theorem State.attempt_npxPresent (n : Nat) : (s.attempt n).npxPresent = s.npxPresent := rfl
@[simp] theorem State.attempt_npxBusy (n : Nat) : (s.attempt n).npxBusy = s.npxBusy := rfl
@[simp] theorem State.attempt_npxError (n : Nat) : (s.attempt n).npxError = s.npxError := rfl
@[simp] theorem State.attempt_npxIn (n : Nat) : (s.attempt n).npxIn = s.npxIn := rfl
@[simp] theorem State.attempt_channel (n : Nat) : (s.attempt n).channel = s.channel := rfl
@[simp] theorem State.attempt_mem (n : Nat) : (s.attempt n).mem = s.mem := rfl
@[simp] theorem State.attempt_memMap (n : Nat) : (s.attempt n).memMap = s.memMap := rfl
@[simp] theorem State.attempt_hostOut (n : Nat) : (s.attempt n).hostOut = s.hostOut := rfl
@[simp] theorem State.attempt_free (n : Nat) : (s.attempt n).free = s.free := rfl
@[simp] theorem State.attempt_use (n : Nat) : (s.attempt n).use = { s.use with attempt := n } := rfl
@[simp] theorem State.attempt_dec (n : Nat) : (s.attempt n).dec = s.dec := rfl

@[simp] theorem State.nmiDone_regs : (s.nmiDone).regs = s.regs := rfl
@[simp] theorem State.nmiDone_ip : (s.nmiDone).ip = s.ip := rfl
@[simp] theorem State.nmiDone_flags : (s.nmiDone).flags = s.flags := rfl
@[simp] theorem State.nmiDone_es : (s.nmiDone).es = s.es := rfl
@[simp] theorem State.nmiDone_cs : (s.nmiDone).cs = s.cs := rfl
@[simp] theorem State.nmiDone_ss : (s.nmiDone).ss = s.ss := rfl
@[simp] theorem State.nmiDone_ds : (s.nmiDone).ds = s.ds := rfl
@[simp] theorem State.nmiDone_gdtr : (s.nmiDone).gdtr = s.gdtr := rfl
@[simp] theorem State.nmiDone_idtr : (s.nmiDone).idtr = s.idtr := rfl
@[simp] theorem State.nmiDone_ldtr : (s.nmiDone).ldtr = s.ldtr := rfl
@[simp] theorem State.nmiDone_tr : (s.nmiDone).tr = s.tr := rfl
@[simp] theorem State.nmiDone_msw : (s.nmiDone).msw = s.msw := rfl
@[simp] theorem State.nmiDone_runState : (s.nmiDone).runState = s.runState := rfl
@[simp] theorem State.nmiDone_inhibit : (s.nmiDone).inhibit = s.inhibit := rfl
@[simp] theorem State.nmiDone_nmiInService : (s.nmiDone).nmiInService = false := rfl
@[simp] theorem State.nmiDone_nmiPending : (s.nmiDone).nmiPending = s.nmiPending := rfl
@[simp] theorem State.nmiDone_trapPending : (s.nmiDone).trapPending = s.trapPending := rfl
@[simp] theorem State.nmiDone_overrunReq : (s.nmiDone).overrunReq = s.overrunReq := rfl
@[simp] theorem State.nmiDone_intr : (s.nmiDone).intr = s.intr := rfl
@[simp] theorem State.nmiDone_resetReq : (s.nmiDone).resetReq = s.resetReq := rfl
@[simp] theorem State.nmiDone_npxPresent : (s.nmiDone).npxPresent = s.npxPresent := rfl
@[simp] theorem State.nmiDone_npxBusy : (s.nmiDone).npxBusy = s.npxBusy := rfl
@[simp] theorem State.nmiDone_npxError : (s.nmiDone).npxError = s.npxError := rfl
@[simp] theorem State.nmiDone_npxIn : (s.nmiDone).npxIn = s.npxIn := rfl
@[simp] theorem State.nmiDone_channel : (s.nmiDone).channel = s.channel := rfl
@[simp] theorem State.nmiDone_mem : (s.nmiDone).mem = s.mem := rfl
@[simp] theorem State.nmiDone_memMap : (s.nmiDone).memMap = s.memMap := rfl
@[simp] theorem State.nmiDone_hostOut : (s.nmiDone).hostOut = s.hostOut := rfl
@[simp] theorem State.nmiDone_free : (s.nmiDone).free = s.free := rfl
@[simp] theorem State.nmiDone_use : (s.nmiDone).use = s.use := rfl
@[simp] theorem State.nmiDone_dec : (s.nmiDone).dec = s.dec := rfl

@[simp] theorem State.shutdown_regs : (s.shutdown).regs = s.regs := rfl
@[simp] theorem State.shutdown_ip : (s.shutdown).ip = s.ip := rfl
@[simp] theorem State.shutdown_flags : (s.shutdown).flags = s.flags := rfl
@[simp] theorem State.shutdown_es : (s.shutdown).es = s.es := rfl
@[simp] theorem State.shutdown_cs : (s.shutdown).cs = s.cs := rfl
@[simp] theorem State.shutdown_ss : (s.shutdown).ss = s.ss := rfl
@[simp] theorem State.shutdown_ds : (s.shutdown).ds = s.ds := rfl
@[simp] theorem State.shutdown_gdtr : (s.shutdown).gdtr = s.gdtr := rfl
@[simp] theorem State.shutdown_idtr : (s.shutdown).idtr = s.idtr := rfl
@[simp] theorem State.shutdown_ldtr : (s.shutdown).ldtr = s.ldtr := rfl
@[simp] theorem State.shutdown_tr : (s.shutdown).tr = s.tr := rfl
@[simp] theorem State.shutdown_msw : (s.shutdown).msw = s.msw := rfl
@[simp] theorem State.shutdown_runState : (s.shutdown).runState = .shutdown := rfl
@[simp] theorem State.shutdown_inhibit : (s.shutdown).inhibit = s.inhibit := rfl
@[simp] theorem State.shutdown_nmiInService : (s.shutdown).nmiInService = s.nmiInService := rfl
@[simp] theorem State.shutdown_nmiPending : (s.shutdown).nmiPending = s.nmiPending := rfl
@[simp] theorem State.shutdown_trapPending : (s.shutdown).trapPending = s.trapPending := rfl
@[simp] theorem State.shutdown_overrunReq : (s.shutdown).overrunReq = s.overrunReq := rfl
@[simp] theorem State.shutdown_intr : (s.shutdown).intr = s.intr := rfl
@[simp] theorem State.shutdown_resetReq : (s.shutdown).resetReq = s.resetReq := rfl
@[simp] theorem State.shutdown_npxPresent : (s.shutdown).npxPresent = s.npxPresent := rfl
@[simp] theorem State.shutdown_npxBusy : (s.shutdown).npxBusy = s.npxBusy := rfl
@[simp] theorem State.shutdown_npxError : (s.shutdown).npxError = s.npxError := rfl
@[simp] theorem State.shutdown_npxIn : (s.shutdown).npxIn = s.npxIn := rfl
@[simp] theorem State.shutdown_channel : (s.shutdown).channel = s.channel := rfl
@[simp] theorem State.shutdown_mem : (s.shutdown).mem = s.mem := rfl
@[simp] theorem State.shutdown_memMap : (s.shutdown).memMap = s.memMap := rfl
@[simp] theorem State.shutdown_hostOut : (s.shutdown).hostOut = s.hostOut := rfl
@[simp] theorem State.shutdown_free : (s.shutdown).free = s.free := rfl
@[simp] theorem State.shutdown_use : (s.shutdown).use = s.use := rfl
@[simp] theorem State.shutdown_dec : (s.shutdown).dec = {} := rfl

@[simp] theorem State.portOut8_regs (p : Word) (v : Byte) : (s.portOut8 p v).regs = s.regs := rfl
@[simp] theorem State.portOut8_ip (p : Word) (v : Byte) : (s.portOut8 p v).ip = s.ip := rfl
@[simp] theorem State.portOut8_flags (p : Word) (v : Byte) : (s.portOut8 p v).flags = s.flags := rfl
@[simp] theorem State.portOut8_es (p : Word) (v : Byte) : (s.portOut8 p v).es = s.es := rfl
@[simp] theorem State.portOut8_cs (p : Word) (v : Byte) : (s.portOut8 p v).cs = s.cs := rfl
@[simp] theorem State.portOut8_ss (p : Word) (v : Byte) : (s.portOut8 p v).ss = s.ss := rfl
@[simp] theorem State.portOut8_ds (p : Word) (v : Byte) : (s.portOut8 p v).ds = s.ds := rfl
@[simp] theorem State.portOut8_gdtr (p : Word) (v : Byte) : (s.portOut8 p v).gdtr = s.gdtr := rfl
@[simp] theorem State.portOut8_idtr (p : Word) (v : Byte) : (s.portOut8 p v).idtr = s.idtr := rfl
@[simp] theorem State.portOut8_ldtr (p : Word) (v : Byte) : (s.portOut8 p v).ldtr = s.ldtr := rfl
@[simp] theorem State.portOut8_tr (p : Word) (v : Byte) : (s.portOut8 p v).tr = s.tr := rfl
@[simp] theorem State.portOut8_msw (p : Word) (v : Byte) : (s.portOut8 p v).msw = s.msw := rfl
@[simp] theorem State.portOut8_runState (p : Word) (v : Byte) : (s.portOut8 p v).runState = s.runState := rfl
@[simp] theorem State.portOut8_inhibit (p : Word) (v : Byte) : (s.portOut8 p v).inhibit = s.inhibit := rfl
@[simp] theorem State.portOut8_nmiInService (p : Word) (v : Byte) : (s.portOut8 p v).nmiInService = s.nmiInService := rfl
@[simp] theorem State.portOut8_nmiPending (p : Word) (v : Byte) : (s.portOut8 p v).nmiPending = s.nmiPending := rfl
@[simp] theorem State.portOut8_trapPending (p : Word) (v : Byte) : (s.portOut8 p v).trapPending = s.trapPending := rfl
@[simp] theorem State.portOut8_overrunReq (p : Word) (v : Byte) : (s.portOut8 p v).overrunReq = s.overrunReq := rfl
@[simp] theorem State.portOut8_intr (p : Word) (v : Byte) : (s.portOut8 p v).intr = s.intr := rfl
@[simp] theorem State.portOut8_resetReq (p : Word) (v : Byte) : (s.portOut8 p v).resetReq = s.resetReq := rfl
@[simp] theorem State.portOut8_npxPresent (p : Word) (v : Byte) : (s.portOut8 p v).npxPresent = s.npxPresent := rfl
@[simp] theorem State.portOut8_npxBusy (p : Word) (v : Byte) : (s.portOut8 p v).npxBusy = s.npxBusy := rfl
@[simp] theorem State.portOut8_npxError (p : Word) (v : Byte) : (s.portOut8 p v).npxError = s.npxError := rfl
@[simp] theorem State.portOut8_npxIn (p : Word) (v : Byte) : (s.portOut8 p v).npxIn = s.npxIn := rfl
@[simp] theorem State.portOut8_channel (p : Word) (v : Byte) : (s.portOut8 p v).channel = s.channel := rfl
@[simp] theorem State.portOut8_mem (p : Word) (v : Byte) : (s.portOut8 p v).mem = s.mem := rfl
@[simp] theorem State.portOut8_memMap (p : Word) (v : Byte) : (s.portOut8 p v).memMap = s.memMap := rfl
@[simp] theorem State.portOut8_hostOut (p : Word) (v : Byte) : (s.portOut8 p v).hostOut = .port p v :: s.hostOut := rfl
@[simp] theorem State.portOut8_free (p : Word) (v : Byte) : (s.portOut8 p v).free = s.free := rfl
@[simp] theorem State.portOut8_use (p : Word) (v : Byte) : (s.portOut8 p v).use = s.use := rfl
@[simp] theorem State.portOut8_dec (p : Word) (v : Byte) : (s.portOut8 p v).dec = s.dec := rfl

@[simp] theorem State.lockBus_regs : s.lockBus.regs = s.regs := rfl
@[simp] theorem State.lockBus_ip : s.lockBus.ip = s.ip := rfl
@[simp] theorem State.lockBus_flags : s.lockBus.flags = s.flags := rfl
@[simp] theorem State.lockBus_es : s.lockBus.es = s.es := rfl
@[simp] theorem State.lockBus_cs : s.lockBus.cs = s.cs := rfl
@[simp] theorem State.lockBus_ss : s.lockBus.ss = s.ss := rfl
@[simp] theorem State.lockBus_ds : s.lockBus.ds = s.ds := rfl
@[simp] theorem State.lockBus_gdtr : s.lockBus.gdtr = s.gdtr := rfl
@[simp] theorem State.lockBus_idtr : s.lockBus.idtr = s.idtr := rfl
@[simp] theorem State.lockBus_ldtr : s.lockBus.ldtr = s.ldtr := rfl
@[simp] theorem State.lockBus_tr : s.lockBus.tr = s.tr := rfl
@[simp] theorem State.lockBus_msw : s.lockBus.msw = s.msw := rfl
@[simp] theorem State.lockBus_runState : s.lockBus.runState = s.runState := rfl
@[simp] theorem State.lockBus_inhibit : s.lockBus.inhibit = s.inhibit := rfl
@[simp] theorem State.lockBus_nmiInService : s.lockBus.nmiInService = s.nmiInService := rfl
@[simp] theorem State.lockBus_nmiPending : s.lockBus.nmiPending = s.nmiPending := rfl
@[simp] theorem State.lockBus_trapPending : s.lockBus.trapPending = s.trapPending := rfl
@[simp] theorem State.lockBus_overrunReq : s.lockBus.overrunReq = s.overrunReq := rfl
@[simp] theorem State.lockBus_intr : s.lockBus.intr = s.intr := rfl
@[simp] theorem State.lockBus_resetReq : s.lockBus.resetReq = s.resetReq := rfl
@[simp] theorem State.lockBus_npxPresent : s.lockBus.npxPresent = s.npxPresent := rfl
@[simp] theorem State.lockBus_npxBusy : s.lockBus.npxBusy = s.npxBusy := rfl
@[simp] theorem State.lockBus_npxError : s.lockBus.npxError = s.npxError := rfl
@[simp] theorem State.lockBus_npxIn : s.lockBus.npxIn = s.npxIn := rfl
@[simp] theorem State.lockBus_channel : s.lockBus.channel = s.channel := rfl
@[simp] theorem State.lockBus_mem : s.lockBus.mem = s.mem := rfl
@[simp] theorem State.lockBus_memMap : s.lockBus.memMap = s.memMap := rfl
@[simp] theorem State.lockBus_hostOut : s.lockBus.hostOut = .lock :: s.hostOut := rfl
@[simp] theorem State.lockBus_free : s.lockBus.free = s.free := rfl
@[simp] theorem State.lockBus_use : s.lockBus.use = s.use := rfl
@[simp] theorem State.lockBus_dec : s.lockBus.dec = s.dec := rfl

@[simp] theorem State.setSeg_regs (x : SReg) (g : SegReg) : (s.setSeg x g).regs = s.regs := by cases x <;> rfl
@[simp] theorem State.setSeg_ip (x : SReg) (g : SegReg) : (s.setSeg x g).ip = s.ip := by cases x <;> rfl
@[simp] theorem State.setSeg_flags (x : SReg) (g : SegReg) : (s.setSeg x g).flags = s.flags := by cases x <;> rfl
@[simp] theorem State.setSeg_gdtr (x : SReg) (g : SegReg) : (s.setSeg x g).gdtr = s.gdtr := by cases x <;> rfl
@[simp] theorem State.setSeg_idtr (x : SReg) (g : SegReg) : (s.setSeg x g).idtr = s.idtr := by cases x <;> rfl
@[simp] theorem State.setSeg_ldtr (x : SReg) (g : SegReg) : (s.setSeg x g).ldtr = s.ldtr := by cases x <;> rfl
@[simp] theorem State.setSeg_tr (x : SReg) (g : SegReg) : (s.setSeg x g).tr = s.tr := by cases x <;> rfl
@[simp] theorem State.setSeg_msw (x : SReg) (g : SegReg) : (s.setSeg x g).msw = s.msw := by cases x <;> rfl
@[simp] theorem State.setSeg_runState (x : SReg) (g : SegReg) : (s.setSeg x g).runState = s.runState := by cases x <;> rfl
@[simp] theorem State.setSeg_inhibit (x : SReg) (g : SegReg) : (s.setSeg x g).inhibit = s.inhibit := by cases x <;> rfl
@[simp] theorem State.setSeg_nmiInService (x : SReg) (g : SegReg) : (s.setSeg x g).nmiInService = s.nmiInService := by cases x <;> rfl
@[simp] theorem State.setSeg_nmiPending (x : SReg) (g : SegReg) : (s.setSeg x g).nmiPending = s.nmiPending := by cases x <;> rfl
@[simp] theorem State.setSeg_trapPending (x : SReg) (g : SegReg) : (s.setSeg x g).trapPending = s.trapPending := by cases x <;> rfl
@[simp] theorem State.setSeg_overrunReq (x : SReg) (g : SegReg) : (s.setSeg x g).overrunReq = s.overrunReq := by cases x <;> rfl
@[simp] theorem State.setSeg_intr (x : SReg) (g : SegReg) : (s.setSeg x g).intr = s.intr := by cases x <;> rfl
@[simp] theorem State.setSeg_resetReq (x : SReg) (g : SegReg) : (s.setSeg x g).resetReq = s.resetReq := by cases x <;> rfl
@[simp] theorem State.setSeg_npxPresent (x : SReg) (g : SegReg) : (s.setSeg x g).npxPresent = s.npxPresent := by cases x <;> rfl
@[simp] theorem State.setSeg_npxBusy (x : SReg) (g : SegReg) : (s.setSeg x g).npxBusy = s.npxBusy := by cases x <;> rfl
@[simp] theorem State.setSeg_npxError (x : SReg) (g : SegReg) : (s.setSeg x g).npxError = s.npxError := by cases x <;> rfl
@[simp] theorem State.setSeg_npxIn (x : SReg) (g : SegReg) : (s.setSeg x g).npxIn = s.npxIn := by cases x <;> rfl
@[simp] theorem State.setSeg_channel (x : SReg) (g : SegReg) : (s.setSeg x g).channel = s.channel := by cases x <;> rfl
@[simp] theorem State.setSeg_mem (x : SReg) (g : SegReg) : (s.setSeg x g).mem = s.mem := by cases x <;> rfl
@[simp] theorem State.setSeg_memMap (x : SReg) (g : SegReg) : (s.setSeg x g).memMap = s.memMap := by cases x <;> rfl
@[simp] theorem State.setSeg_hostOut (x : SReg) (g : SegReg) : (s.setSeg x g).hostOut = s.hostOut := by cases x <;> rfl
@[simp] theorem State.setSeg_free (x : SReg) (g : SegReg) : (s.setSeg x g).free = s.free := by cases x <;> rfl
@[simp] theorem State.setSeg_use (x : SReg) (g : SegReg) : (s.setSeg x g).use = s.use := by cases x <;> rfl
@[simp] theorem State.setSeg_dec (x : SReg) (g : SegReg) : (s.setSeg x g).dec = s.dec := by cases x <;> rfl

/-- Reading back the segment register that was set, and the others. -/
@[simp] theorem State.seg_setSeg (x y : SReg) (g : SegReg) :
    (s.setSeg x g).seg y = if y = x then g else s.seg y := by cases x <;> cases y <;> rfl

/-- A segment register other than the one set. -/
theorem State.setSeg_cs (x : SReg) (g : SegReg) (h : x ≠ .cs) : (s.setSeg x g).cs = s.cs := by
  cases x <;> first | rfl | exact absurd rfl h

@[simp] theorem State.setFlags_prot (f : Flags) : (s.setFlags f).prot = s.prot := rfl
@[simp] theorem State.setFlags_seg (f : Flags) (x : SReg) : (s.setFlags f).seg x = s.seg x := by cases x <;> rfl
@[simp] theorem State.set16_prot (r : Reg16) (v : Word) : (s.set16 r v).prot = s.prot := rfl
@[simp] theorem State.set16_seg (r : Reg16) (v : Word) (x : SReg) : (s.set16 r v).seg x = s.seg x := by cases x <;> rfl
@[simp] theorem State.set8_prot (r : Reg8) (v : Byte) : (s.set8 r v).prot = s.prot := rfl
@[simp] theorem State.set8_seg (r : Reg8) (v : Byte) (x : SReg) : (s.set8 r v).seg x = s.seg x := by cases x <;> rfl
@[simp] theorem State.setSp_prot (v : Word) : (s.setSp v).prot = s.prot := rfl
@[simp] theorem State.setSp_seg (v : Word) (x : SReg) : (s.setSp v).seg x = s.seg x := by cases x <;> rfl
@[simp] theorem State.goto_prot (v : Word) : (s.goto v).prot = s.prot := rfl
@[simp] theorem State.goto_seg (v : Word) (x : SReg) : (s.goto v).seg x = s.seg x := by cases x <;> rfl
@[simp] theorem State.advance_prot : (s.advance).prot = s.prot := rfl
@[simp] theorem State.advance_seg (x : SReg) : (s.advance).seg x = s.seg x := by cases x <;> rfl
@[simp] theorem State.tick_prot : (s.tick).prot = s.prot := rfl
@[simp] theorem State.tick_seg (x : SReg) : (s.tick).seg x = s.seg x := by cases x <;> rfl
@[simp] theorem State.reading_prot (p : Part) : (s.reading p).prot = s.prot := rfl
@[simp] theorem State.reading_seg (p : Part) (x : SReg) : (s.reading p).seg x = s.seg x := by cases x <;> rfl
@[simp] theorem State.readingTable_prot : (s.readingTable).prot = s.prot := rfl
@[simp] theorem State.readingTable_seg (x : SReg) : (s.readingTable).seg x = s.seg x := by cases x <;> rfl
@[simp] theorem State.attempt_prot (n : Nat) : (s.attempt n).prot = s.prot := rfl
@[simp] theorem State.attempt_seg (n : Nat) (x : SReg) : (s.attempt n).seg x = s.seg x := by cases x <;> rfl
@[simp] theorem State.nmiDone_prot : (s.nmiDone).prot = s.prot := rfl
@[simp] theorem State.nmiDone_seg (x : SReg) : (s.nmiDone).seg x = s.seg x := by cases x <;> rfl
@[simp] theorem State.shutdown_prot : (s.shutdown).prot = s.prot := rfl
@[simp] theorem State.shutdown_seg (x : SReg) : (s.shutdown).seg x = s.seg x := by cases x <;> rfl
@[simp] theorem State.portOut8_prot (p : Word) (v : Byte) : (s.portOut8 p v).prot = s.prot := rfl
@[simp] theorem State.portOut8_seg (p : Word) (v : Byte) (x : SReg) : (s.portOut8 p v).seg x = s.seg x := by cases x <;> rfl
@[simp] theorem State.lockBus_prot : s.lockBus.prot = s.prot := rfl
@[simp] theorem State.lockBus_seg (x : SReg) : s.lockBus.seg x = s.seg x := by cases x <;> rfl
@[simp] theorem State.lockBus_readPhys (a : PAddr) : s.lockBus.readPhys a = s.readPhys a := rfl

/-- The offset of the next instruction depends on IP and the length only. -/
@[simp] theorem State.setFlags_nextIp (f : Flags) : (s.setFlags f).nextIp = s.nextIp := rfl
@[simp] theorem State.set16_nextIp (r : Reg16) (v : Word) : (s.set16 r v).nextIp = s.nextIp := rfl
@[simp] theorem State.set8_nextIp (r : Reg8) (v : Byte) : (s.set8 r v).nextIp = s.nextIp := rfl
@[simp] theorem State.setSp_nextIp (v : Word) : (s.setSp v).nextIp = s.nextIp := rfl

/-- Reading a register just written, and another one (R41). -/
@[simp] theorem Regs.get_set (r : Regs) (x y : Reg16) (v : Word) :
    (r.set x v).get y = if y = x then v else r.get y := by cases x <;> cases y <;> rfl

/-- Setting SP is writing register 4. -/
theorem State.setSp_eq_set16 (v : Word) : s.setSp v = s.set16 .sp v := rfl

end Sys2Proof.Machine
end

