-- ==== Sys2Proof/Laws/Memory.lean ====
section
/-!
SUPPORT. Physical memory: reading after writing, the canonical form, and what a write leaves alone.
-/

namespace Sys2Proof.Machine

/-- Inserting a cell whose address is not listed: what is read where. -/
theorem Memory.read_insert (m : List Host.Cell) (a b : Nat) (v : Byte) (h : ∀ c ∈ m, c.1 ≠ a) :
    Memory.read (Memory.insert a v m) b = if b = a then v else Memory.read m b := by
  induction m with
  | nil => simp [Memory.insert, Memory.read]
  | cons c m ih =>
    obtain ⟨k, w⟩ := c
    have hk : k ≠ a := h (k, w) (by simp)
    have ih := ih fun d hd => h d (by simp [hd])
    simp only [Memory.insert]
    split
    · simp [Memory.read]
    · simp only [Memory.read, ih]
      by_cases hb : b = k
      · subst hb; simp [hk]
      · simp [hb]

/-- Dropping an address: what is read elsewhere. -/
theorem Memory.read_filter (m : List Host.Cell) (a b : Nat) (h : b ≠ a) :
    Memory.read (m.filter fun c => c.1 ≠ a) b = Memory.read m b := by
  induction m with
  | nil => rfl
  | cons c m ih =>
    obtain ⟨k, w⟩ := c
    by_cases hk : k = a
    · have : b ≠ k := by omega
      simp [hk, Memory.read, h, ← ih]
    · simp [hk, Memory.read, ← ih]

/-- An address that is not listed reads as zero. -/
theorem Memory.read_unlisted (m : List Host.Cell) (a : Nat) (h : ∀ c ∈ m, c.1 ≠ a) : Memory.read m a = 0 := by
  induction m with
  | nil => rfl
  | cons c m ih =>
    have hc := h c (by simp)
    obtain ⟨k, w⟩ := c
    simp only [Memory.read]
    rw [if_neg (Ne.symm hc)]
    exact ih fun d hd => h d (by simp [hd])

/-- READ AFTER WRITE. -/
theorem Memory.read_write (m : List Host.Cell) (a b : Nat) (v : Byte) :
    Memory.read (Memory.write m a v) b = if b = a then v else Memory.read m b := by
  have hne : ∀ c ∈ m.filter (fun c => c.1 ≠ a), c.1 ≠ a := by simp
  unfold Memory.write
  by_cases hv : v = 0
  · simp only [hv, if_true]
    by_cases hb : b = a
    · subst hb; rw [if_pos rfl]; exact Memory.read_unlisted _ _ hne
    · rw [if_neg hb, Memory.read_filter m a b hb]
  · simp only [hv, if_false]
    rw [Memory.read_insert _ _ _ _ hne]
    by_cases hb : b = a
    · simp [hb]
    · rw [if_neg hb, if_neg hb, Memory.read_filter m a b hb]

/-- What is in a memory after an insertion. -/
theorem Memory.mem_insert (m : List Host.Cell) (a : Nat) (v : Byte) (c : Host.Cell) :
    c ∈ Memory.insert a v m ↔ c = (a, v) ∨ c ∈ m := by
  induction m with
  | nil => simp [Memory.insert]
  | cons d m ih =>
    simp only [Memory.insert]
    split
    · simp
    · simp only [List.mem_cons, ih]; tauto

/-- Inserting keeps the addresses rising. -/
theorem Memory.insert_rising (m : List Host.Cell) (a : Nat) (v : Byte) (h : m.Pairwise fun c d => c.1 < d.1)
    (hne : ∀ c ∈ m, c.1 ≠ a) : (Memory.insert a v m).Pairwise fun c d => c.1 < d.1 := by
  induction m with
  | nil => simp [Memory.insert]
  | cons d m ih =>
    obtain ⟨k, w⟩ := d
    rw [List.pairwise_cons] at h
    have hk : k ≠ a := hne (k, w) (by simp)
    simp only [Memory.insert]
    split
    · rename_i hlt
      refine List.pairwise_cons.2 ⟨fun c hc => ?_, List.pairwise_cons.2 h⟩
      rcases List.mem_cons.1 hc with rfl | hc
      · exact hlt
      · exact lt_trans hlt (h.1 c hc)
    · refine List.pairwise_cons.2 ⟨fun c hc => ?_, ih h.2 fun c hc => hne c (by simp [hc])⟩
      rcases (Memory.mem_insert m a v c).1 hc with rfl | hc
      · simp only; omega
      · exact h.1 c hc

/-- EVERY WRITE KEEPS THE CANONICAL FORM. -/
theorem Memory.wf_write (m : List Host.Cell) (a : Nat) (v : Byte) (ha : a < 0x1000000) (h : Memory.wf m) :
    Memory.wf (Memory.write m a v) := by
  have hf : Memory.wf (m.filter fun c => c.1 ≠ a) :=
    ⟨h.1.filter _, fun c hc => h.2 c (List.mem_filter.1 hc).1⟩
  unfold Memory.write
  by_cases hv : v = 0
  · simpa [hv] using hf
  · simp only [hv, if_false]
    refine ⟨Memory.insert_rising _ _ _ hf.1 (by simp), fun c hc => ?_⟩
    rcases (Memory.mem_insert _ a v c).1 hc with rfl | hc
    · exact ⟨hv, ha⟩
    · exact hf.2 c hc

/-- The memory after reset is in canonical form. -/
theorem Memory.wf_reset : Memory.wf State.reset.mem := ⟨List.Pairwise.nil, by simp [State.reset]⟩

section
variable (s : State)

/-- A byte of memory depends on memory, its map and what numbers the free values only. -/
theorem State.readPhys_congr {s t : State} (a : PAddr) (hm : t.mem = s.mem) (hk : t.memMap = s.memMap)
    (hf : t.free = s.free) (hu : t.use = s.use) : t.readPhys a = s.readPhys a := by
  unfold State.readPhys; rw [hm, hk, hf, hu]

/-- What a byte of RAM reads as does not depend on which read it is. -/
theorem State.readPhys_ram {s t : State} (a : PAddr) (hm : t.mem = s.mem) (hk : t.memMap = s.memMap)
    (h : kindAt s.memMap a = .ram) : t.readPhys a = s.readPhys a := by
  simp only [State.readPhys, hm, hk, h]

/-- A write changes memory or what the host has received, nothing else. -/
theorem State.writePhys_eq (a : PAddr) (v : Byte) :
    s.writePhys a v = { s with mem := (s.writePhys a v).mem, hostOut := (s.writePhys a v).hostOut } := by
  unfold State.writePhys; split <;> rfl

/-- A write of a word changes memory or what the host has received, nothing else. -/
theorem State.writePhys16_eq (a : PAddr) (v : Word) :
    s.writePhys16 a v = { s with mem := (s.writePhys16 a v).mem, hostOut := (s.writePhys16 a v).hostOut } := by
  unfold State.writePhys16
  rw [State.writePhys_eq (s.writePhys a v.lo), State.writePhys_eq s a v.lo]

@[simp] theorem State.writePhys_regs (a : PAddr) (v : Byte) : (s.writePhys a v).regs = s.regs := by
  rw [State.writePhys_eq]
@[simp] theorem State.writePhys16_regs (a : PAddr) (v : Word) : (s.writePhys16 a v).regs = s.regs := by
  rw [State.writePhys16_eq]
@[simp] theorem State.writePhys_ip (a : PAddr) (v : Byte) : (s.writePhys a v).ip = s.ip := by
  rw [State.writePhys_eq]
@[simp] theorem State.writePhys16_ip (a : PAddr) (v : Word) : (s.writePhys16 a v).ip = s.ip := by
  rw [State.writePhys16_eq]
@[simp] theorem State.writePhys_flags (a : PAddr) (v : Byte) : (s.writePhys a v).flags = s.flags := by
  rw [State.writePhys_eq]
@[simp] theorem State.writePhys16_flags (a : PAddr) (v : Word) : (s.writePhys16 a v).flags = s.flags := by
  rw [State.writePhys16_eq]
@[simp] theorem State.writePhys_es (a : PAddr) (v : Byte) : (s.writePhys a v).es = s.es := by
  rw [State.writePhys_eq]
@[simp] theorem State.writePhys16_es (a : PAddr) (v : Word) : (s.writePhys16 a v).es = s.es := by
  rw [State.writePhys16_eq]
@[simp] theorem State.writePhys_cs (a : PAddr) (v : Byte) : (s.writePhys a v).cs = s.cs := by
  rw [State.writePhys_eq]
@[simp] theorem State.writePhys16_cs (a : PAddr) (v : Word) : (s.writePhys16 a v).cs = s.cs := by
  rw [State.writePhys16_eq]
@[simp] theorem State.writePhys_ss (a : PAddr) (v : Byte) : (s.writePhys a v).ss = s.ss := by
  rw [State.writePhys_eq]
@[simp] theorem State.writePhys16_ss (a : PAddr) (v : Word) : (s.writePhys16 a v).ss = s.ss := by
  rw [State.writePhys16_eq]
@[simp] theorem State.writePhys_ds (a : PAddr) (v : Byte) : (s.writePhys a v).ds = s.ds := by
  rw [State.writePhys_eq]
@[simp] theorem State.writePhys16_ds (a : PAddr) (v : Word) : (s.writePhys16 a v).ds = s.ds := by
  rw [State.writePhys16_eq]
@[simp] theorem State.writePhys_gdtr (a : PAddr) (v : Byte) : (s.writePhys a v).gdtr = s.gdtr := by
  rw [State.writePhys_eq]
@[simp] theorem State.writePhys16_gdtr (a : PAddr) (v : Word) : (s.writePhys16 a v).gdtr = s.gdtr := by
  rw [State.writePhys16_eq]
@[simp] theorem State.writePhys_idtr (a : PAddr) (v : Byte) : (s.writePhys a v).idtr = s.idtr := by
  rw [State.writePhys_eq]
@[simp] theorem State.writePhys16_idtr (a : PAddr) (v : Word) : (s.writePhys16 a v).idtr = s.idtr := by
  rw [State.writePhys16_eq]
@[simp] theorem State.writePhys_ldtr (a : PAddr) (v : Byte) : (s.writePhys a v).ldtr = s.ldtr := by
  rw [State.writePhys_eq]
@[simp] theorem State.writePhys16_ldtr (a : PAddr) (v : Word) : (s.writePhys16 a v).ldtr = s.ldtr := by
  rw [State.writePhys16_eq]
@[simp] theorem State.writePhys_tr (a : PAddr) (v : Byte) : (s.writePhys a v).tr = s.tr := by
  rw [State.writePhys_eq]
@[simp] theorem State.writePhys16_tr (a : PAddr) (v : Word) : (s.writePhys16 a v).tr = s.tr := by
  rw [State.writePhys16_eq]
@[simp] theorem State.writePhys_msw (a : PAddr) (v : Byte) : (s.writePhys a v).msw = s.msw := by
  rw [State.writePhys_eq]
@[simp] theorem State.writePhys16_msw (a : PAddr) (v : Word) : (s.writePhys16 a v).msw = s.msw := by
  rw [State.writePhys16_eq]
@[simp] theorem State.writePhys_runState (a : PAddr) (v : Byte) : (s.writePhys a v).runState = s.runState := by
  rw [State.writePhys_eq]
@[simp] theorem State.writePhys16_runState (a : PAddr) (v : Word) : (s.writePhys16 a v).runState = s.runState := by
  rw [State.writePhys16_eq]
@[simp] theorem State.writePhys_inhibit (a : PAddr) (v : Byte) : (s.writePhys a v).inhibit = s.inhibit := by
  rw [State.writePhys_eq]
@[simp] theorem State.writePhys16_inhibit (a : PAddr) (v : Word) : (s.writePhys16 a v).inhibit = s.inhibit := by
  rw [State.writePhys16_eq]
@[simp] theorem State.writePhys_nmiInService (a : PAddr) (v : Byte) : (s.writePhys a v).nmiInService = s.nmiInService := by
  rw [State.writePhys_eq]
@[simp] theorem State.writePhys16_nmiInService (a : PAddr) (v : Word) : (s.writePhys16 a v).nmiInService = s.nmiInService := by
  rw [State.writePhys16_eq]
@[simp] theorem State.writePhys_nmiPending (a : PAddr) (v : Byte) : (s.writePhys a v).nmiPending = s.nmiPending := by
  rw [State.writePhys_eq]
@[simp] theorem State.writePhys16_nmiPending (a : PAddr) (v : Word) : (s.writePhys16 a v).nmiPending = s.nmiPending := by
  rw [State.writePhys16_eq]
@[simp] theorem State.writePhys_trapPending (a : PAddr) (v : Byte) : (s.writePhys a v).trapPending = s.trapPending := by
  rw [State.writePhys_eq]
@[simp] theorem State.writePhys16_trapPending (a : PAddr) (v : Word) : (s.writePhys16 a v).trapPending = s.trapPending := by
  rw [State.writePhys16_eq]
@[simp] theorem State.writePhys_overrunReq (a : PAddr) (v : Byte) : (s.writePhys a v).overrunReq = s.overrunReq := by
  rw [State.writePhys_eq]
@[simp] theorem State.writePhys16_overrunReq (a : PAddr) (v : Word) : (s.writePhys16 a v).overrunReq = s.overrunReq := by
  rw [State.writePhys16_eq]
@[simp] theorem State.writePhys_intr (a : PAddr) (v : Byte) : (s.writePhys a v).intr = s.intr := by
  rw [State.writePhys_eq]
@[simp] theorem State.writePhys16_intr (a : PAddr) (v : Word) : (s.writePhys16 a v).intr = s.intr := by
  rw [State.writePhys16_eq]
@[simp] theorem State.writePhys_resetReq (a : PAddr) (v : Byte) : (s.writePhys a v).resetReq = s.resetReq := by
  rw [State.writePhys_eq]
@[simp] theorem State.writePhys16_resetReq (a : PAddr) (v : Word) : (s.writePhys16 a v).resetReq = s.resetReq := by
  rw [State.writePhys16_eq]
@[simp] theorem State.writePhys_npxBusy (a : PAddr) (v : Byte) : (s.writePhys a v).npxBusy = s.npxBusy := by
  rw [State.writePhys_eq]
@[simp] theorem State.writePhys16_npxBusy (a : PAddr) (v : Word) : (s.writePhys16 a v).npxBusy = s.npxBusy := by
  rw [State.writePhys16_eq]
@[simp] theorem State.writePhys_npxError (a : PAddr) (v : Byte) : (s.writePhys a v).npxError = s.npxError := by
  rw [State.writePhys_eq]
@[simp] theorem State.writePhys16_npxError (a : PAddr) (v : Word) : (s.writePhys16 a v).npxError = s.npxError := by
  rw [State.writePhys16_eq]
@[simp] theorem State.writePhys_memMap (a : PAddr) (v : Byte) : (s.writePhys a v).memMap = s.memMap := by
  rw [State.writePhys_eq]
@[simp] theorem State.writePhys16_memMap (a : PAddr) (v : Word) : (s.writePhys16 a v).memMap = s.memMap := by
  rw [State.writePhys16_eq]
@[simp] theorem State.writePhys_free (a : PAddr) (v : Byte) : (s.writePhys a v).free = s.free := by
  rw [State.writePhys_eq]
@[simp] theorem State.writePhys16_free (a : PAddr) (v : Word) : (s.writePhys16 a v).free = s.free := by
  rw [State.writePhys16_eq]
@[simp] theorem State.writePhys_npxPresent (a : PAddr) (v : Byte) : (s.writePhys a v).npxPresent = s.npxPresent := by
  rw [State.writePhys_eq]
@[simp] theorem State.writePhys16_npxPresent (a : PAddr) (v : Word) : (s.writePhys16 a v).npxPresent = s.npxPresent := by
  rw [State.writePhys16_eq]
@[simp] theorem State.writePhys_npxIn (a : PAddr) (v : Byte) : (s.writePhys a v).npxIn = s.npxIn := by
  rw [State.writePhys_eq]
@[simp] theorem State.writePhys16_npxIn (a : PAddr) (v : Word) : (s.writePhys16 a v).npxIn = s.npxIn := by
  rw [State.writePhys16_eq]
@[simp] theorem State.writePhys_channel (a : PAddr) (v : Byte) : (s.writePhys a v).channel = s.channel := by
  rw [State.writePhys_eq]
@[simp] theorem State.writePhys16_channel (a : PAddr) (v : Word) : (s.writePhys16 a v).channel = s.channel := by
  rw [State.writePhys16_eq]
@[simp] theorem State.writePhys_use (a : PAddr) (v : Byte) : (s.writePhys a v).use = s.use := by
  rw [State.writePhys_eq]
@[simp] theorem State.writePhys16_use (a : PAddr) (v : Word) : (s.writePhys16 a v).use = s.use := by
  rw [State.writePhys16_eq]
@[simp] theorem State.writePhys_dec (a : PAddr) (v : Byte) : (s.writePhys a v).dec = s.dec := by
  rw [State.writePhys_eq]
@[simp] theorem State.writePhys16_dec (a : PAddr) (v : Word) : (s.writePhys16 a v).dec = s.dec := by
  rw [State.writePhys16_eq]
@[simp] theorem State.writePhys_seg (a : PAddr) (v : Byte) (x : SReg) : (s.writePhys a v).seg x = s.seg x := by
  cases x <;> simp [State.seg]
@[simp] theorem State.writePhys_prot (a : PAddr) (v : Byte) : (s.writePhys a v).prot = s.prot := by simp [State.prot]
@[simp] theorem State.writePhys_cpl (a : PAddr) (v : Byte) : (s.writePhys a v).cpl = s.cpl := by simp [State.cpl]
@[simp] theorem State.writePhys_nextIp (a : PAddr) (v : Byte) : (s.writePhys a v).nextIp = s.nextIp := by simp [State.nextIp]
@[simp] theorem State.writePhys_canRead (a : PAddr) (v : Byte) (x : SReg) (o : Word) (n : Nat) :
    (s.writePhys a v).canRead x o n = s.canRead x o n := by simp [State.canRead]
@[simp] theorem State.writePhys_canWrite (a : PAddr) (v : Byte) (x : SReg) (o : Word) (n : Nat) :
    (s.writePhys a v).canWrite x o n = s.canWrite x o n := by simp [State.canWrite]
@[simp] theorem State.writePhys16_seg (a : PAddr) (v : Word) (x : SReg) : (s.writePhys16 a v).seg x = s.seg x := by
  cases x <;> simp [State.seg]
@[simp] theorem State.writePhys16_prot (a : PAddr) (v : Word) : (s.writePhys16 a v).prot = s.prot := by simp [State.prot]
@[simp] theorem State.writePhys16_cpl (a : PAddr) (v : Word) : (s.writePhys16 a v).cpl = s.cpl := by simp [State.cpl]
@[simp] theorem State.writePhys16_nextIp (a : PAddr) (v : Word) : (s.writePhys16 a v).nextIp = s.nextIp := by simp [State.nextIp]
@[simp] theorem State.writePhys16_canRead (a : PAddr) (v : Word) (x : SReg) (o : Word) (n : Nat) :
    (s.writePhys16 a v).canRead x o n = s.canRead x o n := by simp [State.canRead]
@[simp] theorem State.writePhys16_canWrite (a : PAddr) (v : Word) (x : SReg) (o : Word) (n : Nat) :
    (s.writePhys16 a v).canWrite x o n = s.canWrite x o n := by simp [State.canWrite]

/-- READ AFTER WRITE of a byte by physical address: only RAM takes the byte (R127, R128). -/
theorem State.readPhys_writePhys (a b : PAddr) (v : Byte) :
    (s.writePhys a v).readPhys b = if b = a ∧ kindAt s.memMap a = .ram then v else s.readPhys b := by
  have hab : b.toNat = a.toNat ↔ b = a := ⟨BitVec.eq_of_toNat_eq, fun h => h ▸ rfl⟩
  cases hk : kindAt s.memMap a with
  | ram =>
    by_cases h : b = a
    · subst h; simp [State.readPhys, State.writePhys, hk, Memory.read_write]
    · simp [State.readPhys, State.writePhys, hk, Memory.read_write, hab, h]
  | rom => simp [State.writePhys, hk]
  | absent => simp [State.writePhys, hk]
  | device => simp [State.readPhys, State.writePhys, hk]

/-- A write leaves every other byte alone. -/
theorem State.readPhys_writePhys_ne (a b : PAddr) (v : Byte) (h : b ≠ a) :
    (s.writePhys a v).readPhys b = s.readPhys b := by
  rw [State.readPhys_writePhys, if_neg fun hc => h hc.1]

/-- A write of a word leaves every byte but its two alone. -/
theorem State.readPhys_writePhys16_ne (a b : PAddr) (v : Word) (h : b ∉ wordCells a) :
    (s.writePhys16 a v).readPhys b = s.readPhys b := by
  simp only [wordCells, List.mem_cons, List.not_mem_nil, or_false, not_or] at h
  rw [State.writePhys16, State.readPhys_writePhys_ne _ _ _ _ h.2, State.readPhys_writePhys_ne _ _ _ _ h.1]

/-- Two consecutive physical addresses differ. -/
theorem PAddr.succ_ne (a : PAddr) : a + 1 ≠ a := by bv_omega

/-- A word is its two bytes. -/
@[simp] theorem Word.ofBytes_lo_hi (w : Word) : Word.ofBytes w.lo w.hi = w := by
  simp only [Word.ofBytes, Word.lo, Word.hi]
  ext i hi
  simp only [BitVec.getElem_append, BitVec.getElem_extractLsb']
  split
  · simp [BitVec.getLsbD_eq_getElem hi]
  · have : 8 + (i - 8) = i := by omega
    simp [this, BitVec.getLsbD_eq_getElem hi]

/-- READ AFTER WRITE of a word in RAM. -/
theorem State.readPhys16_writePhys16 (a : PAddr) (v : Word) (h : s.ram (wordCells a)) :
    (s.writePhys16 a v).readPhys16 a = v := by
  have h0 : kindAt s.memMap a = .ram := h a (by simp [wordCells])
  have h1 : kindAt s.memMap (a + 1) = .ram := h (a + 1) (by simp [wordCells])
  have hn := PAddr.succ_ne a
  unfold State.readPhys16 State.writePhys16
  rw [State.readPhys_writePhys_ne _ _ _ _ (Ne.symm hn), State.readPhys_writePhys, State.readPhys_writePhys,
    if_pos ⟨rfl, h0⟩, State.writePhys_memMap, if_pos ⟨rfl, h1⟩, Word.ofBytes_lo_hi]

/-- A word that no written byte is part of reads as before. -/
theorem State.readPhys16_writePhys16_ne (a b : PAddr) (v : Word) (h : ∀ c ∈ wordCells b, c ∉ wordCells a) :
    (s.writePhys16 a v).readPhys16 b = s.readPhys16 b := by
  unfold State.readPhys16
  rw [State.readPhys_writePhys16_ne _ _ _ _ (h b (by simp [wordCells])),
    State.readPhys_writePhys16_ne _ _ _ _ (h (b + 1) (by simp [wordCells]))]

/-- A write keeps the canonical form of memory. -/
theorem State.wf_writePhys (a : PAddr) (v : Byte) (h : Memory.wf s.mem) : Memory.wf (s.writePhys a v).mem := by
  unfold State.writePhys
  split
  · exact Memory.wf_write _ _ _ (by simpa using a.isLt) h
  all_goals exact h

/-- A write of a word keeps the canonical form of memory. -/
theorem State.wf_writePhys16 (a : PAddr) (v : Word) (h : Memory.wf s.mem) : Memory.wf (s.writePhys16 a v).mem :=
  State.wf_writePhys _ _ _ (State.wf_writePhys _ _ _ h)

end

end Sys2Proof.Machine
end

