-- ==== Sys2Proof/Laws/Access.lean ====
section
/-!
SUPPORT. What checked references, the stack and operands can do, said once for each.
-/

namespace Sys2Proof.Machine

variable (s : State)

@[simp] theorem check_true (e : Stop) : check true e = .ok () := rfl
@[simp] theorem check_false (e : Stop) : check false e = .error e := rfl

/-- A check passes exactly when its condition holds. -/
theorem check_ok (b : Bool) (e : Stop) (u : Unit) : check b e = .ok u ↔ b = true := by cases b <;> simp [check]

/-- Sequencing a computation that has answered. -/
@[simp] theorem run_bind_ok {α β : Type} (a : α) (f : α → Run β) : (Except.ok a >>= f) = f a := rfl

/-- Sequencing a computation that has stopped. -/
@[simp] theorem run_bind_error {α β : Type} (e : Stop) (f : α → Run β) : ((Except.error e : Run α) >>= f) = .error e :=
  rfl

@[simp] theorem run_pure {α : Type} (a : α) : (pure a : Run α) = .ok a := rfl

/-- What a sequence that answered did: its first part answered, and its second from there. -/
theorem run_bind_eq_ok {α β : Type} {x : Run α} {f : α → Run β} {b : β} :
    (x >>= f) = .ok b ↔ ∃ a, x = .ok a ∧ f a = .ok b := by
  cases x with
  | ok a => simp
  | error e => simp

@[simp] theorem leaving_ok {α : Type} (t : State) (v : α) : leaving t (.ok v) = .ok v := rfl

/-- What may be written may be read (R144, R145). -/
theorem State.canRead_of_canWrite (x : SReg) (off : Word) (n : Nat) (h : s.canWrite x off n = true) :
    s.canRead x off n = true := by
  unfold State.canWrite at h; unfold State.canRead
  split at h
  · rename_i hp
    rw [if_pos hp]
    simp only [SegReg.writable, SegReg.readable, Bool.and_eq_true, Bool.or_eq_true] at h ⊢
    exact ⟨⟨h.1.1, .inl h.1.2.1⟩, h.2⟩
  · rename_i hp; rw [if_neg hp]; exact h

/-- An allowed reference ends at or below offset FFFFH (R130). -/
theorem State.canRead_le (x : SReg) (off : Word) (n : Nat) (h : s.canRead x off n = true) :
    off.toNat + n ≤ 0x10000 := by
  unfold State.canRead at h
  split at h
  · simp only [Bool.and_eq_true, SegReg.inLimit] at h
    have h3 := h.2
    split at h3
    · simp only [Bool.and_eq_true, decide_eq_true_eq] at h3; exact h3.2
    · have := (s.seg x).limit.isLt
      simp only [decide_eq_true_eq] at h3; omega
  · simpa using h

/-- A byte reference that passes its checks. -/
theorem State.readSeg8_ok (x : SReg) (off : Word) (h : s.canRead x off 1 = true) :
    s.readSeg8 x off = .ok (s.readPhys ((s.seg x).lin off)) := by simp [State.readSeg8, h]

/-- A word reference that passes its checks. -/
theorem State.readSeg16_ok (x : SReg) (off : Word) (h : s.canRead x off 2 = true) :
    s.readSeg16 x off = .ok (s.readPhys16 ((s.seg x).lin off)) := by simp [State.readSeg16, h]

theorem State.writeSeg8_ok (x : SReg) (off : Word) (v : Byte) (h : s.canWrite x off 1 = true) :
    s.writeSeg8 x off v = .ok (s.writePhys ((s.seg x).lin off) v) := by simp [State.writeSeg8, h]

theorem State.writeSeg16_ok (x : SReg) (off : Word) (v : Word) (h : s.canWrite x off 2 = true) :
    s.writeSeg16 x off v = .ok (s.writePhys16 ((s.seg x).lin off) v) := by simp [State.writeSeg16, h]

theorem State.readSeg8_fault (x : SReg) (off : Word) (h : s.canRead x off 1 = false) :
    s.readSeg8 x off = .error (s.segFault x) := by simp [State.readSeg8, h]

theorem State.readSeg16_fault (x : SReg) (off : Word) (h : s.canRead x off 2 = false) :
    s.readSeg16 x off = .error (s.segFault x) := by simp [State.readSeg16, h]

theorem State.writeSeg8_fault (x : SReg) (off : Word) (v : Byte) (h : s.canWrite x off 1 = false) :
    s.writeSeg8 x off v = .error (s.segFault x) := by simp [State.writeSeg8, h]

theorem State.writeSeg16_fault (x : SReg) (off : Word) (v : Word) (h : s.canWrite x off 2 = false) :
    s.writeSeg16 x off v = .error (s.segFault x) := by simp [State.writeSeg16, h]

/-- A push that passes its check (R160). -/
theorem State.push_ok (v : Word) (h : s.canWrite .ss (s.regs.sp - 2) 2 = true) :
    s.push v = .ok (s.pushRaw v) := by
  rw [State.push, State.writeSeg16_ok _ _ _ _ h]; rfl

/-- A pop that passes its check (R161). -/
theorem State.pop_ok (h : s.canRead .ss s.regs.sp 2 = true) :
    s.pop = .ok (s.readPhys16 (s.ss.lin s.regs.sp), s.setSp (s.regs.sp + 2)) := by
  rw [State.pop, State.readSeg16_ok _ _ _ h]; rfl

/-- A push or a pop that fails its check raises what its reference does (R160, R161). -/
theorem State.push_fault (v : Word) (h : s.canWrite .ss (s.regs.sp - 2) 2 = false) :
    s.push v = .error (s.segFault .ss) := by
  rw [State.push, State.writeSeg16_fault _ _ _ _ h]; rfl

theorem State.pop_fault (h : s.canRead .ss s.regs.sp 2 = false) : s.pop = .error (s.segFault .ss) := by
  rw [State.pop, State.readSeg16_fault _ _ _ h]; rfl

@[simp] theorem State.canPush_one : s.canPush 1 = s.canWrite .ss (s.regs.sp - 2) 2 := by simp [State.canPush]

/-- The segment's base is added modulo 2^24, so that offsets that do not wrap lie one behind the other (R133). -/
theorem SegReg.lin_add (x : SegReg) (off : Word) (k : Nat) (h : off.toNat + k < 0x10000) :
    x.lin (off + BitVec.ofNat 16 k) = x.lin off + BitVec.ofNat 24 k := by
  have : (off + BitVec.ofNat 16 k).setWidth 24 = off.setWidth 24 + BitVec.ofNat 24 k := by
    apply BitVec.eq_of_toNat_eq
    simp only [BitVec.toNat_setWidth, BitVec.toNat_add, BitVec.toNat_ofNat]
    omega
  rw [SegReg.lin, SegReg.lin, this, BitVec.add_assoc]

/-- Two offsets of one segment are two addresses (R133). -/
theorem SegReg.lin_inj (x : SegReg) (a b : Word) : x.lin a = x.lin b ↔ a = b := by
  constructor
  · intro h
    have h1 := congrArg (fun c => c - x.base) h
    have h2 : a.setWidth 24 = b.setWidth 24 := by
      simp only [SegReg.lin] at h1
      have ha : x.base + a.setWidth 24 - x.base = a.setWidth 24 := by
        rw [BitVec.add_comm, BitVec.add_sub_cancel]
      have hb : x.base + b.setWidth 24 - x.base = b.setWidth 24 := by
        rw [BitVec.add_comm, BitVec.add_sub_cancel]
      rw [ha, hb] at h1; exact h1
    apply BitVec.eq_of_toNat_eq
    have h3 := congrArg BitVec.toNat h2
    simp only [BitVec.toNat_setWidth] at h3
    have := a.isLt; have := b.isLt; omega
  · rintro rfl; rfl

/-! Operands -/

/-- A byte operand that may be written may be read. -/
theorem State.canReadE8_of_canWrite (e : E8) (h : s.canWriteE8 e = true) : s.canReadE8 e = true := by
  cases e with
  | reg r => rfl
  | mem m => exact s.canRead_of_canWrite _ _ _ h

/-- A word operand that may be written may be read. -/
theorem State.canReadE16_of_canWrite (e : E16) (h : s.canWriteE16 e = true) : s.canReadE16 e = true := by
  cases e with
  | reg r => rfl
  | mem m => exact s.canRead_of_canWrite _ _ _ h

theorem State.readE8_ok (e : E8) (h : s.canReadE8 e = true) : s.readE8 e = .ok (s.val8 e) := by
  cases e with
  | reg r => rfl
  | mem m => exact s.readSeg8_ok _ _ h

theorem State.readE16_ok (e : E16) (h : s.canReadE16 e = true) : s.readE16 e = .ok (s.val16 e) := by
  cases e with
  | reg r => rfl
  | mem m => exact s.readSeg16_ok _ _ h

theorem State.writeE8_ok (e : E8) (v : Byte) (h : s.canWriteE8 e = true) : s.writeE8 e v = .ok (s.put8 e v) := by
  cases e with
  | reg r => rfl
  | mem m => exact s.writeSeg8_ok _ _ _ h

theorem State.writeE16_ok (e : E16) (v : Word) (h : s.canWriteE16 e = true) : s.writeE16 e v = .ok (s.put16 e v) := by
  cases e with
  | reg r => rfl
  | mem m => exact s.writeSeg16_ok _ _ _ h

/-- An operand in memory that fails its check raises what its reference does (R147, R148). -/
theorem State.readE8_fault (m : Mem) (h : s.canReadE8 (.mem m) = false) :
    s.readE8 (.mem m) = .error (s.segFault (s.eaSeg m)) := s.readSeg8_fault _ _ h

theorem State.readE16_fault (m : Mem) (h : s.canReadE16 (.mem m) = false) :
    s.readE16 (.mem m) = .error (s.segFault (s.eaSeg m)) := s.readSeg16_fault _ _ h

theorem State.writeE8_fault (m : Mem) (v : Byte) (h : s.canWriteE8 (.mem m) = false) :
    s.writeE8 (.mem m) v = .error (s.segFault (s.eaSeg m)) := s.writeSeg8_fault _ _ _ h

theorem State.writeE16_fault (m : Mem) (v : Word) (h : s.canWriteE16 (.mem m) = false) :
    s.writeE16 (.mem m) v = .error (s.segFault (s.eaSeg m)) := s.writeSeg16_fault _ _ _ h

/-- A pointer operand in memory that can be read whole (R147). -/
theorem State.readPointer_ok (m : Mem) (h : s.canReadMem m 4 = true) :
    s.readPointer (.mem m) = .ok (s.readPhys16 (s.addr m), s.readPhys16 (s.addr m + 2)) := by
  have h' : s.canRead (s.eaSeg m) (s.eaOff m) 4 = true := h
  have hle := s.canRead_le _ _ _ h'
  have h2 := (s.seg (s.eaSeg m)).lin_add (s.eaOff m) 2 (by omega)
  simp only [State.readPointer, E16.memOnly, State.readSeg32, run_bind_ok, h', check_true, run_pure]
  rw [show (2 : Word) = BitVec.ofNat 16 2 from rfl, h2]
  rfl

/-- Six bytes in memory that can be read whole (R671). -/
theorem State.readSeg48_ok (x : SReg) (off : Word) (h : s.canRead x off 6 = true) :
    let a := (s.seg x).lin off
    s.readSeg48 x off = .ok (s.readPhys16 a, s.readPhys16 (a + 2), s.readPhys16 (a + 4)) := by
  have hle := s.canRead_le _ _ _ h
  have h2 := (s.seg x).lin_add off 2 (by omega)
  have h4 := (s.seg x).lin_add off 4 (by omega)
  simp only [State.readSeg48, h, check_true, run_bind_ok, run_pure]
  rw [show (2 : Word) = BitVec.ofNat 16 2 from rfl, show (4 : Word) = BitVec.ofNat 16 4 from rfl, h2, h4]
  rfl

/-! What operand writes leave alone -/

/-- Memory outside a byte operand is as before. -/
theorem State.readPhys_put8 (e : E8) (v : Byte) (a : PAddr) (h : a ∉ s.cells8 e) :
    (s.put8 e v).readPhys a = s.readPhys a := by
  cases e with
  | reg r => rfl
  | mem m => exact s.readPhys_writePhys_ne _ _ _ (by simpa [State.cells8] using h)

/-- Memory outside a word operand is as before. -/
theorem State.readPhys_put16 (e : E16) (v : Word) (a : PAddr) (h : a ∉ s.cells16 e) :
    (s.put16 e v).readPhys a = s.readPhys a := by
  cases e with
  | reg r => rfl
  | mem m => exact s.readPhys_writePhys16_ne _ _ _ (by simpa [State.cells16] using h)

@[simp] theorem State.put8_ip (e : E8) (v : Byte) : (s.put8 e v).ip = s.ip := by
  cases e <;> simp [State.put8]
@[simp] theorem State.put8_flags (e : E8) (v : Byte) : (s.put8 e v).flags = s.flags := by
  cases e <;> simp [State.put8]
@[simp] theorem State.put8_es (e : E8) (v : Byte) : (s.put8 e v).es = s.es := by
  cases e <;> simp [State.put8]
@[simp] theorem State.put8_cs (e : E8) (v : Byte) : (s.put8 e v).cs = s.cs := by
  cases e <;> simp [State.put8]
@[simp] theorem State.put8_ss (e : E8) (v : Byte) : (s.put8 e v).ss = s.ss := by
  cases e <;> simp [State.put8]
@[simp] theorem State.put8_ds (e : E8) (v : Byte) : (s.put8 e v).ds = s.ds := by
  cases e <;> simp [State.put8]
@[simp] theorem State.put8_gdtr (e : E8) (v : Byte) : (s.put8 e v).gdtr = s.gdtr := by
  cases e <;> simp [State.put8]
@[simp] theorem State.put8_idtr (e : E8) (v : Byte) : (s.put8 e v).idtr = s.idtr := by
  cases e <;> simp [State.put8]
@[simp] theorem State.put8_ldtr (e : E8) (v : Byte) : (s.put8 e v).ldtr = s.ldtr := by
  cases e <;> simp [State.put8]
@[simp] theorem State.put8_tr (e : E8) (v : Byte) : (s.put8 e v).tr = s.tr := by
  cases e <;> simp [State.put8]
@[simp] theorem State.put8_msw (e : E8) (v : Byte) : (s.put8 e v).msw = s.msw := by
  cases e <;> simp [State.put8]
@[simp] theorem State.put8_runState (e : E8) (v : Byte) : (s.put8 e v).runState = s.runState := by
  cases e <;> simp [State.put8]
@[simp] theorem State.put8_inhibit (e : E8) (v : Byte) : (s.put8 e v).inhibit = s.inhibit := by
  cases e <;> simp [State.put8]
@[simp] theorem State.put8_nmiInService (e : E8) (v : Byte) : (s.put8 e v).nmiInService = s.nmiInService := by
  cases e <;> simp [State.put8]
@[simp] theorem State.put8_nmiPending (e : E8) (v : Byte) : (s.put8 e v).nmiPending = s.nmiPending := by
  cases e <;> simp [State.put8]
@[simp] theorem State.put8_trapPending (e : E8) (v : Byte) : (s.put8 e v).trapPending = s.trapPending := by
  cases e <;> simp [State.put8]
@[simp] theorem State.put8_overrunReq (e : E8) (v : Byte) : (s.put8 e v).overrunReq = s.overrunReq := by
  cases e <;> simp [State.put8]
@[simp] theorem State.put8_intr (e : E8) (v : Byte) : (s.put8 e v).intr = s.intr := by
  cases e <;> simp [State.put8]
@[simp] theorem State.put8_resetReq (e : E8) (v : Byte) : (s.put8 e v).resetReq = s.resetReq := by
  cases e <;> simp [State.put8]
@[simp] theorem State.put8_npxBusy (e : E8) (v : Byte) : (s.put8 e v).npxBusy = s.npxBusy := by
  cases e <;> simp [State.put8]
@[simp] theorem State.put8_npxError (e : E8) (v : Byte) : (s.put8 e v).npxError = s.npxError := by
  cases e <;> simp [State.put8]
@[simp] theorem State.put8_memMap (e : E8) (v : Byte) : (s.put8 e v).memMap = s.memMap := by
  cases e <;> simp [State.put8]
@[simp] theorem State.put8_free (e : E8) (v : Byte) : (s.put8 e v).free = s.free := by
  cases e <;> simp [State.put8]
@[simp] theorem State.put8_npxPresent (e : E8) (v : Byte) : (s.put8 e v).npxPresent = s.npxPresent := by
  cases e <;> simp [State.put8]
@[simp] theorem State.put8_npxIn (e : E8) (v : Byte) : (s.put8 e v).npxIn = s.npxIn := by
  cases e <;> simp [State.put8]
@[simp] theorem State.put8_channel (e : E8) (v : Byte) : (s.put8 e v).channel = s.channel := by
  cases e <;> simp [State.put8]
@[simp] theorem State.put8_use (e : E8) (v : Byte) : (s.put8 e v).use = s.use := by
  cases e <;> simp [State.put8]
@[simp] theorem State.put8_dec (e : E8) (v : Byte) : (s.put8 e v).dec = s.dec := by
  cases e <;> simp [State.put8]
@[simp] theorem State.put8_nextIp (e : E8) (v : Byte) : (s.put8 e v).nextIp = s.nextIp := by simp [State.nextIp]
@[simp] theorem State.put16_ip (e : E16) (v : Word) : (s.put16 e v).ip = s.ip := by
  cases e <;> simp [State.put16]
@[simp] theorem State.put16_flags (e : E16) (v : Word) : (s.put16 e v).flags = s.flags := by
  cases e <;> simp [State.put16]
@[simp] theorem State.put16_es (e : E16) (v : Word) : (s.put16 e v).es = s.es := by
  cases e <;> simp [State.put16]
@[simp] theorem State.put16_cs (e : E16) (v : Word) : (s.put16 e v).cs = s.cs := by
  cases e <;> simp [State.put16]
@[simp] theorem State.put16_ss (e : E16) (v : Word) : (s.put16 e v).ss = s.ss := by
  cases e <;> simp [State.put16]
@[simp] theorem State.put16_ds (e : E16) (v : Word) : (s.put16 e v).ds = s.ds := by
  cases e <;> simp [State.put16]
@[simp] theorem State.put16_gdtr (e : E16) (v : Word) : (s.put16 e v).gdtr = s.gdtr := by
  cases e <;> simp [State.put16]
@[simp] theorem State.put16_idtr (e : E16) (v : Word) : (s.put16 e v).idtr = s.idtr := by
  cases e <;> simp [State.put16]
@[simp] theorem State.put16_ldtr (e : E16) (v : Word) : (s.put16 e v).ldtr = s.ldtr := by
  cases e <;> simp [State.put16]
@[simp] theorem State.put16_tr (e : E16) (v : Word) : (s.put16 e v).tr = s.tr := by
  cases e <;> simp [State.put16]
@[simp] theorem State.put16_msw (e : E16) (v : Word) : (s.put16 e v).msw = s.msw := by
  cases e <;> simp [State.put16]
@[simp] theorem State.put16_runState (e : E16) (v : Word) : (s.put16 e v).runState = s.runState := by
  cases e <;> simp [State.put16]
@[simp] theorem State.put16_inhibit (e : E16) (v : Word) : (s.put16 e v).inhibit = s.inhibit := by
  cases e <;> simp [State.put16]
@[simp] theorem State.put16_nmiInService (e : E16) (v : Word) : (s.put16 e v).nmiInService = s.nmiInService := by
  cases e <;> simp [State.put16]
@[simp] theorem State.put16_nmiPending (e : E16) (v : Word) : (s.put16 e v).nmiPending = s.nmiPending := by
  cases e <;> simp [State.put16]
@[simp] theorem State.put16_trapPending (e : E16) (v : Word) : (s.put16 e v).trapPending = s.trapPending := by
  cases e <;> simp [State.put16]
@[simp] theorem State.put16_overrunReq (e : E16) (v : Word) : (s.put16 e v).overrunReq = s.overrunReq := by
  cases e <;> simp [State.put16]
@[simp] theorem State.put16_intr (e : E16) (v : Word) : (s.put16 e v).intr = s.intr := by
  cases e <;> simp [State.put16]
@[simp] theorem State.put16_resetReq (e : E16) (v : Word) : (s.put16 e v).resetReq = s.resetReq := by
  cases e <;> simp [State.put16]
@[simp] theorem State.put16_npxBusy (e : E16) (v : Word) : (s.put16 e v).npxBusy = s.npxBusy := by
  cases e <;> simp [State.put16]
@[simp] theorem State.put16_npxError (e : E16) (v : Word) : (s.put16 e v).npxError = s.npxError := by
  cases e <;> simp [State.put16]
@[simp] theorem State.put16_memMap (e : E16) (v : Word) : (s.put16 e v).memMap = s.memMap := by
  cases e <;> simp [State.put16]
@[simp] theorem State.put16_free (e : E16) (v : Word) : (s.put16 e v).free = s.free := by
  cases e <;> simp [State.put16]
@[simp] theorem State.put16_npxPresent (e : E16) (v : Word) : (s.put16 e v).npxPresent = s.npxPresent := by
  cases e <;> simp [State.put16]
@[simp] theorem State.put16_npxIn (e : E16) (v : Word) : (s.put16 e v).npxIn = s.npxIn := by
  cases e <;> simp [State.put16]
@[simp] theorem State.put16_channel (e : E16) (v : Word) : (s.put16 e v).channel = s.channel := by
  cases e <;> simp [State.put16]
@[simp] theorem State.put16_use (e : E16) (v : Word) : (s.put16 e v).use = s.use := by
  cases e <;> simp [State.put16]
@[simp] theorem State.put16_dec (e : E16) (v : Word) : (s.put16 e v).dec = s.dec := by
  cases e <;> simp [State.put16]
@[simp] theorem State.put16_nextIp (e : E16) (v : Word) : (s.put16 e v).nextIp = s.nextIp := by simp [State.nextIp]

/-! The end of a meaning -/

@[simp] theorem State.finish_ok (t : State) : s.finish (.ok t) = .next t := rfl

/-- A meaning that stops with an exception that leaves nothing behind takes it from the state before. -/
@[simp] theorem State.finish_exc (vec : Byte) (code : Option Word) :
    s.finish (.error (.exc vec code none)) = s.exception vec code := rfl

/-- A meaning that stops with an exception that leaves a state behind takes it from there. -/
@[simp] theorem State.finish_exc_left (vec : Byte) (code : Option Word) (t : State) :
    s.finish (.error (.exc vec code (some t))) = t.exception vec code := rfl

@[simp] theorem State.finish_refuse (q : Refusal) : s.finish (.error (.refuse q)) = .refused q := rfl

/-- What a failed reference raises carries no state. -/
theorem State.segFault_exc (x : SReg) : ∃ vec code, s.segFault x = .exc vec code none := by
  unfold State.segFault
  split <;> exact ⟨_, _, rfl⟩

/-- A failed reference after which `t` is left is the exception taken from `t` (R149). -/
theorem State.finish_leaving_fault {α : Type} (t : State) (x : SReg) (f : α → Run State) :
    s.finish (leaving t (.error (s.segFault x)) >>= f) = t.finish (.error (s.segFault x)) := by
  obtain ⟨vec, code, h⟩ := s.segFault_exc x
  rw [h]
  rfl

/-- A meaning that answers a next state either completed there, or took an exception there, from the state before or from
the one it had reached. -/
theorem State.finish_next (r : Run State) (t : State) (h : s.finish r = .next t) :
    r = .ok t ∨ ∃ vec code left, r = .error (.exc vec code left) ∧ (left.getD s).takeException vec code = .ok t := by
  match r with
  | .ok u => left; simpa using h
  | .error (.refuse q) => simp [State.finish] at h
  | .error (.exc vec code l) =>
    right; refine ⟨vec, code, l, rfl, ?_⟩
    simp only [State.finish] at h
    split at h
    · rename_i u hu; cases h; exact hu
    · cases h

/-- `Does` from the next state and what it leaves of memory. -/
theorem Does.of_next {i : Instr} {s t : State} {stored : List PAddr} (h : exec i s = .next t)
    (hm : ∀ a, a ∉ stored → t.readPhys a = s.readPhys a) : Does i s t stored := ⟨h, hm⟩

/-- `Does` for an instruction that leaves memory alone. -/
theorem Does.of_keep {i : Instr} {s t : State} {stored : List PAddr} (h : exec i s = .next t)
    (hm : t.mem = s.mem) (hk : t.memMap = s.memMap) (hf : t.free = s.free) (hu : t.use = s.use) : Does i s t stored :=
  ⟨h, fun a _ => State.readPhys_congr a hm hk hf hu⟩

end Sys2Proof.Machine
end

