-- ==== Sys2Proof/Laws/Flags.lean ====
section
/-!
SUPPORT. The flag computations in exact integers.
-/

namespace Sys2Proof.Machine

/-- The parity computed bit by bit is the parity of the number (R47). -/
theorem evenParity_eq {w : Nat} (r : BitVec w) : evenParity (r.setWidth 8) = parityOf r.toNat := by
  have hl : (r.setWidth 8).toNat = r.toNat % 256 := by simp
  have hb : ∀ k, k < 8 → (r.setWidth 8).getLsbD k = decide (r.toNat / 2 ^ k % 2 = 1) := by
    intro k hk
    rw [BitVec.getLsbD_setWidth]
    simp [hk, BitVec.getLsbD, Nat.testBit_eq_decide_div_mod_eq]
  unfold evenParity parityOf
  rw [← List.countP_eq_length_filter]
  have hc : List.countP (fun i => (r.setWidth 8).getLsbD i) (List.range 8) =
      List.countP (fun k => decide (r.toNat / 2 ^ k % 2 = 1)) (List.range 8) := by
    apply List.countP_congr
    intro k hk
    rw [hb k (List.mem_range.1 hk)]
  rw [hc]
  exact Bool.eq_iff_iff.2 (by rw [beq_iff_eq, decide_eq_true_iff])

/-- SF, ZF and PF of a result, as bits and as numbers (R350). -/
theorem Flags.szp_eq {w : Nat} (f : Flags) (r : BitVec w) : f.szp r = f.result r := by
  unfold Flags.szp Flags.result
  have h1 : r.msb = decide (r.toInt < 0) := by
    rw [BitVec.msb_eq_toInt]
  have h2 : (r == 0) = decide (r.toNat = 0) := by
    apply Bool.eq_iff_iff.2
    rw [beq_iff_eq, decide_eq_true_iff]
    constructor
    · intro h; rw [h]; simp
    · intro h; apply BitVec.eq_of_toNat_eq; simpa using h
  rw [h1, h2, evenParity_eq]

/-- A word's signed value by its sign bit. -/
theorem toInt_msb {w : Nat} (a : BitVec w) : a.toInt = a.toNat - (if a.msb then (2 ^ w : Int) else 0) := by
  have := BitVec.toInt_eq_msb_cond a
  split at this <;> simp_all

/-- The sign bit by the unsigned value. -/
theorem msb_iff {w : Nat} (a : BitVec w) : a.msb = true ↔ 2 ^ w ≤ 2 * a.toNat := by
  rw [BitVec.msb_eq_decide, decide_eq_true_iff]
  cases w with
  | zero => simp [BitVec.toNat_of_zero_length]
  | succ n => simp only [Nat.add_sub_cancel, Nat.pow_succ]; omega

/-- ADDITION FLAGS are those of the exact sums (R351). -/
theorem Flags.add_eq {w : Nat} (hw : 0 < w) (f : Flags) (a b : BitVec w) (c : Bool) :
    (addResult a b c, f.add a b c) = f.sum a b c := by
  have hr : (addResult a b c).toNat = (a.toNat + b.toNat + c.toNat) % 2 ^ w := by simp [addResult]
  have ha := msb_iff a
  have hb := msb_iff b
  have hm := msb_iff (addResult a b c)
  have la := a.isLt
  have lb := b.isLt
  have hc : c.toNat ≤ 1 := by cases c <;> decide
  obtain ⟨m, rfl⟩ : ∃ m, w = m + 1 := ⟨w - 1, by omega⟩
  have hp : (2 : Nat) ^ (m + 1) = 2 * 2 ^ m := by rw [Nat.pow_succ, Nat.mul_comm]
  have hi : (2 : Int) ^ (m + 1) = ((2 ^ (m + 1) : Nat) : Int) := by norm_cast
  have hof : ((a.msb == b.msb) && ((addResult a b c).msb != a.msb)) =
      decide (2 * (a.toInt + b.toInt + c.toNat) < -2 ^ (m + 1) ∨ 2 ^ (m + 1) ≤ 2 * (a.toInt + b.toInt + c.toNat)) := by
    rw [toInt_msb a, toInt_msb b, hi]
    have lr := (addResult a b c).isLt
    generalize (addResult a b c).toNat = r at *
    generalize (2 : Nat) ^ (m + 1) = q at *
    have hs : ∃ k, a.toNat + b.toNat + c.toNat = r + q * k ∧ k < 2 := by
      refine ⟨(a.toNat + b.toNat + c.toNat) / q, ?_, ?_⟩
      · rw [hr]; exact (Nat.mod_add_div _ _).symm
      · exact Nat.div_lt_of_lt_mul (by omega)
    obtain ⟨k, hk, hk1⟩ := hs
    have : k = 0 ∨ k = 1 := by omega
    clear hr
    apply Bool.eq_iff_iff.2
    rcases this with rfl | rfl <;>
    cases h1 : a.msb <;> cases h2 : b.msb <;> cases h3 : (addResult a b c).msb <;>
      simp [h1, h2, h3] at * <;> omega
  have hcf : decide (2 ^ (m + 1) ≤ a.toNat + b.toNat + c.toNat) =
      decide (((a.toNat : Int) + b.toNat + c.toNat) < 0 ∨ (2 : Int) ^ (m + 1) ≤ (a.toNat : Int) + b.toNat + c.toNat) := by
    rw [hi]; apply decide_eq_decide.2; omega
  have haf : decide (16 ≤ a.toNat % 16 + b.toNat % 16 + c.toNat) =
      decide (((a.toNat : Int) % 16 + (b.toNat : Int) % 16 + c.toNat) < 0 ∨
        16 ≤ (a.toNat : Int) % 16 + (b.toNat : Int) % 16 + c.toNat) := by
    apply decide_eq_decide.2; omega
  simp only [Flags.sum, Flags.exact, Flags.add, Flags.szp_eq]
  rw [hof, hcf, haf]
  rfl

/-- SUBTRACTION FLAGS are those of the exact differences (R351). -/
theorem Flags.sub_eq {w : Nat} (hw : 0 < w) (f : Flags) (a b : BitVec w) (c : Bool) :
    (subResult a b c, f.sub a b c) = f.difference a b c := by
  have la := a.isLt
  have lb := b.isLt
  have hc : c.toNat ≤ 1 := by cases c <;> decide
  obtain ⟨m, rfl⟩ : ∃ m, w = m + 1 := ⟨w - 1, by omega⟩
  have hi : (2 : Int) ^ (m + 1) = ((2 ^ (m + 1) : Nat) : Int) := by norm_cast
  have hp : (2 : Nat) ^ (m + 1) = 2 * 2 ^ m := by rw [Nat.pow_succ, Nat.mul_comm]
  have hr : ((subResult a b c).toNat : Int) = ((a.toNat : Int) - b.toNat - c.toNat) % (2 ^ (m + 1) : Nat) := by
    rw [subResult, BitVec.toNat_ofInt]
    have : (0 : Int) ≤ ((a.toNat : Int) - b.toNat - c.toNat) % (2 ^ (m + 1) : Nat) :=
      Int.emod_nonneg _ (by have := Nat.pos_of_ne_zero (Nat.two_pow_pos (m + 1)).ne'; omega)
    exact Int.toNat_of_nonneg this
  have ha := msb_iff a
  have hb := msb_iff b
  have hm := msb_iff (subResult a b c)
  have lr := (subResult a b c).isLt
  have hof : ((a.msb != b.msb) && ((subResult a b c).msb != a.msb)) =
      decide (2 * (a.toInt - b.toInt - c.toNat) < -2 ^ (m + 1) ∨ 2 ^ (m + 1) ≤ 2 * (a.toInt - b.toInt - c.toNat)) := by
    rw [toInt_msb a, toInt_msb b, hi]
    generalize (subResult a b c).toNat = r at *
    generalize (2 : Nat) ^ (m + 1) = q at *
    have hr' : ∃ k : Int, (a.toNat : Int) - b.toNat - c.toNat = r + q * k ∧ -2 < k ∧ k < 1 := by
      refine ⟨((a.toNat : Int) - b.toNat - c.toNat) / q, ?_, ?_, ?_⟩
      · rw [hr]; have := Int.emod_add_mul_ediv ((a.toNat : Int) - b.toNat - c.toNat) q; omega
      · have hq : (0 : Int) < q := by omega
        have := (Int.le_ediv_iff_mul_le (a := -1) (b := (a.toNat : Int) - b.toNat - c.toNat) hq).2 (by omega)
        omega
      · have hq : (0 : Int) < q := by omega
        exact (Int.ediv_lt_iff_lt_mul hq).2 (by omega)
    obtain ⟨k, hk, hk1, hk2⟩ := hr'
    have : k = 0 ∨ k = -1 := by omega
    clear hr
    apply Bool.eq_iff_iff.2
    rcases this with rfl | rfl <;>
    cases h1 : a.msb <;> cases h2 : b.msb <;> cases h3 : (subResult a b c).msb <;>
      simp [h1, h2, h3] at * <;> omega
  have hcf : decide (a.toNat < b.toNat + c.toNat) =
      decide (((a.toNat : Int) - b.toNat - c.toNat) < 0 ∨ (2 : Int) ^ (m + 1) ≤ (a.toNat : Int) - b.toNat - c.toNat) := by
    rw [hi]; apply decide_eq_decide.2; omega
  have haf : decide (a.toNat % 16 < b.toNat % 16 + c.toNat) =
      decide ((((a.toNat % 16 : Nat) : Int) - (b.toNat % 16 : Nat) - c.toNat) < 0 ∨
        16 ≤ ((a.toNat % 16 : Nat) : Int) - (b.toNat % 16 : Nat) - c.toNat) := by
    apply decide_eq_decide.2; omega
  simp only [Flags.difference, Flags.exact, Flags.sub, Flags.szp_eq]
  rw [hof, hcf, haf]
  rfl

/-- Logical flags (R400). -/
theorem Flags.logic_eq {w : Nat} (f : Flags) (n : Nat) (r : BitVec w) : (r, f.logic n r) = f.bitwise n r := by
  simp only [Flags.bitwise, Flags.logic, Flags.szp_eq]

/-- RESULT AND FLAGS of the two-operand operations, in exact integers (R350-R357, R400-R403). -/
theorem AluOp.effect_eq {w : Nat} (hw : 0 < w) (op : AluOp) (f : Flags) (n : Nat) (a b : BitVec w) :
    (op.result f.cf a b, op.flags f n a b) = op.effect f n a b := by
  cases op
  · exact Flags.add_eq hw f a b false
  · exact Flags.logic_eq f n (a ||| b)
  · exact Flags.add_eq hw f a b f.cf
  · exact Flags.sub_eq hw f a b f.cf
  · exact Flags.logic_eq f n (a &&& b)
  · exact Flags.sub_eq hw f a b false
  · exact Flags.logic_eq f n (a ^^^ b)

end Sys2Proof.Machine
end

