-- ==== Sys2Proof/Laws/Alu.lean ====
section
/-!
SUPPORT. What the shared arithmetic and logical operations do when their references pass their checks.
-/

namespace Sys2Proof.Machine

variable (s : State)

/-- The first part of a pair known whole. -/
theorem fst_of_pair {α β : Type} {a : α} {b : β} {p : α × β} (h : (a, b) = p) : p.1 = a := by rw [← h]

/-- The second part of a pair known whole. -/
theorem snd_of_pair {α β : Type} {a : α} {b : β} {p : α × β} (h : (a, b) = p) : p.2 = b := by rw [← h]

/-- A state whose memory, map and counter are those of one that leaves memory outside `stored` alone does so too. -/
theorem frame_of {s u t : State} {stored : List PAddr} (h : ∀ a, a ∉ stored → u.readPhys a = s.readPhys a)
    (hm : t.mem = u.mem) (hk : t.memMap = u.memMap) (hf : t.free = u.free)
    (hu : t.use = u.use) :
    ∀ a, a ∉ stored → t.readPhys a = s.readPhys a :=
  fun a ha => (State.readPhys_congr a hm hk hf hu).trans (h a ha)

/-- `op eb,src` on an operand that may be written (R352). -/
theorem State.aluE8_eq (op : AluOp) (e : E8) (b : Byte) (h : s.canWriteE8 e = true) :
    s.finish (s.aluE8 op e b) = .next ({ s.put8 e (op.effect s.flags s.free (s.val8 e) b).1 with
     flags := (op.effect s.flags s.free (s.val8 e) b).2 } : State).advance := by
  have hx := AluOp.effect_eq (w := 8) (by decide) op s.flags s.free (s.val8 e) b
  rw [fst_of_pair hx, snd_of_pair hx]
  simp only [State.aluE8, s.readE8_ok e (s.canReadE8_of_canWrite e h), run_bind_ok, s.writeE8_ok e _ h, leaving_ok, run_pure, State.finish_ok]
  rfl

/-- `op ew,src` on an operand that may be written (R352). -/
theorem State.aluE16_eq (op : AluOp) (e : E16) (b : Word) (h : s.canWriteE16 e = true) :
    s.finish (s.aluE16 op e b) = .next ({ s.put16 e (op.effect s.flags s.free (s.val16 e) b).1 with
     flags := (op.effect s.flags s.free (s.val16 e) b).2 } : State).advance := by
  have hx := AluOp.effect_eq (w := 16) (by decide) op s.flags s.free (s.val16 e) b
  rw [fst_of_pair hx, snd_of_pair hx]
  simp only [State.aluE16, s.readE16_ok e (s.canReadE16_of_canWrite e h), run_bind_ok, s.writeE16_ok e _ h, leaving_ok, run_pure, State.finish_ok]
  rfl

/-- `op rb,eb` (R352). -/
theorem State.aluR8_eq (op : AluOp) (e : E8) (r : Reg8) (h : s.canReadE8 e = true) :
    s.finish (s.aluR8 op r e) = .next ({ s.set8 r (op.effect s.flags s.free (s.get8 r) (s.val8 e)).1 with
     flags := (op.effect s.flags s.free  (s.get8 r) (s.val8 e)).2 } : State).advance := by
  have hx := AluOp.effect_eq (w := 8) (by decide) op s.flags s.free (s.get8 r) (s.val8 e)
  rw [fst_of_pair hx, snd_of_pair hx]
  simp only [State.aluR8, s.readE8_ok e h, run_bind_ok, run_pure, State.finish_ok]
  rfl

/-- `op rw,ew` (R352). -/
theorem State.aluR16_eq (op : AluOp) (e : E16) (r : Reg16) (h : s.canReadE16 e = true) :
    s.finish (s.aluR16 op r e) = .next ({ s.set16 r (op.effect s.flags s.free (s.get16 r) (s.val16 e)).1 with
     flags := (op.effect s.flags s.free  (s.get16 r) (s.val16 e)).2 } : State).advance := by
  have hx := AluOp.effect_eq (w := 16) (by decide) op s.flags s.free (s.get16 r) (s.val16 e)
  rw [fst_of_pair hx, snd_of_pair hx]
  simp only [State.aluR16, s.readE16_ok e h, run_bind_ok, run_pure, State.finish_ok]
  rfl

/-- `CMP eb,src` (R359). -/
theorem State.cmpE8_eq (e : E8) (b : Byte) (h : s.canReadE8 e = true) :
  s.finish (s.cmpE8 e b) = .next ({ s with flags := (s.flags.difference (s.val8 e) b false).2 } : State).advance := by
  rw [snd_of_pair (Flags.sub_eq (w := 8) (by decide) s.flags (s.val8 e) b false)]
  simp only [State.cmpE8, s.readE8_ok e h, run_bind_ok, run_pure, State.finish_ok]; rfl

/-- `CMP rb,eb` (R359). -/
theorem State.cmpR8_eq (e : E8) (r : Reg8) (h : s.canReadE8 e = true) :
  s.finish (s.cmpR8 r e) = .next ({ s with flags := (s.flags.difference (s.get8 r) (s.val8 e) false).2 } : State).advance := by
  rw [snd_of_pair (Flags.sub_eq (w := 8) (by decide) s.flags _ _ false)]
  simp only [State.cmpR8, s.readE8_ok e h, run_bind_ok, run_pure, State.finish_ok]; rfl

/-- `CMP ew,src` (R359). -/
theorem State.cmpE16_eq (e : E16) (b : Word) (h : s.canReadE16 e = true) :
  s.finish (s.cmpE16 e b) = .next ({ s with flags := (s.flags.difference (s.val16 e) b false).2 } : State).advance := by
  rw [snd_of_pair (Flags.sub_eq (w := 16) (by decide) s.flags _ b false)]
  simp only [State.cmpE16, s.readE16_ok e h, run_bind_ok, run_pure, State.finish_ok]; rfl

/-- `CMP rw,ew` (R359). -/
theorem State.cmpR16_eq (e : E16) (r : Reg16) (h : s.canReadE16 e = true) :
  s.finish (s.cmpR16 r e) = .next ({ s with flags := (s.flags.difference (s.get16 r) (s.val16 e) false).2 } : State).advance := by
  rw [snd_of_pair (Flags.sub_eq (w := 16) (by decide) s.flags _ _ false)]
  simp only [State.cmpR16, s.readE16_ok e h, run_bind_ok, run_pure, State.finish_ok]; rfl

/-- `TEST eb,src` (R405). -/
theorem State.testE8_eq (e : E8) (b : Byte) (h : s.canReadE8 e = true) :
  s.finish (s.testE8 e b) = .next ({ s with flags := (s.flags.bitwise s.free (s.val8 e &&& b)).2 } : State).advance := by
  rw [snd_of_pair (Flags.logic_eq s.flags s.free _)]
  simp only [State.testE8, s.readE8_ok e h, run_bind_ok, run_pure, State.finish_ok]; rfl

/-- `TEST ew,src` (R405). -/
theorem State.testE16_eq (e : E16) (b : Word) (h : s.canReadE16 e = true) :
  s.finish (s.testE16 e b) = .next ({ s with flags := (s.flags.bitwise s.free (s.val16 e &&& b)).2 } : State).advance := by
  rw [snd_of_pair (Flags.logic_eq s.flags s.free _)]
  simp only [State.testE16, s.readE16_ok e h, run_bind_ok, run_pure, State.finish_ok]; rfl

/-- A byte operand replaced by a function of itself. -/
theorem State.updateE8_eq (e : E8) (g fl) (h : s.canWriteE8 e = true) :
  s.finish (s.updateE8 e g fl) = .next ({ s.put8 e (g (s.val8 e)) with flags := fl (s.val8 e) } : State).advance := by
  simp only [State.updateE8, s.readE8_ok e (s.canReadE8_of_canWrite e h), run_bind_ok, s.writeE8_ok e _ h, run_pure, State.finish_ok]; rfl

/-- A word operand replaced by a function of itself. -/
theorem State.updateE16_eq (e : E16) (g fl) (h : s.canWriteE16 e = true) :
  s.finish (s.updateE16 e g fl) = .next ({ s.put16 e (g (s.val16 e)) with flags := fl (s.val16 e) } : State).advance := by
  simp only [State.updateE16, s.readE16_ok e (s.canReadE16_of_canWrite e h), run_bind_ok, s.writeE16_ok e _ h, run_pure, State.finish_ok]; rfl

end Sys2Proof.Machine
end

