-- ==== Sys2Proof/Laws/Ops.lean ====
section
/-!
SUPPORT. What loading a segment register, taking an interrupt or exception, switching tasks and returning can do, said once
for each: if the operation answers, then this is how (spec/20_memory.md R153; spec/47_protected_system.md R720;
spec/60_exceptions.md R830, R840, R845, R880; spec/43_control_transfer.md R500-R503).
-/

namespace Sys2Proof.Machine

variable (s : State)

/-- A descriptor found is the one its selector names (R135). -/
theorem State.desc_ok (sel : Word) (e : Stop) (d : Desc) : s.desc sel e = .ok d ↔ s.desc? sel = some d := by
  unfold State.desc; split <;> simp_all

/-! Loading segment registers -/

/-- `LoadSS` that answers: every test of R153 held, and the cache is loaded. -/
theorem State.loadSsProt_ok (sel : Word) (t : State) (h : s.loadSsProt sel = .ok t) :
    ∃ d, s.desc? sel = some d ∧ isNull sel = false ∧ rplOf sel = s.cpl ∧ d.isWritableData = true ∧
      arDpl d.ar = s.cpl ∧ arPresent d.ar = true ∧ t = s.loadCache .ss sel d := by
  simp only [State.loadSsProt, run_bind_eq_ok, check_ok, exists_const, State.desc_ok, run_pure, Except.ok.injEq, beq_iff_eq,
    Bool.not_eq_true'] at h
  obtain ⟨h1, d, h2, h3, h4, h5, h6, rfl⟩ := h
  exact ⟨d, h2, h1, h3, h4, h5, h6, rfl⟩

/-- `LoadDataSeg` of a non-null selector that answers: every test of R153 held, and the cache is loaded. -/
theorem State.loadDataProt_ok (x : SReg) (sel : Word) (t : State) (h : s.loadDataProt x sel = .ok t) :
    ∃ d, s.desc? sel = some d ∧ d.isDataOrReadable = true ∧ arPresent d.ar = true ∧
      (d.isConforming = true ∨ (rplOf sel ≤ arDpl d.ar ∧ s.cpl ≤ arDpl d.ar)) ∧ t = s.loadCache x sel d := by
  simp only [State.loadDataProt, run_bind_eq_ok, check_ok, exists_const, State.desc_ok, run_pure, Except.ok.injEq,
    Bool.or_eq_true, Bool.and_eq_true, decide_eq_true_eq] at h
  obtain ⟨d, h1, h2, h3, h4, rfl⟩ := h
  exact ⟨d, h1, h2, h4, h3, rfl⟩

/-- Loading SS that answers, in either mode. -/
theorem State.loadSs_ok (sel : Word) (t : State) (h : s.loadSs sel = .ok t) :
    (s.prot = false ∧ t = s.setSeg .ss (s.ss.realLoad sel)) ∨
      (s.prot = true ∧ ∃ d, s.desc? sel = some d ∧ t = s.loadCache .ss sel d) := by
  unfold State.loadSs at h
  split at h
  · obtain ⟨d, hd, _, _, _, _, _, rfl⟩ := s.loadSsProt_ok sel t h
    exact .inr ⟨‹_›, d, hd, rfl⟩
  · cases h; exact .inl ⟨by simp_all, rfl⟩

/-- Loading DS or ES that answers, in either mode. -/
theorem State.loadData_ok (x : SReg) (sel : Word) (t : State) (h : s.loadData x sel = .ok t) :
    (s.prot = false ∧ t = s.setSeg x ((s.seg x).realLoad sel)) ∨
      (s.prot = true ∧ isNull sel = true ∧ t = s.loadNull x sel) ∨
      (s.prot = true ∧ ∃ d, s.desc? sel = some d ∧ t = s.loadCache x sel d) := by
  unfold State.loadData at h
  split at h
  · split at h
    · cases h; exact .inr (.inl ⟨‹_›, ‹_›, rfl⟩)
    · obtain ⟨d, hd, _, _, _, rfl⟩ := s.loadDataProt_ok x sel t h
      exact .inr (.inr ⟨‹_›, d, hd, rfl⟩)
  · cases h; exact .inl ⟨by simp_all, rfl⟩

/-! Taking an interrupt or exception -/

/-- The real-mode entry, when it answers: the vector lies inside IDTR's limit, there is room for three words, and the
state is the one R830 names. -/
theorem State.enterReal_ok (e : Event) (t : State) (h : s.enterReal e = .ok t) :
    e.vec.toNat * 4 + 3 ≤ s.idtr.limit.toNat ∧ s.canPush 3 = true ∧
      t.regs = ((s.setSp (s.regs.sp - 2 - 2 - 2)).regs) ∧ t.flags = { s.flags with ie := false, tf := false } ∧
      t.dec = {} := by
  simp only [State.enterReal, run_bind_eq_ok, check_ok, exists_const, run_pure, Except.ok.injEq, decide_eq_true_eq] at h
  obtain ⟨h1, h2, rfl⟩ := h
  refine ⟨h1, h2, ?_, ?_, rfl⟩ <;> simp [State.farReal, State.pushRaw, State.setSp]

/-- A real-mode load in the words of the statements: base 16 times the selector (R60). -/
theorem SegReg.realLoad_eq (x : SegReg) (sel : Word) : x.realLoad sel = x.real sel := by
  have : sel.setWidth 24 <<< 4 = BitVec.ofNat 24 (16 * sel.toNat) := by
    apply BitVec.eq_of_toNat_eq
    have := sel.isLt
    simp only [BitVec.toNat_shiftLeft, BitVec.toNat_setWidth, BitVec.toNat_ofNat, Nat.shiftLeft_eq]
    omega
  simp only [SegReg.realLoad, SegReg.real, this]

/-- A store does not look at SP. -/
theorem State.writePhys16_setSp (p : Word) (a : PAddr) (v : Word) :
    (s.setSp p).writePhys16 a v = (s.writePhys16 a v).setSp p := by
  unfold State.writePhys16 State.writePhys State.setSp
  rcases kindAt s.memMap a with _ | _ | _ | _ <;> rcases kindAt s.memMap (a + 1) with _ | _ | _ | _ <;> rfl

/-- A store does not look at which attempt is under way. -/
theorem State.writePhys16_attempt (n : Nat) (a : PAddr) (v : Word) :
    (s.attempt n).writePhys16 a v = (s.writePhys16 a v).attempt n := by
  unfold State.writePhys16 State.writePhys State.attempt
  rcases kindAt s.memMap a with _ | _ | _ | _ <;> rcases kindAt s.memMap (a + 1) with _ | _ | _ | _ <;> rfl

/-- Three pushes: three stores below SP, which moves once (R160). -/
theorem State.pushRaw3 (a b c : Word) : ((s.pushRaw a).pushRaw b).pushRaw c =
    (((s.writePhys16 (s.stackAddr (-2)) a).writePhys16 (s.stackAddr (-4)) b).writePhys16 (s.stackAddr (-6)) c).setSp
      (s.regs.sp - 6) := by
  have e1 : s.regs.sp - 2 = s.regs.sp + -2 := BitVec.sub_eq_add_neg _ _
  have e2 : s.regs.sp + -2 - 2 = s.regs.sp + -4 := by rw [BitVec.sub_eq_add_neg, BitVec.add_assoc]; rfl
  have e3 : s.regs.sp + -4 - 2 = s.regs.sp + -6 := by rw [BitVec.sub_eq_add_neg, BitVec.add_assoc]; rfl
  have e4 : s.regs.sp - 6 = s.regs.sp + -6 := BitVec.sub_eq_add_neg _ _
  have sp (u : State) (p : Word) : (u.setSp p).regs.sp = p := rfl
  have ss (u : State) (p : Word) : (u.setSp p).ss = u.ss := rfl
  have two (u : State) (p q : Word) : (u.setSp p).setSp q = u.setSp q := rfl
  simp only [State.pushRaw, State.stackAddr, State.writePhys16_setSp, sp, ss, two, State.writePhys16_ss, e1, e2, e3, e4]

/-- A real-mode entry that can be made is made (R830). -/
theorem State.enterReal_eq (e : Event) (h : s.canEnterReal e.vec = true) :
    (s.attempt 1).enterReal e = .ok { s.realEntry e.vec e.ret with use := (s.attempt 1).use } := by
  simp only [State.canEnterReal, Bool.and_eq_true, decide_eq_true_eq] at h
  have hv : e.vec.setWidth 24 <<< 2 = BitVec.ofNat 24 (4 * e.vec.toNat) := by
    apply BitVec.eq_of_toNat_eq
    have := e.vec.isLt
    simp only [BitVec.toNat_shiftLeft, BitVec.toNat_setWidth, BitVec.toNat_ofNat, Nat.shiftLeft_eq]
    omega
  have h1 : e.vec.toNat * 4 + 3 ≤ s.idtr.limit.toNat := by omega
  have h2 : (s.attempt 1).canPush 3 = true := h.1.2
  have hs (a : Word) : (s.attempt 1).stackAddr a = s.stackAddr a := rfl
  simp only [State.enterReal, State.attempt_idtr, h1, h2, decide_true, check_true, run_bind_ok, run_pure, State.pushRaw3,
    State.realEntry, State.writePhys16_attempt, hs, State.attempt_flags, State.attempt_cs, State.attempt_regs]
  generalize hp : ((s.writePhys16 (s.stackAddr (-2)) s.flags.toWord).writePhys16 (s.stackAddr (-4)) s.cs.sel).writePhys16
    (s.stackAddr (-6)) e.ret = p
  have hc : p.cs = s.cs := by simp [← hp]
  have hr : p.regs = s.regs := by simp [← hp]
  have hf : p.flags = s.flags := by simp [← hp]
  have hi : p.idtr = s.idtr := by simp [← hp]
  have hu : p.use = s.use := by simp [← hp]
  have hrd (t : State) (a : PAddr) : (t.setSp (s.regs.sp - 6)).readPhys16 a = t.readPhys16 a := rfl
  simp only [State.realVector, hv, State.farReal, SegReg.realLoad_eq, hrd]
  simp only [State.setSp, State.attempt, hc, hr, hf, hi, hu]

/-- An entry through the IDT, when it answers, went through a task gate, or to a code segment at an inner level, or at the
same level, with every test on the gate passed (R840). -/
theorem State.enterProt_ok (e : Event) (t : State) (h : s.enterProt e = .ok t) :
    let g := s.descAt (s.idtr.base + BitVec.ofNat 24 (e.vec.toNat * 8))
    let n := match e.code with
      | none => 3
      | some _ => 4
    e.vec.toNat * 8 + 7 ≤ s.idtr.limit.toNat ∧ arPresent g.ar = true ∧
      (s.taskGateEntry g.gateSel e = .ok t ∨
        ∃ c u, (s.reading .target).desc? g.gateSel = some c ∧ c.isCode = true ∧ arPresent c.ar = true ∧ arDpl c.ar ≤ s.cpl ∧
          (s.enterInner e g c n = .ok u ∨ s.enterSame e g c n = .ok u) ∧
          t = u.enterHandler g.gateOffset (arIsType g.ar 6)) := by
  simp only [State.enterProt, run_bind_eq_ok, check_ok, exists_const, decide_eq_true_eq] at h
  obtain ⟨h1, _, _, h4, h⟩ := h
  refine ⟨h1, h4, ?_⟩
  split at h
  · exact .inl h
  · simp only [run_bind_eq_ok, check_ok, exists_const, State.desc_ok, run_pure, decide_eq_true_eq] at h
    obtain ⟨_, c, h6, h7, h8, h9, h⟩ := h
    refine .inr ?_
    split at h
    · obtain ⟨u, h10, h11⟩ := run_bind_eq_ok.mp h
      exact ⟨c, u, h6, h7, h8, h9, .inl h10, (Except.ok.inj h11).symm⟩
    · obtain ⟨u, h10, h11⟩ := run_bind_eq_ok.mp h
      exact ⟨c, u, h6, h7, h8, h9, .inr h10, (Except.ok.inj h11).symm⟩

/-- A double fault that answers is either delivered through vector 8 or shutdown (R880, R905). -/
theorem State.doubleFault_ok (t : State) (h : s.doubleFault = .ok t) :
    (s.attempt 3).enter { vec := 8, kind := .exc, ret := s.ip, code := some 0 } = .ok t ∨ ∃ u : State, t = u.shutdown := by
  unfold State.doubleFault at h
  split at h
  · cases h; exact .inl ‹_›
  · cases h; exact .inr ⟨_, rfl⟩
  · cases h

/-- TAKING AN INTERRUPT OR EXCEPTION, when it answers, is one entry that succeeded, of this event or of one that its failure
raised, or shutdown; reads are numbered as before it (R845, R880). -/
theorem State.deliver_ok (e : Event) (t : State) (h : s.deliver e = .ok t) :
    ∃ t', (t = { t' with use := s.use }) ∧
      ((∃ (u : State) (e' : Event), u.enter e' = .ok t') ∨ ∃ u : State, t' = u.shutdown) := by
  unfold State.deliver at h
  split at h
  case h_2 => cases h
  rename_i t' h'
  refine ⟨t', (Except.ok.inj h).symm, ?_⟩
  clear h
  have df : ∀ u : State, u.doubleFault = .ok t' → (∃ (u : State) (e' : Event), u.enter e' = .ok t') ∨
      ∃ u : State, t' = u.shutdown := fun u hu => (u.doubleFault_ok t' hu).imp (fun h => ⟨_, _, h⟩) id
  unfold State.escalate at h'
  split at h'
  · cases h'; exact .inl ⟨_, _, ‹_›⟩
  · cases h'
  · simp only at h'
    split at h'
    · cases h'; exact .inr ⟨_, rfl⟩
    · split at h'
      · exact df _ h'
      · unfold State.deliverFailure at h'
        split at h'
        · exact df _ h'
        · split at h'
          · cases h'; exact .inl ⟨_, _, ‹_›⟩
          · exact df _ h'
          · cases h'

/-! The task switch -/

/-- A task switch that answers: both tasks' segments are long enough, and the new task's LDT, SS, CS, DS and ES were loaded
in this order (R720). -/
theorem State.switchTasks_ok (nsel : Word) (nd : Desc) (nesting : Bool) (cause : SwitchCause) (outIp ext : Word) (t : State)
    (h : s.switchTasks nsel nd nesting cause outIp ext = .ok t) :
    s.tr.valid = true ∧ 41 ≤ s.tr.limit.toNat ∧ 43 ≤ nd.limit.toNat ∧
      ∃ a b c d : State,
        ((((s.lockBus.writePhys (nd.addr + 5) (nd.ar ||| 2)).leaveTask nsel nd nesting cause outIp).loadTask nesting
          cause).loadTaskLdt ext) = .ok a ∧
        a.loadTaskSs ext = .ok b ∧ b.loadTaskCs ext = .ok c ∧ c.loadTaskData .ds .dsSeg ext = .ok d ∧
        d.loadTaskData .es .esSeg ext = .ok t := by
  simp only [State.switchTasks, run_bind_eq_ok, check_ok, exists_const, Bool.and_eq_true, decide_eq_true_eq,
    State.writePhys_tr, State.lockBus_tr] at h
  obtain ⟨⟨h1, h2⟩, h3, a, h4, b, h5, c, h6, d, h7, h8⟩ := h
  exact ⟨h1, h2, h3, a, b, c, d, h4, h5, h6, h7, h8⟩

/-- The test after a switch changes nothing (R713). -/
theorem State.checkTaskIp_ok (ext : Word) (t : State) (h : s.checkTaskIp ext = .ok t) :
    t = s ∧ s.ip.toNat ≤ s.cs.limit.toNat := by
  simp only [State.checkTaskIp, run_bind_eq_ok, check_ok, exists_const, run_pure, Except.ok.injEq, decide_eq_true_eq] at h
  exact ⟨h.2.symm, h.1⟩

/-! Returning -/

/-- The tests on a return's code segment, when they pass (R488, R501, R502). -/
theorem State.returnCode_ok (rs : Word) (c : Desc) (h : s.returnCode rs = .ok c) :
    (s.reading .target).desc? rs = some c ∧ isNull rs = false ∧ c.isCode = true ∧ arPresent c.ar = true := by
  simp only [State.returnCode, run_bind_eq_ok, check_ok, exists_const, State.desc_ok, run_pure, Except.ok.injEq,
    Bool.not_eq_true'] at h
  obtain ⟨h1, d, h2, h3, _, h5, rfl⟩ := h
  exact ⟨h2, h1, h3, h5⟩

/-- THE RETURN, when it answers, is the one its mode, NT and the level returned to name (R500). -/
theorem State.iret_ok (t : State) (h : s.iret = .ok t) :
    (s.prot = false ∧ s.iretReal = .ok t) ∨ (s.prot = true ∧ s.flags.nt = true ∧ s.iretTask = .ok t) ∨
      (s.prot = true ∧ s.flags.nt = false ∧ ∃ rs, s.stackWord 2 = .ok rs ∧ s.cpl ≤ rplOf rs ∧
        (rplOf rs = s.cpl ∧ s.iretSame rs = .ok t ∨ rplOf rs ≠ s.cpl ∧ s.iretOuter rs = .ok t)) := by
  unfold State.iret at h
  split at h
  · exact .inl ⟨by simp_all, h⟩
  · split at h
    · exact .inr (.inl ⟨by simp_all, ‹_›, h⟩)
    · simp only [run_bind_eq_ok, check_ok, exists_const, decide_eq_true_eq] at h
      obtain ⟨rs, h1, h2, h3⟩ := h
      refine .inr (.inr ⟨by simp_all, by simp_all, rs, h1, h2, ?_⟩)
      split at h3
      · exact .inl ⟨‹_›, h3⟩
      · exact .inr ⟨‹_›, h3⟩

end Sys2Proof.Machine
end

