-- ==== Sys2Proof/Laws/Checks.lean ====
section
/-!
SUPPORT. How a list of tests and the checks of a meaning agree: the first test that fails is the stop the checks come to.
-/

namespace Sys2Proof.Machine

@[simp] theorem firstFailing_nil : firstFailing [] = none := rfl

@[simp] theorem firstFailing_cons (t : Test) (l : List Test) :
    firstFailing (t :: l) = if t.ok then firstFailing l else some t.stop := by
  cases h : t.ok <;> simp [firstFailing, h]

@[simp] theorem firstFailing_append (l m : List Test) : firstFailing (l ++ m) = (firstFailing l).or (firstFailing m) := by
  simp only [firstFailing, List.find?_append]
  cases l.find? fun t => !t.ok <;> rfl

/-- A check before a meaning is a test before its tests. -/
theorem firstFailing_check {α : Type} (b : Bool) (x : Stop) (l : List Test) (f : Unit → Run α)
    (h : ∀ e, firstFailing l = some e → f () = .error e) (e : Stop) (he : firstFailing (⟨b, x⟩ :: l) = some e) :
    (check b x >>= f) = .error e := by
  cases b
  · simp at he; subst he; rfl
  · simp at he; exact h e he

/-- The index of a selector in its table, as an address. -/
theorem selector_index (sel : Word) : (sel &&& (0xFFF8 : Word)).setWidth 24 = BitVec.ofNat 24 (sel.toNat / 8 * 8) := by
  have h : sel &&& (0xFFF8 : Word) = sel >>> 3 <<< 3 := by
    ext i hi
    interval_cases i <;> simp
  have := sel.isLt
  rw [h]
  apply BitVec.eq_of_toNat_eq
  simp [Nat.shiftRight_eq_div_pow, Nat.shiftLeft_eq]
  omega

theorem selCode_add (sel x : Word) : selCode sel + x = errorCode sel x := rfl

@[simp] theorem errorCode_zero (sel : Word) : errorCode sel 0 = selCode sel := by simp [errorCode, selCode]

/-- Reading the descriptor that a selector names: a test of the table's limit, then the entry. -/
theorem State.desc_eq (s : State) (sel : Word) (e : Stop) :
    s.desc sel e = if s.inTable sel then .ok (s.entry sel) else .error e := by
  simp only [State.desc, State.inTable, State.desc?, State.tableOf, State.entry, ← selector_index]
  cases sel.getLsbD 2 <;> cases s.ldtr.valid <;> simp only [Bool.false_eq_true, if_true, if_false, Option.isSome_none]
  all_goals split <;> simp_all

/-- So a meaning that reads a descriptor checks that limit first. -/
theorem State.desc_bind {α : Type} (s : State) (sel : Word) (e : Stop) (f : Desc → Run α) :
    (s.desc sel e >>= f) = (check (s.inTable sel) e >>= fun _ => f (s.entry sel)) := by
  rw [s.desc_eq sel e]
  cases s.inTable sel <;> rfl

end Sys2Proof.Machine
end

