-- ==== Sys2Proof/Laws/Delivery.lean ====
section
/-!
SUPPORT. What taking an interrupt or exception leaves alone, whichever entry it comes to, and that nothing is remembered
of the instruction it interrupted: said once for each part of a delivery, and then for `deliver`
(spec/60_exceptions.md R820, R840, R841, R845, R880; spec/47_protected_system.md R720).
-/

namespace Sys2Proof.Machine

variable (s : State)

/-- What taking an interrupt or exception leaves alone, everything else blanked: the table registers, MSW but for TS,
the pending requests, the inhibit latch, the processor extension and the address space's map (R840, R841, R845). -/
def State.aside : State :=
  { s with
    regs := State.reset.regs, ip := 0, flags := State.reset.flags, es := State.reset.es, cs := State.reset.cs,
    ss := State.reset.ss, ds := State.reset.ds, ldtr := State.reset.ldtr, tr := State.reset.tr,
    msw := { s.msw with ts := false }, runState := .running, mem := [], hostOut := [], use := State.reset.use,
    dec := {} }

@[simp] theorem State.writePhys_aside (a : PAddr) (v : Byte) : (s.writePhys a v).aside = s.aside := by
  unfold State.writePhys; split <;> rfl

@[simp] theorem State.writePhys16_aside (a : PAddr) (v : Word) : (s.writePhys16 a v).aside = s.aside := by
  simp [State.writePhys16]

@[simp] theorem State.lockBus_aside : s.lockBus.aside = s.aside := rfl

@[simp] theorem State.setSeg_aside (x : SReg) (g : SegReg) : (s.setSeg x g).aside = s.aside := by cases x <;> rfl

@[simp] theorem State.setSp_aside (v : Word) : (s.setSp v).aside = s.aside := rfl

@[simp] theorem State.loadCache_aside (x : SReg) (sel : Word) (d : Desc) : (s.loadCache x sel d).aside = s.aside := by
  simp [State.loadCache, State.markAccessed]

@[simp] theorem State.pushRaw_aside (v : Word) : (s.pushRaw v).aside = s.aside := by simp [State.pushRaw]

@[simp] theorem State.pushCode_aside (c : Option Word) : (s.pushCode c).aside = s.aside := by
  cases c <;> simp [State.pushCode]

@[simp] theorem State.loadTask_aside (nesting : Bool) (cause : SwitchCause) :
    (s.loadTask nesting cause).aside = s.aside := rfl

@[simp] theorem State.saveTask_aside (ip : Word) (f : Flags) : (s.saveTask ip f).aside = s.aside := by
  simp [State.saveTask]

@[simp] theorem State.leaveTask_aside (nsel : Word) (nd : Desc) (nesting : Bool) (cause : SwitchCause) (ip : Word) :
    (s.leaveTask nsel nd nesting cause ip).aside = s.aside := by
  have h (t : State) (x : SysReg) : State.aside { t with tr := x } = t.aside := rfl
  unfold State.leaveTask
  rw [h]
  split <;> simp

/-- Whatever `r` leaves, completed or stopped, `a` is aside of it. -/
def Run.Aside (a : State) (r : Run State) : Prop :=
  (∀ t, r = .ok t → t.aside = a) ∧ ∀ v c t, r = .error (.exc v c (some t)) → t.aside = a

theorem Run.aside_ok (a t : State) (h : t.aside = a) : Run.Aside a (.ok t) :=
  ⟨fun _ e => Except.ok.inj e ▸ h, fun _ _ _ e => by cases e⟩

/-- A stop leaves what is aside alone. -/
def Stop.Aside (a : State) (e : Stop) : Prop := ∀ v c t, e = .exc v c (some t) → t.aside = a

theorem Run.aside_bind {α : Type} (a : State) (x : Run α) (f : α → Run State) (h : ∀ e, x = .error e → e.Aside a)
    (hf : ∀ u, x = .ok u → Run.Aside a (f u)) : Run.Aside a (x >>= f) := by
  cases x with
  | ok u => exact hf u rfl
  | error e => exact ⟨fun _ e => (by cases e), fun v c t e' => h e rfl v c t (Except.error.inj e')⟩

theorem Run.aside_check (a : State) (b : Bool) (e : Stop) (f : Unit → Run State) (h : e.Aside a)
    (hf : b = true → Run.Aside a (f ())) : Run.Aside a (check b e >>= f) := by
  cases b
  · exact ⟨fun _ e' => (by cases e'), fun v c t e' => h v c t (Except.error.inj e')⟩
  · exact hf rfl

@[simp] theorem Stop.aside_none (a : State) (v : Byte) (c : Option Word) : Stop.Aside a (.exc v c none) := by
  intro _ _ _ e; cases e
@[simp] theorem Stop.aside_gp (a : State) (c : Word) : Stop.Aside a (excGp c) := by intro _ _ _ e; cases e
@[simp] theorem Stop.aside_np (a : State) (c : Word) : Stop.Aside a (excNp c) := by intro _ _ _ e; cases e
@[simp] theorem Stop.aside_ss (a : State) (c : Word) : Stop.Aside a (excSs c) := by intro _ _ _ e; cases e
@[simp] theorem Stop.aside_ts (a : State) (c : Word) : Stop.Aside a (excTs c) := by intro _ _ _ e; cases e
@[simp] theorem Stop.aside_refuse (a : State) (q : Refusal) : Stop.Aside a (.refuse q) := by intro _ _ _ e; cases e
theorem Stop.aside_leaving (v : Byte) (c : Word) (a t : State) (h : t.aside = a) : Stop.Aside a (excLeaving v c t) := by
  intro _ _ _ e; cases e; exact h

/-- A descriptor that is not found stops with the stop given. -/
theorem State.desc_error (sel : Word) (e e' : Stop) (h : s.desc sel e = .error e') : e' = e := by
  unfold State.desc at h; split at h <;> simp_all

theorem State.loadTaskLdt_aside (ext : Word) : Run.Aside s.aside (s.loadTaskLdt ext) := by
  unfold State.loadTaskLdt
  simp only
  split
  · exact Run.aside_ok _ _ rfl
  · iterate 3 refine Run.aside_check _ _ _ _ (Stop.aside_leaving _ _ _ _ rfl) fun _ => ?_
    exact Run.aside_ok _ _ rfl

theorem State.loadTaskSs_aside (ext : Word) : Run.Aside s.aside (s.loadTaskSs ext) := by
  unfold State.loadTaskSs
  refine Run.aside_check _ _ _ _ (Stop.aside_leaving _ _ _ _ rfl) fun _ => ?_
  refine Run.aside_bind _ _ _ (fun e he => State.desc_error _ _ _ _ he ▸ Stop.aside_leaving _ _ _ _ rfl) fun d _ => ?_
  iterate 4 refine Run.aside_check _ _ _ _ (Stop.aside_leaving _ _ _ _ rfl) fun _ => ?_
  exact Run.aside_ok _ _ (by simp)

theorem State.loadTaskCs_aside (ext : Word) : Run.Aside s.aside (s.loadTaskCs ext) := by
  unfold State.loadTaskCs
  refine Run.aside_check _ _ _ _ (Stop.aside_leaving _ _ _ _ rfl) fun _ => ?_
  refine Run.aside_bind _ _ _ (fun e he => State.desc_error _ _ _ _ he ▸ Stop.aside_leaving _ _ _ _ rfl) fun d _ => ?_
  iterate 3 refine Run.aside_check _ _ _ _ (Stop.aside_leaving _ _ _ _ rfl) fun _ => ?_
  exact Run.aside_ok _ _ (by simp)

theorem State.loadTaskData_aside (r : SReg) (part : Part) (ext : Word) :
    Run.Aside s.aside (s.loadTaskData r part ext) := by
  unfold State.loadTaskData
  simp only
  split
  · exact Run.aside_ok _ _ rfl
  · refine Run.aside_bind _ _ _ (fun e he => State.desc_error _ _ _ _ he ▸ Stop.aside_leaving _ _ _ _ rfl) fun d _ => ?_
    iterate 3 refine Run.aside_check _ _ _ _ (Stop.aside_leaving _ _ _ _ rfl) fun _ => ?_
    exact Run.aside_ok _ _ (by simp)

/-- What is aside of a run that answers is aside of what follows. -/
theorem Run.aside_then (a : State) (x : Run State) (f : State → Run State) (h : Run.Aside a x)
    (hf : ∀ u, x = .ok u → Run.Aside u.aside (f u)) : Run.Aside a (x >>= f) :=
  Run.aside_bind a x f (fun _ e v c t e' => h.2 v c t (e' ▸ e)) fun u hu => h.1 u hu ▸ hf u hu

theorem State.switchTasks_aside (nsel : Word) (nd : Desc) (nesting : Bool) (cause : SwitchCause) (ip ext : Word) :
    Run.Aside s.aside (s.switchTasks nsel nd nesting cause ip ext) := by
  unfold State.switchTasks
  iterate 2 refine Run.aside_check _ _ _ _ (Stop.aside_leaving _ _ _ _ (by simp)) fun _ => ?_
  have e : (((s.lockBus.writePhys (nd.addr + 5) (nd.ar ||| 2)).leaveTask nsel nd nesting cause ip).loadTask nesting
    cause).aside = s.aside := by simp
  rw [← e]
  refine Run.aside_then _ _ _ (State.loadTaskLdt_aside _ _) fun b _ => ?_
  refine Run.aside_then _ _ _ (State.loadTaskSs_aside _ _) fun c _ => ?_
  refine Run.aside_then _ _ _ (State.loadTaskCs_aside _ _) fun d _ => ?_
  exact Run.aside_then _ _ _ (State.loadTaskData_aside _ _ _ _) fun e _ => State.loadTaskData_aside _ _ _ _

theorem State.checkTaskIp_aside (ext : Word) : Run.Aside s.aside (s.checkTaskIp ext) := by
  unfold State.checkTaskIp
  exact Run.aside_check _ _ _ _ (Stop.aside_leaving _ _ _ _ rfl) fun _ => Run.aside_ok _ _ rfl

theorem State.taskGateEntry_aside (tsel : Word) (e : Event) : Run.Aside s.aside (s.taskGateEntry tsel e) := by
  unfold State.taskGateEntry
  iterate 3 refine Run.aside_check _ _ _ _ (by simp) fun _ => ?_
  refine Run.aside_then _ _ _ (State.switchTasks_aside _ _ _ _ _ _ _) fun n _ => ?_
  split
  · exact State.checkTaskIp_aside _ _
  · refine Run.aside_check _ _ _ _ (Stop.aside_leaving _ _ _ _ rfl) fun _ => ?_
    have := State.checkTaskIp_aside (n.pushRaw ‹_›) e.extBit
    rwa [State.pushRaw_aside] at this

theorem State.enterReal_aside (e : Event) : Run.Aside s.aside (s.enterReal e) := by
  unfold State.enterReal
  iterate 2 refine Run.aside_check _ _ _ _ (by simp) fun _ => ?_
  refine Run.aside_ok _ _ ?_
  show ((((s.pushRaw s.flags.toWord).pushRaw s.cs.sel).pushRaw e.ret)).aside = _
  simp

/-- Every stop of `x` leaves what is aside alone. -/
def Run.StopsAside {α : Type} (a : State) (x : Run α) : Prop := ∀ e, x = .error e → e.Aside a

theorem Run.stopsAside_check {α : Type} (a : State) (b : Bool) (e : Stop) (f : Unit → Run α) (h : e.Aside a)
    (hf : Run.StopsAside a (f ())) : Run.StopsAside a (check b e >>= f) := by
  cases b
  · intro e' h'; cases h'; exact h
  · exact hf

theorem State.innerStack_stopsAside (a : State) (l : BitVec 2) : Run.StopsAside a (s.innerStack l) :=
  Run.stopsAside_check _ _ _ _ (by simp) fun _ e => by cases e

theorem State.innerStackDesc_stopsAside (a : State) (nss : Word) (l : BitVec 2) (ext : Word) :
    Run.StopsAside a (s.innerStackDesc nss l ext) := by
  unfold State.innerStackDesc
  refine Run.stopsAside_check _ _ _ _ (by simp) ?_
  cases hd : (s.reading .stackSeg).desc nss (excTs (selCode nss + ext)) with
  | error e => intro e' h; cases h; exact State.desc_error _ _ _ _ hd ▸ Stop.aside_ts _ _
  | ok d =>
    rw [run_bind_ok]
    iterate 4 refine Run.stopsAside_check _ _ _ _ (by simp) ?_
    intro e h; cases h

theorem State.enterInner_aside (e : Event) (g c : Desc) (n : Nat) : Run.Aside s.aside (s.enterInner e g c n) := by
  unfold State.enterInner
  refine Run.aside_bind _ _ _ (s.innerStack_stopsAside _ _) fun stk _ => ?_
  refine Run.aside_bind _ _ _ (s.innerStackDesc_stopsAside _ _ _ _) fun d _ => ?_
  iterate 2 refine Run.aside_check _ _ _ _ (by simp) fun _ => ?_
  exact Run.aside_ok _ _ (by simp [State.loadInnerStack, State.loadCs, State.pushFrame])

theorem State.enterSame_aside (e : Event) (g c : Desc) (n : Nat) : Run.Aside s.aside (s.enterSame e g c n) := by
  unfold State.enterSame
  iterate 2 refine Run.aside_check _ _ _ _ (by simp) fun _ => ?_
  exact Run.aside_ok _ _ (by simp [State.loadCs, State.pushFrame])

theorem State.enterProt_aside (e : Event) : Run.Aside s.aside (s.enterProt e) := by
  unfold State.enterProt
  iterate 4 refine Run.aside_check _ _ _ _ (by simp) fun _ => ?_
  split
  · exact s.taskGateEntry_aside _ _
  · refine Run.aside_check _ _ _ _ (by simp) fun _ => ?_
    refine Run.aside_bind _ _ _ (fun e he => State.desc_error _ _ _ _ he ▸ Stop.aside_gp _ _) fun c _ => ?_
    iterate 3 refine Run.aside_check _ _ _ _ (by simp) fun _ => ?_
    have h (t : State) (o : Word) (b : Bool) : (t.enterHandler o b).aside = t.aside := rfl
    split
    · exact Run.aside_then _ _ _ (s.enterInner_aside _ _ _ _) fun t _ => Run.aside_ok _ _ (h _ _ _)
    · exact Run.aside_then _ _ _ (s.enterSame_aside _ _ _ _) fun t _ => Run.aside_ok _ _ (h _ _ _)

/-- One attempt at an entry. -/
theorem State.enter_aside (e : Event) : Run.Aside s.aside (s.enter e) := by
  unfold State.enter; split
  · exact s.enterProt_aside e
  · exact s.enterReal_aside e

theorem State.doubleFault_aside (t : State) (h : s.doubleFault = .ok t) : t.aside = s.aside := by
  unfold State.doubleFault at h
  split at h
  · cases h; exact ((s.attempt 3).enter_aside _).1 _ ‹_›
  · cases h
    rename_i v c left hl
    cases left with
    | none => rfl
    | some u => show u.aside = s.aside; exact ((s.attempt 3).enter_aside _).2 _ _ _ hl
  · cases h

theorem State.deliverFailure_aside (fv : Byte) (fc : Option Word) (t : State) (h : s.deliverFailure fv fc = .ok t) :
    t.aside = s.aside := by
  unfold State.deliverFailure at h
  split at h
  · exact s.doubleFault_aside t h
  · split at h
    · cases h; exact ((s.attempt 2).enter_aside _).1 _ ‹_›
    · rename_i v c left hl
      have := State.doubleFault_aside _ t h
      cases left with
      | none => exact this
      | some u => exact this.trans (((s.attempt 2).enter_aside _).2 _ _ _ hl)
    · cases h

/-- WHAT TAKING AN INTERRUPT OR EXCEPTION LEAVES ALONE, whichever entry comes of it (R840, R841, R845, R880). -/
theorem State.deliver_aside (e : Event) (t : State) (h : s.deliver e = .ok t) : t.aside = s.aside := by
  unfold State.deliver at h
  split at h
  case h_2 => cases h
  rename_i t' h'
  cases h
  show t'.aside = s.aside
  unfold State.escalate at h'
  split at h'
  · cases h'; exact ((s.attempt 1).enter_aside _).1 _ ‹_›
  · cases h'
  · rename_i v c left hl
    have hu : (left.getD s).aside = s.aside := by
      cases left with
      | none => rfl
      | some u => exact ((s.attempt 1).enter_aside _).2 _ _ _ hl
    simp only at h'
    split at h'
    · cases h'; exact hu
    · split at h'
      · exact (State.doubleFault_aside _ _ h').trans hu
      · exact (State.deliverFailure_aside _ _ _ _ h').trans hu


/-! A delivery that answers remembers nothing of the instruction -/

theorem State.loadTaskLdt_dec (ext : Word) (t : State) (h : s.loadTaskLdt ext = .ok t) : t.dec = s.dec := by
  unfold State.loadTaskLdt at h
  simp only at h
  split at h
  · cases h; rfl
  · simp only [run_bind_eq_ok, check_ok, exists_const, run_pure, Except.ok.injEq] at h
    obtain ⟨_, _, _, rfl⟩ := h; rfl

theorem State.loadTaskSs_dec (ext : Word) (t : State) (h : s.loadTaskSs ext = .ok t) : t.dec = s.dec := by
  simp only [State.loadTaskSs, run_bind_eq_ok, check_ok, exists_const, run_pure, Except.ok.injEq] at h
  obtain ⟨_, d, _, _, _, _, _, rfl⟩ := h
  simp [State.loadCache, State.markAccessed]

theorem State.loadTaskCs_dec (ext : Word) (t : State) (h : s.loadTaskCs ext = .ok t) : t.dec = s.dec := by
  simp only [State.loadTaskCs, run_bind_eq_ok, check_ok, exists_const, run_pure, Except.ok.injEq] at h
  obtain ⟨_, d, _, _, _, _, rfl⟩ := h
  simp [State.loadCache, State.markAccessed]

theorem State.loadTaskData_dec (r : SReg) (part : Part) (ext : Word) (t : State)
    (h : s.loadTaskData r part ext = .ok t) : t.dec = s.dec := by
  unfold State.loadTaskData at h
  simp only at h
  split at h
  · cases h; rfl
  · simp only [run_bind_eq_ok, check_ok, exists_const, run_pure, Except.ok.injEq] at h
    obtain ⟨d, _, _, _, _, rfl⟩ := h
    simp [State.loadCache, State.markAccessed]

theorem State.switchTasks_dec (nsel : Word) (nd : Desc) (nesting : Bool) (cause : SwitchCause) (ip ext : Word)
    (t : State) (h : s.switchTasks nsel nd nesting cause ip ext = .ok t) : t.dec = {} := by
  obtain ⟨_, _, _, a, b, c, d, h1, h2, h3, h4, h5⟩ := s.switchTasks_ok nsel nd nesting cause ip ext t h
  rw [State.loadTaskData_dec _ _ _ _ _ h5, State.loadTaskData_dec _ _ _ _ _ h4, State.loadTaskCs_dec _ _ _ h3,
    State.loadTaskSs_dec _ _ _ h2, State.loadTaskLdt_dec _ _ _ h1]
  rfl

theorem State.taskGateEntry_dec (tsel : Word) (e : Event) (t : State) (h : s.taskGateEntry tsel e = .ok t) :
    t.dec = {} := by
  simp only [State.taskGateEntry, run_bind_eq_ok, check_ok, exists_const] at h
  obtain ⟨_, _, _, n, hn, h⟩ := h
  have hd := s.switchTasks_dec _ _ _ _ _ _ _ hn
  split at h
  · rw [(State.checkTaskIp_ok _ _ _ h).1, hd]
  · simp only [run_bind_eq_ok, check_ok, exists_const] at h
    rw [(State.checkTaskIp_ok _ _ _ h.2).1]
    simp [State.pushRaw, hd]

/-- One entry that answers. -/
theorem State.enter_dec (e : Event) (t : State) (h : s.enter e = .ok t) : t.dec = {} := by
  unfold State.enter at h
  split at h
  · obtain ⟨_, _, h | ⟨_, u, _, _, _, _, _, rfl⟩⟩ := s.enterProt_ok e t h
    · exact s.taskGateEntry_dec _ _ _ h
    · rfl
  · exact (s.enterReal_ok e t h).2.2.2.2

/-- AFTER AN INTERRUPT OR EXCEPTION nothing is remembered of the instruction it interrupted (R820). -/
theorem State.deliver_dec (e : Event) (t : State) (h : s.deliver e = .ok t) : t.dec = {} := by
  obtain ⟨t', rfl, ⟨u, e', h⟩ | ⟨u, rfl⟩⟩ := s.deliver_ok e t h
  · exact u.enter_dec e' t' h
  · rfl

/-! The exceptions in the words of the statements -/

/-- In real mode an error code changes nothing: none is pushed (R830). -/
theorem State.deliver_real (h : s.prot = false) (e : Event) (c : Option Word) :
    s.deliver { e with code := c } = s.deliver e := by
  have : s.escalate { e with code := c } = s.escalate e := by
    have h1 (n : Nat) (x : Event) : (s.attempt n).enter x = (s.attempt n).enterReal x := by
      unfold State.enter; rw [State.attempt_prot, h]; rfl
    unfold State.escalate
    rw [h1, h1]
    rfl
  unfold State.deliver
  rw [this]

/-- A failed reference in real mode is interrupt 13, whatever the code (R151, R830). -/
theorem State.exception_real (h : s.prot = false) (vec : Byte) (c : Option Word) :
    s.exception vec c = s.exception vec none := by
  unfold State.exception State.takeException
  rw [← s.deliver_real h _ none]

/-- The exception a failed reference raises is the one the statements name (R146, R151). -/
theorem State.finish_segFault (x : SReg) : s.finish (.error (s.segFault x)) = s.badReference x := by
  cases h : s.prot
  · have e : s.segFault x = excGp 0 := by unfold State.segFault; rw [h]; rfl
    rw [e, State.badReference, h, ← s.exception_real h 13 (some 0)]; rfl
  · unfold State.badReference State.segFault
    rw [h]
    by_cases hx : x = .ss
    · subst hx; rfl
    · rw [if_neg hx]; simp only [Bool.true_and, beq_iff_eq, hx, if_false]; rfl

end Sys2Proof.Machine
end

