-- ==== Sys2Proof/Laws/Encoding.lean ====
section
/-!
SUPPORT. What the pieces of the decoder make of the pieces the encoder writes: the fields of a ModRM byte, words, and
the operand forms with whatever follows them.
-/

namespace Sys2Proof

theorem encRaw_mod (m : BitVec 2) (n r : BitVec 3) : (encRaw m n r).extractLsb' 6 2 = m := by
  revert m n r; decide

theorem encRaw_reg (m : BitVec 2) (n r : BitVec 3) : (encRaw m n r).extractLsb' 3 3 = n := by
  revert m n r; decide

theorem encRaw_rm (m : BitVec 2) (n r : BitVec 3) : (encRaw m n r).extractLsb' 0 3 = r := by
  revert m n r; decide

/-- A byte is the ModRM byte of its three fields (R231). -/
theorem encRaw_fields (b : Byte) :
    encRaw (b.extractLsb' 6 2) (b.extractLsb' 3 3) (b.extractLsb' 0 3) = b := by
  revert b; decide

@[simp] theorem Reg16.ofCode_code (r : Reg16) : Reg16.ofCode r.code = r := by cases r <;> rfl

@[simp] theorem Reg16.code_ofCode (c : BitVec 3) : (Reg16.ofCode c).code = c := by revert c; decide

@[simp] theorem Reg8.ofCode_code (r : Reg8) : Reg8.ofCode r.code = r := by cases r <;> rfl

@[simp] theorem Reg8.code_ofCode (c : BitVec 3) : (Reg8.ofCode c).code = c := by revert c; decide

@[simp] theorem Base.ofCode_code (b : Base) : Base.ofCode b.code = b := by cases b <;> rfl

@[simp] theorem Base.code_ofCode (c : BitVec 3) : (Base.ofCode c).code = c := by revert c; decide

/-- A word is its two bytes (R122). -/
theorem encW_word (w : Word) : Word.ofBytes w.lo w.hi = w := by
  apply BitVec.eq_of_toNat_eq
  have h := w.isLt
  simp only [Word.ofBytes, Word.lo, Word.hi, BitVec.toNat_append, BitVec.extractLsb'_toNat, Nat.shiftRight_zero]
  rw [← Nat.shiftLeft_add_eq_or_of_lt (by omega)]
  simp only [Nat.shiftRight_eq_div_pow, Nat.shiftLeft_eq]
  omega

/-- Reading a word the encoder wrote (R221). -/
theorem take16_encW (k : Word → Parse) (w : Word) (rest : List Byte) : take16 k (encW w ++ rest) = k w rest := by
  exact congrArg (fun v => k v rest) (encW_word w)

/-- The bytes of a memory operand are read back as that operand (R231-R234). -/
theorem modRM_encMem (n : BitVec 3) (m : Mem) (h : m.wf = true) (k : BitVec 3 → Mem → Parse) (rest : List Byte) :
    modRM (fun md n r => takeMem md r (k n)) (encMem n m ++ rest) = k n m rest := by
  cases m with
  | direct d =>
    simp only [encMem, List.cons_append, modRM, take8, encRaw_mod, encRaw_reg, encRaw_rm]
    simp [takeMem, take16_encW]
  | ind b =>
    have hb : b.code ≠ 6 := by cases b <;> first | decide | cases h
    simp only [encMem, List.cons_append, modRM, take8, encRaw_mod, encRaw_reg, encRaw_rm]
    simp only [takeMem, if_neg hb, Base.ofCode_code]
    rfl
  | disp8 b d =>
    simp only [encMem, List.cons_append, modRM, take8, encRaw_mod, encRaw_reg, encRaw_rm]
    simp [takeMem, take8]
  | disp16 b d =>
    simp only [encMem, List.cons_append, modRM, take8, encRaw_mod, encRaw_reg, encRaw_rm]
    simp [takeMem, take16_encW]

/-- The bytes of a memory operand begin with a ModRM byte whose mod is not 3. -/
theorem encMem_mod (n : BitVec 3) (m : Mem) :
    ∃ md r tail, encMem n m = encRaw md n r :: tail ∧ md ≠ 3 := by
  cases m with
  | direct d => exact ⟨0, 6, _, rfl, by decide⟩
  | ind b => exact ⟨0, b.code, _, rfl, by decide⟩
  | disp8 b d => exact ⟨1, b.code, _, rfl, by decide⟩
  | disp16 b d => exact ⟨2, b.code, _, rfl, by decide⟩

/-- The bytes of a byte operand are read back as that operand, with its reg field (R231-R234). -/
theorem modRM_encE8 (n : BitVec 3) (e : E8) (h : e.wf = true) (f : BitVec 2 → BitVec 3 → BitVec 3 → Parse)
    (k : E8 → Parse) (hf : ∀ md r, f md n r = takeE8 md r k) (rest : List Byte) :
    modRM f (encE8 n e ++ rest) = k e rest := by
  cases e with
  | reg r =>
    simp only [encE8, List.cons_append, modRM, take8, encRaw_mod, encRaw_reg, encRaw_rm, hf]
    simp [takeE8]
  | mem m =>
    have hm := modRM_encMem n m h (fun _ m => k (.mem m)) rest
    obtain ⟨md, r, tail, he, hne⟩ := encMem_mod n m
    simp only [encE8, he, List.cons_append, modRM, take8, encRaw_mod, encRaw_reg, encRaw_rm, hf] at hm ⊢
    simp only [takeE8, if_neg hne, hm]

/-- The bytes of a word operand are read back as that operand, with its reg field (R231-R234). -/
theorem modRM_encE16 (n : BitVec 3) (e : E16) (h : e.wf = true) (f : BitVec 2 → BitVec 3 → BitVec 3 → Parse)
    (k : E16 → Parse) (hf : ∀ md r, f md n r = takeE16 md r k) (rest : List Byte) :
    modRM f (encE16 n e ++ rest) = k e rest := by
  cases e with
  | reg r =>
    simp only [encE16, List.cons_append, modRM, take8, encRaw_mod, encRaw_reg, encRaw_rm, hf]
    simp [takeE16]
  | mem m =>
    have hm := modRM_encMem n m h (fun _ m => k (.mem m)) rest
    obtain ⟨md, r, tail, he, hne⟩ := encMem_mod n m
    simp only [encE16, he, List.cons_append, modRM, take8, encRaw_mod, encRaw_reg, encRaw_rm, hf] at hm ⊢
    simp only [takeE16, if_neg hne, hm]

/-- A word takes two bytes. -/
theorem encW_length (w : Word) : (encW w).length = 2 := rfl

/-- A ModRM byte and its displacement are one to three bytes (R233). -/
theorem encMem_length (n : BitVec 3) (m : Mem) : 1 ≤ (encMem n m).length ∧ (encMem n m).length ≤ 3 := by
  cases m <;> simp [encMem, encW]

theorem encE8_length (n : BitVec 3) (e : E8) : 1 ≤ (encE8 n e).length ∧ (encE8 n e).length ≤ 3 := by
  cases e with
  | reg r => simp [encE8]
  | mem m => exact encMem_length n m

theorem encE16_length (n : BitVec 3) (e : E16) : 1 ≤ (encE16 n e).length ∧ (encE16 n e).length ≤ 3 := by
  cases e with
  | reg r => simp [encE16]
  | mem m => exact encMem_length n m

end Sys2Proof
end

