-- ==== Sys2Proof/Laws/PerInstr.lean ====
section
/-!
SUPPORT. The family `EncodedLength`: one lemma per instruction, that its encoding, prefixes apart, takes one to six bytes
(R222, R230-R254).
-/

namespace Sys2Proof.Laws

/-- The encoding of an instruction without its prefixes takes one to six bytes. -/
def EncodedLength.Statement (i : Instr) : Prop := 1 ≤ (encode i).length ∧ (encode i).length ≤ 6

/-- Bytes before a byte operand that leave room for it. -/
theorem EncodedLength.before8 (n : BitVec 3) (e : E8) (p : List Byte) (h : p.length ≤ 3) :
    1 ≤ (p ++ encE8 n e).length ∧ (p ++ encE8 n e).length ≤ 6 := by
  have := encE8_length n e
  simp only [List.length_append]
  omega

/-- Bytes before and behind a byte operand that leave room for it. -/
theorem EncodedLength.around8 (n : BitVec 3) (e : E8) (p q : List Byte) (h : p.length + q.length ≤ 3) :
    1 ≤ (p ++ encE8 n e ++ q).length ∧ (p ++ encE8 n e ++ q).length ≤ 6 := by
  have := encE8_length n e
  simp only [List.length_append]
  omega

/-- Bytes before a word operand that leave room for it. -/
theorem EncodedLength.before16 (n : BitVec 3) (e : E16) (p : List Byte) (h : p.length ≤ 3) :
    1 ≤ (p ++ encE16 n e).length ∧ (p ++ encE16 n e).length ≤ 6 := by
  have := encE16_length n e
  simp only [List.length_append]
  omega

/-- Bytes before and behind a word operand that leave room for it. -/
theorem EncodedLength.around16 (n : BitVec 3) (e : E16) (p q : List Byte) (h : p.length + q.length ≤ 3) :
    1 ≤ (p ++ encE16 n e ++ q).length ∧ (p ++ encE16 n e ++ q).length ≤ 6 := by
  have := encE16_length n e
  simp only [List.length_append]
  omega

theorem EncodedLength.addEbRb (e : E8) (r : Reg8) : EncodedLength.Statement (.addEbRb e r) :=
  EncodedLength.before8 _ _ [_] (Nat.le_of_ble_eq_true rfl)

theorem EncodedLength.addEwRw (e : E16) (r : Reg16) : EncodedLength.Statement (.addEwRw e r) :=
  EncodedLength.before16 _ _ [_] (Nat.le_of_ble_eq_true rfl)

theorem EncodedLength.addRbEb (r : Reg8) (e : E8) : EncodedLength.Statement (.addRbEb r e) :=
  EncodedLength.before8 _ _ [_] (Nat.le_of_ble_eq_true rfl)

theorem EncodedLength.addRwEw (r : Reg16) (e : E16) : EncodedLength.Statement (.addRwEw r e) :=
  EncodedLength.before16 _ _ [_] (Nat.le_of_ble_eq_true rfl)

theorem EncodedLength.addAlDb (i : Byte) : EncodedLength.Statement (.addAlDb i) :=
  ⟨Nat.le_of_ble_eq_true rfl, Nat.le_of_ble_eq_true rfl⟩

theorem EncodedLength.addAxDw (i : Word) : EncodedLength.Statement (.addAxDw i) :=
  ⟨Nat.le_of_ble_eq_true rfl, Nat.le_of_ble_eq_true rfl⟩

theorem EncodedLength.addEbDb (e : E8) (i : Byte) : EncodedLength.Statement (.addEbDb e i) :=
  EncodedLength.around8 _ _ [_] [_] (Nat.le_of_ble_eq_true rfl)

theorem EncodedLength.addEwDw (e : E16) (i : Word) : EncodedLength.Statement (.addEwDw e i) :=
  EncodedLength.around16 _ _ [_] [_, _] (Nat.le_of_ble_eq_true rfl)

theorem EncodedLength.addEwDb (e : E16) (i : Byte) : EncodedLength.Statement (.addEwDb e i) :=
  EncodedLength.around16 _ _ [_] [_] (Nat.le_of_ble_eq_true rfl)

theorem EncodedLength.orEbRb (e : E8) (r : Reg8) : EncodedLength.Statement (.orEbRb e r) :=
  EncodedLength.before8 _ _ [_] (Nat.le_of_ble_eq_true rfl)

theorem EncodedLength.orEwRw (e : E16) (r : Reg16) : EncodedLength.Statement (.orEwRw e r) :=
  EncodedLength.before16 _ _ [_] (Nat.le_of_ble_eq_true rfl)

theorem EncodedLength.orRbEb (r : Reg8) (e : E8) : EncodedLength.Statement (.orRbEb r e) :=
  EncodedLength.before8 _ _ [_] (Nat.le_of_ble_eq_true rfl)

theorem EncodedLength.orRwEw (r : Reg16) (e : E16) : EncodedLength.Statement (.orRwEw r e) :=
  EncodedLength.before16 _ _ [_] (Nat.le_of_ble_eq_true rfl)

theorem EncodedLength.orAlDb (i : Byte) : EncodedLength.Statement (.orAlDb i) :=
  ⟨Nat.le_of_ble_eq_true rfl, Nat.le_of_ble_eq_true rfl⟩

theorem EncodedLength.orAxDw (i : Word) : EncodedLength.Statement (.orAxDw i) :=
  ⟨Nat.le_of_ble_eq_true rfl, Nat.le_of_ble_eq_true rfl⟩

theorem EncodedLength.orEbDb (e : E8) (i : Byte) : EncodedLength.Statement (.orEbDb e i) :=
  EncodedLength.around8 _ _ [_] [_] (Nat.le_of_ble_eq_true rfl)

theorem EncodedLength.orEwDw (e : E16) (i : Word) : EncodedLength.Statement (.orEwDw e i) :=
  EncodedLength.around16 _ _ [_] [_, _] (Nat.le_of_ble_eq_true rfl)

theorem EncodedLength.adcEbRb (e : E8) (r : Reg8) : EncodedLength.Statement (.adcEbRb e r) :=
  EncodedLength.before8 _ _ [_] (Nat.le_of_ble_eq_true rfl)

theorem EncodedLength.adcEwRw (e : E16) (r : Reg16) : EncodedLength.Statement (.adcEwRw e r) :=
  EncodedLength.before16 _ _ [_] (Nat.le_of_ble_eq_true rfl)

theorem EncodedLength.adcRbEb (r : Reg8) (e : E8) : EncodedLength.Statement (.adcRbEb r e) :=
  EncodedLength.before8 _ _ [_] (Nat.le_of_ble_eq_true rfl)

theorem EncodedLength.adcRwEw (r : Reg16) (e : E16) : EncodedLength.Statement (.adcRwEw r e) :=
  EncodedLength.before16 _ _ [_] (Nat.le_of_ble_eq_true rfl)

theorem EncodedLength.adcAlDb (i : Byte) : EncodedLength.Statement (.adcAlDb i) :=
  ⟨Nat.le_of_ble_eq_true rfl, Nat.le_of_ble_eq_true rfl⟩

theorem EncodedLength.adcAxDw (i : Word) : EncodedLength.Statement (.adcAxDw i) :=
  ⟨Nat.le_of_ble_eq_true rfl, Nat.le_of_ble_eq_true rfl⟩

theorem EncodedLength.adcEbDb (e : E8) (i : Byte) : EncodedLength.Statement (.adcEbDb e i) :=
  EncodedLength.around8 _ _ [_] [_] (Nat.le_of_ble_eq_true rfl)

theorem EncodedLength.adcEwDw (e : E16) (i : Word) : EncodedLength.Statement (.adcEwDw e i) :=
  EncodedLength.around16 _ _ [_] [_, _] (Nat.le_of_ble_eq_true rfl)

theorem EncodedLength.adcEwDb (e : E16) (i : Byte) : EncodedLength.Statement (.adcEwDb e i) :=
  EncodedLength.around16 _ _ [_] [_] (Nat.le_of_ble_eq_true rfl)

theorem EncodedLength.sbbEbRb (e : E8) (r : Reg8) : EncodedLength.Statement (.sbbEbRb e r) :=
  EncodedLength.before8 _ _ [_] (Nat.le_of_ble_eq_true rfl)

theorem EncodedLength.sbbEwRw (e : E16) (r : Reg16) : EncodedLength.Statement (.sbbEwRw e r) :=
  EncodedLength.before16 _ _ [_] (Nat.le_of_ble_eq_true rfl)

theorem EncodedLength.sbbRbEb (r : Reg8) (e : E8) : EncodedLength.Statement (.sbbRbEb r e) :=
  EncodedLength.before8 _ _ [_] (Nat.le_of_ble_eq_true rfl)

theorem EncodedLength.sbbRwEw (r : Reg16) (e : E16) : EncodedLength.Statement (.sbbRwEw r e) :=
  EncodedLength.before16 _ _ [_] (Nat.le_of_ble_eq_true rfl)

theorem EncodedLength.sbbAlDb (i : Byte) : EncodedLength.Statement (.sbbAlDb i) :=
  ⟨Nat.le_of_ble_eq_true rfl, Nat.le_of_ble_eq_true rfl⟩

theorem EncodedLength.sbbAxDw (i : Word) : EncodedLength.Statement (.sbbAxDw i) :=
  ⟨Nat.le_of_ble_eq_true rfl, Nat.le_of_ble_eq_true rfl⟩

theorem EncodedLength.sbbEbDb (e : E8) (i : Byte) : EncodedLength.Statement (.sbbEbDb e i) :=
  EncodedLength.around8 _ _ [_] [_] (Nat.le_of_ble_eq_true rfl)

theorem EncodedLength.sbbEwDw (e : E16) (i : Word) : EncodedLength.Statement (.sbbEwDw e i) :=
  EncodedLength.around16 _ _ [_] [_, _] (Nat.le_of_ble_eq_true rfl)

theorem EncodedLength.sbbEwDb (e : E16) (i : Byte) : EncodedLength.Statement (.sbbEwDb e i) :=
  EncodedLength.around16 _ _ [_] [_] (Nat.le_of_ble_eq_true rfl)

theorem EncodedLength.andEbRb (e : E8) (r : Reg8) : EncodedLength.Statement (.andEbRb e r) :=
  EncodedLength.before8 _ _ [_] (Nat.le_of_ble_eq_true rfl)

theorem EncodedLength.andEwRw (e : E16) (r : Reg16) : EncodedLength.Statement (.andEwRw e r) :=
  EncodedLength.before16 _ _ [_] (Nat.le_of_ble_eq_true rfl)

theorem EncodedLength.andRbEb (r : Reg8) (e : E8) : EncodedLength.Statement (.andRbEb r e) :=
  EncodedLength.before8 _ _ [_] (Nat.le_of_ble_eq_true rfl)

theorem EncodedLength.andRwEw (r : Reg16) (e : E16) : EncodedLength.Statement (.andRwEw r e) :=
  EncodedLength.before16 _ _ [_] (Nat.le_of_ble_eq_true rfl)

theorem EncodedLength.andAlDb (i : Byte) : EncodedLength.Statement (.andAlDb i) :=
  ⟨Nat.le_of_ble_eq_true rfl, Nat.le_of_ble_eq_true rfl⟩

theorem EncodedLength.andAxDw (i : Word) : EncodedLength.Statement (.andAxDw i) :=
  ⟨Nat.le_of_ble_eq_true rfl, Nat.le_of_ble_eq_true rfl⟩

theorem EncodedLength.andEbDb (e : E8) (i : Byte) : EncodedLength.Statement (.andEbDb e i) :=
  EncodedLength.around8 _ _ [_] [_] (Nat.le_of_ble_eq_true rfl)

theorem EncodedLength.andEwDw (e : E16) (i : Word) : EncodedLength.Statement (.andEwDw e i) :=
  EncodedLength.around16 _ _ [_] [_, _] (Nat.le_of_ble_eq_true rfl)

theorem EncodedLength.subEbRb (e : E8) (r : Reg8) : EncodedLength.Statement (.subEbRb e r) :=
  EncodedLength.before8 _ _ [_] (Nat.le_of_ble_eq_true rfl)

theorem EncodedLength.subEwRw (e : E16) (r : Reg16) : EncodedLength.Statement (.subEwRw e r) :=
  EncodedLength.before16 _ _ [_] (Nat.le_of_ble_eq_true rfl)

theorem EncodedLength.subRbEb (r : Reg8) (e : E8) : EncodedLength.Statement (.subRbEb r e) :=
  EncodedLength.before8 _ _ [_] (Nat.le_of_ble_eq_true rfl)

theorem EncodedLength.subRwEw (r : Reg16) (e : E16) : EncodedLength.Statement (.subRwEw r e) :=
  EncodedLength.before16 _ _ [_] (Nat.le_of_ble_eq_true rfl)

theorem EncodedLength.subAlDb (i : Byte) : EncodedLength.Statement (.subAlDb i) :=
  ⟨Nat.le_of_ble_eq_true rfl, Nat.le_of_ble_eq_true rfl⟩

theorem EncodedLength.subAxDw (i : Word) : EncodedLength.Statement (.subAxDw i) :=
  ⟨Nat.le_of_ble_eq_true rfl, Nat.le_of_ble_eq_true rfl⟩

theorem EncodedLength.subEbDb (e : E8) (i : Byte) : EncodedLength.Statement (.subEbDb e i) :=
  EncodedLength.around8 _ _ [_] [_] (Nat.le_of_ble_eq_true rfl)

theorem EncodedLength.subEwDw (e : E16) (i : Word) : EncodedLength.Statement (.subEwDw e i) :=
  EncodedLength.around16 _ _ [_] [_, _] (Nat.le_of_ble_eq_true rfl)

theorem EncodedLength.subEwDb (e : E16) (i : Byte) : EncodedLength.Statement (.subEwDb e i) :=
  EncodedLength.around16 _ _ [_] [_] (Nat.le_of_ble_eq_true rfl)

theorem EncodedLength.xorEbRb (e : E8) (r : Reg8) : EncodedLength.Statement (.xorEbRb e r) :=
  EncodedLength.before8 _ _ [_] (Nat.le_of_ble_eq_true rfl)

theorem EncodedLength.xorEwRw (e : E16) (r : Reg16) : EncodedLength.Statement (.xorEwRw e r) :=
  EncodedLength.before16 _ _ [_] (Nat.le_of_ble_eq_true rfl)

theorem EncodedLength.xorRbEb (r : Reg8) (e : E8) : EncodedLength.Statement (.xorRbEb r e) :=
  EncodedLength.before8 _ _ [_] (Nat.le_of_ble_eq_true rfl)

theorem EncodedLength.xorRwEw (r : Reg16) (e : E16) : EncodedLength.Statement (.xorRwEw r e) :=
  EncodedLength.before16 _ _ [_] (Nat.le_of_ble_eq_true rfl)

theorem EncodedLength.xorAlDb (i : Byte) : EncodedLength.Statement (.xorAlDb i) :=
  ⟨Nat.le_of_ble_eq_true rfl, Nat.le_of_ble_eq_true rfl⟩

theorem EncodedLength.xorAxDw (i : Word) : EncodedLength.Statement (.xorAxDw i) :=
  ⟨Nat.le_of_ble_eq_true rfl, Nat.le_of_ble_eq_true rfl⟩

theorem EncodedLength.xorEbDb (e : E8) (i : Byte) : EncodedLength.Statement (.xorEbDb e i) :=
  EncodedLength.around8 _ _ [_] [_] (Nat.le_of_ble_eq_true rfl)

theorem EncodedLength.xorEwDw (e : E16) (i : Word) : EncodedLength.Statement (.xorEwDw e i) :=
  EncodedLength.around16 _ _ [_] [_, _] (Nat.le_of_ble_eq_true rfl)

theorem EncodedLength.cmpEbRb (e : E8) (r : Reg8) : EncodedLength.Statement (.cmpEbRb e r) :=
  EncodedLength.before8 _ _ [_] (Nat.le_of_ble_eq_true rfl)

theorem EncodedLength.cmpEwRw (e : E16) (r : Reg16) : EncodedLength.Statement (.cmpEwRw e r) :=
  EncodedLength.before16 _ _ [_] (Nat.le_of_ble_eq_true rfl)

theorem EncodedLength.cmpRbEb (r : Reg8) (e : E8) : EncodedLength.Statement (.cmpRbEb r e) :=
  EncodedLength.before8 _ _ [_] (Nat.le_of_ble_eq_true rfl)

theorem EncodedLength.cmpRwEw (r : Reg16) (e : E16) : EncodedLength.Statement (.cmpRwEw r e) :=
  EncodedLength.before16 _ _ [_] (Nat.le_of_ble_eq_true rfl)

theorem EncodedLength.cmpAlDb (i : Byte) : EncodedLength.Statement (.cmpAlDb i) :=
  ⟨Nat.le_of_ble_eq_true rfl, Nat.le_of_ble_eq_true rfl⟩

theorem EncodedLength.cmpAxDw (i : Word) : EncodedLength.Statement (.cmpAxDw i) :=
  ⟨Nat.le_of_ble_eq_true rfl, Nat.le_of_ble_eq_true rfl⟩

theorem EncodedLength.cmpEbDb (e : E8) (i : Byte) : EncodedLength.Statement (.cmpEbDb e i) :=
  EncodedLength.around8 _ _ [_] [_] (Nat.le_of_ble_eq_true rfl)

theorem EncodedLength.cmpEwDw (e : E16) (i : Word) : EncodedLength.Statement (.cmpEwDw e i) :=
  EncodedLength.around16 _ _ [_] [_, _] (Nat.le_of_ble_eq_true rfl)

theorem EncodedLength.cmpEwDb (e : E16) (i : Byte) : EncodedLength.Statement (.cmpEwDb e i) :=
  EncodedLength.around16 _ _ [_] [_] (Nat.le_of_ble_eq_true rfl)

theorem EncodedLength.incRw (r : Reg16) : EncodedLength.Statement (.incRw r) :=
  ⟨Nat.le_of_ble_eq_true rfl, Nat.le_of_ble_eq_true rfl⟩

theorem EncodedLength.decRw (r : Reg16) : EncodedLength.Statement (.decRw r) :=
  ⟨Nat.le_of_ble_eq_true rfl, Nat.le_of_ble_eq_true rfl⟩

theorem EncodedLength.pushRw (r : Reg16) : EncodedLength.Statement (.pushRw r) :=
  ⟨Nat.le_of_ble_eq_true rfl, Nat.le_of_ble_eq_true rfl⟩

theorem EncodedLength.popRw (r : Reg16) : EncodedLength.Statement (.popRw r) :=
  ⟨Nat.le_of_ble_eq_true rfl, Nat.le_of_ble_eq_true rfl⟩

theorem EncodedLength.boundRwMd (r : Reg16) (e : E16) : EncodedLength.Statement (.boundRwMd r e) :=
  EncodedLength.before16 _ _ [_] (Nat.le_of_ble_eq_true rfl)

theorem EncodedLength.arplEwRw (e : E16) (r : Reg16) : EncodedLength.Statement (.arplEwRw e r) :=
  EncodedLength.before16 _ _ [_] (Nat.le_of_ble_eq_true rfl)

theorem EncodedLength.pushDw (i : Word) : EncodedLength.Statement (.pushDw i) :=
  ⟨Nat.le_of_ble_eq_true rfl, Nat.le_of_ble_eq_true rfl⟩

theorem EncodedLength.imulRwEwDw (r : Reg16) (e : E16) (i : Word) : EncodedLength.Statement (.imulRwEwDw r e i) :=
  EncodedLength.around16 _ _ [_] [_, _] (Nat.le_of_ble_eq_true rfl)

theorem EncodedLength.pushDb (i : Byte) : EncodedLength.Statement (.pushDb i) :=
  ⟨Nat.le_of_ble_eq_true rfl, Nat.le_of_ble_eq_true rfl⟩

theorem EncodedLength.imulRwEwDb (r : Reg16) (e : E16) (i : Byte) : EncodedLength.Statement (.imulRwEwDb r e i) :=
  EncodedLength.around16 _ _ [_] [_] (Nat.le_of_ble_eq_true rfl)

theorem EncodedLength.jo (d : Byte) : EncodedLength.Statement (.jo d) :=
  ⟨Nat.le_of_ble_eq_true rfl, Nat.le_of_ble_eq_true rfl⟩

theorem EncodedLength.jno (d : Byte) : EncodedLength.Statement (.jno d) :=
  ⟨Nat.le_of_ble_eq_true rfl, Nat.le_of_ble_eq_true rfl⟩

theorem EncodedLength.jb (d : Byte) : EncodedLength.Statement (.jb d) :=
  ⟨Nat.le_of_ble_eq_true rfl, Nat.le_of_ble_eq_true rfl⟩

theorem EncodedLength.jnb (d : Byte) : EncodedLength.Statement (.jnb d) :=
  ⟨Nat.le_of_ble_eq_true rfl, Nat.le_of_ble_eq_true rfl⟩

theorem EncodedLength.je (d : Byte) : EncodedLength.Statement (.je d) :=
  ⟨Nat.le_of_ble_eq_true rfl, Nat.le_of_ble_eq_true rfl⟩

theorem EncodedLength.jne (d : Byte) : EncodedLength.Statement (.jne d) :=
  ⟨Nat.le_of_ble_eq_true rfl, Nat.le_of_ble_eq_true rfl⟩

theorem EncodedLength.jbe (d : Byte) : EncodedLength.Statement (.jbe d) :=
  ⟨Nat.le_of_ble_eq_true rfl, Nat.le_of_ble_eq_true rfl⟩

theorem EncodedLength.jnbe (d : Byte) : EncodedLength.Statement (.jnbe d) :=
  ⟨Nat.le_of_ble_eq_true rfl, Nat.le_of_ble_eq_true rfl⟩

theorem EncodedLength.js (d : Byte) : EncodedLength.Statement (.js d) :=
  ⟨Nat.le_of_ble_eq_true rfl, Nat.le_of_ble_eq_true rfl⟩

theorem EncodedLength.jns (d : Byte) : EncodedLength.Statement (.jns d) :=
  ⟨Nat.le_of_ble_eq_true rfl, Nat.le_of_ble_eq_true rfl⟩

theorem EncodedLength.jp (d : Byte) : EncodedLength.Statement (.jp d) :=
  ⟨Nat.le_of_ble_eq_true rfl, Nat.le_of_ble_eq_true rfl⟩

theorem EncodedLength.jnp (d : Byte) : EncodedLength.Statement (.jnp d) :=
  ⟨Nat.le_of_ble_eq_true rfl, Nat.le_of_ble_eq_true rfl⟩

theorem EncodedLength.jl (d : Byte) : EncodedLength.Statement (.jl d) :=
  ⟨Nat.le_of_ble_eq_true rfl, Nat.le_of_ble_eq_true rfl⟩

theorem EncodedLength.jnl (d : Byte) : EncodedLength.Statement (.jnl d) :=
  ⟨Nat.le_of_ble_eq_true rfl, Nat.le_of_ble_eq_true rfl⟩

theorem EncodedLength.jle (d : Byte) : EncodedLength.Statement (.jle d) :=
  ⟨Nat.le_of_ble_eq_true rfl, Nat.le_of_ble_eq_true rfl⟩

theorem EncodedLength.jnle (d : Byte) : EncodedLength.Statement (.jnle d) :=
  ⟨Nat.le_of_ble_eq_true rfl, Nat.le_of_ble_eq_true rfl⟩

theorem EncodedLength.testEbRb (e : E8) (r : Reg8) : EncodedLength.Statement (.testEbRb e r) :=
  EncodedLength.before8 _ _ [_] (Nat.le_of_ble_eq_true rfl)

theorem EncodedLength.testEwRw (e : E16) (r : Reg16) : EncodedLength.Statement (.testEwRw e r) :=
  EncodedLength.before16 _ _ [_] (Nat.le_of_ble_eq_true rfl)

theorem EncodedLength.xchgEbRb (e : E8) (r : Reg8) : EncodedLength.Statement (.xchgEbRb e r) :=
  EncodedLength.before8 _ _ [_] (Nat.le_of_ble_eq_true rfl)

theorem EncodedLength.xchgEwRw (e : E16) (r : Reg16) : EncodedLength.Statement (.xchgEwRw e r) :=
  EncodedLength.before16 _ _ [_] (Nat.le_of_ble_eq_true rfl)

theorem EncodedLength.movEbRb (e : E8) (r : Reg8) : EncodedLength.Statement (.movEbRb e r) :=
  EncodedLength.before8 _ _ [_] (Nat.le_of_ble_eq_true rfl)

theorem EncodedLength.movEwRw (e : E16) (r : Reg16) : EncodedLength.Statement (.movEwRw e r) :=
  EncodedLength.before16 _ _ [_] (Nat.le_of_ble_eq_true rfl)

theorem EncodedLength.movRbEb (r : Reg8) (e : E8) : EncodedLength.Statement (.movRbEb r e) :=
  EncodedLength.before8 _ _ [_] (Nat.le_of_ble_eq_true rfl)

theorem EncodedLength.movRwEw (r : Reg16) (e : E16) : EncodedLength.Statement (.movRwEw r e) :=
  EncodedLength.before16 _ _ [_] (Nat.le_of_ble_eq_true rfl)

theorem EncodedLength.movEwEs (e : E16) : EncodedLength.Statement (.movEwEs e) :=
  EncodedLength.before16 _ _ [_] (Nat.le_of_ble_eq_true rfl)

theorem EncodedLength.movEwCs (e : E16) : EncodedLength.Statement (.movEwCs e) :=
  EncodedLength.before16 _ _ [_] (Nat.le_of_ble_eq_true rfl)

theorem EncodedLength.movEwSs (e : E16) : EncodedLength.Statement (.movEwSs e) :=
  EncodedLength.before16 _ _ [_] (Nat.le_of_ble_eq_true rfl)

theorem EncodedLength.movEwDs (e : E16) : EncodedLength.Statement (.movEwDs e) :=
  EncodedLength.before16 _ _ [_] (Nat.le_of_ble_eq_true rfl)

theorem EncodedLength.leaRwM (r : Reg16) (e : E16) : EncodedLength.Statement (.leaRwM r e) :=
  EncodedLength.before16 _ _ [_] (Nat.le_of_ble_eq_true rfl)

theorem EncodedLength.movEsEw (e : E16) : EncodedLength.Statement (.movEsEw e) :=
  EncodedLength.before16 _ _ [_] (Nat.le_of_ble_eq_true rfl)

theorem EncodedLength.movSsEw (e : E16) : EncodedLength.Statement (.movSsEw e) :=
  EncodedLength.before16 _ _ [_] (Nat.le_of_ble_eq_true rfl)

theorem EncodedLength.movDsEw (e : E16) : EncodedLength.Statement (.movDsEw e) :=
  EncodedLength.before16 _ _ [_] (Nat.le_of_ble_eq_true rfl)

theorem EncodedLength.popMw (e : E16) : EncodedLength.Statement (.popMw e) :=
  EncodedLength.before16 _ _ [_] (Nat.le_of_ble_eq_true rfl)

theorem EncodedLength.xchgAxRw (r : Reg16) : EncodedLength.Statement (.xchgAxRw r) :=
  ⟨Nat.le_of_ble_eq_true rfl, Nat.le_of_ble_eq_true rfl⟩

theorem EncodedLength.callCd (off : Word) (sel : Word) : EncodedLength.Statement (.callCd off sel) :=
  ⟨Nat.le_of_ble_eq_true rfl, Nat.le_of_ble_eq_true rfl⟩

theorem EncodedLength.movAlXb (a : Word) : EncodedLength.Statement (.movAlXb a) :=
  ⟨Nat.le_of_ble_eq_true rfl, Nat.le_of_ble_eq_true rfl⟩

theorem EncodedLength.movAxXw (a : Word) : EncodedLength.Statement (.movAxXw a) :=
  ⟨Nat.le_of_ble_eq_true rfl, Nat.le_of_ble_eq_true rfl⟩

theorem EncodedLength.movXbAl (a : Word) : EncodedLength.Statement (.movXbAl a) :=
  ⟨Nat.le_of_ble_eq_true rfl, Nat.le_of_ble_eq_true rfl⟩

theorem EncodedLength.movXwAx (a : Word) : EncodedLength.Statement (.movXwAx a) :=
  ⟨Nat.le_of_ble_eq_true rfl, Nat.le_of_ble_eq_true rfl⟩

theorem EncodedLength.testAlDb (i : Byte) : EncodedLength.Statement (.testAlDb i) :=
  ⟨Nat.le_of_ble_eq_true rfl, Nat.le_of_ble_eq_true rfl⟩

theorem EncodedLength.testAxDw (i : Word) : EncodedLength.Statement (.testAxDw i) :=
  ⟨Nat.le_of_ble_eq_true rfl, Nat.le_of_ble_eq_true rfl⟩

theorem EncodedLength.movRbDb (r : Reg8) (i : Byte) : EncodedLength.Statement (.movRbDb r i) :=
  ⟨Nat.le_of_ble_eq_true rfl, Nat.le_of_ble_eq_true rfl⟩

theorem EncodedLength.movRwDw (r : Reg16) (i : Word) : EncodedLength.Statement (.movRwDw r i) :=
  ⟨Nat.le_of_ble_eq_true rfl, Nat.le_of_ble_eq_true rfl⟩

theorem EncodedLength.rolEbDb (e : E8) (i : Byte) : EncodedLength.Statement (.rolEbDb e i) :=
  EncodedLength.around8 _ _ [_] [_] (Nat.le_of_ble_eq_true rfl)

theorem EncodedLength.rorEbDb (e : E8) (i : Byte) : EncodedLength.Statement (.rorEbDb e i) :=
  EncodedLength.around8 _ _ [_] [_] (Nat.le_of_ble_eq_true rfl)

theorem EncodedLength.rclEbDb (e : E8) (i : Byte) : EncodedLength.Statement (.rclEbDb e i) :=
  EncodedLength.around8 _ _ [_] [_] (Nat.le_of_ble_eq_true rfl)

theorem EncodedLength.rcrEbDb (e : E8) (i : Byte) : EncodedLength.Statement (.rcrEbDb e i) :=
  EncodedLength.around8 _ _ [_] [_] (Nat.le_of_ble_eq_true rfl)

theorem EncodedLength.salEbDb (e : E8) (i : Byte) : EncodedLength.Statement (.salEbDb e i) :=
  EncodedLength.around8 _ _ [_] [_] (Nat.le_of_ble_eq_true rfl)

theorem EncodedLength.shrEbDb (e : E8) (i : Byte) : EncodedLength.Statement (.shrEbDb e i) :=
  EncodedLength.around8 _ _ [_] [_] (Nat.le_of_ble_eq_true rfl)

theorem EncodedLength.sarEbDb (e : E8) (i : Byte) : EncodedLength.Statement (.sarEbDb e i) :=
  EncodedLength.around8 _ _ [_] [_] (Nat.le_of_ble_eq_true rfl)

theorem EncodedLength.rolEwDb (e : E16) (i : Byte) : EncodedLength.Statement (.rolEwDb e i) :=
  EncodedLength.around16 _ _ [_] [_] (Nat.le_of_ble_eq_true rfl)

theorem EncodedLength.rorEwDb (e : E16) (i : Byte) : EncodedLength.Statement (.rorEwDb e i) :=
  EncodedLength.around16 _ _ [_] [_] (Nat.le_of_ble_eq_true rfl)

theorem EncodedLength.rclEwDb (e : E16) (i : Byte) : EncodedLength.Statement (.rclEwDb e i) :=
  EncodedLength.around16 _ _ [_] [_] (Nat.le_of_ble_eq_true rfl)

theorem EncodedLength.rcrEwDb (e : E16) (i : Byte) : EncodedLength.Statement (.rcrEwDb e i) :=
  EncodedLength.around16 _ _ [_] [_] (Nat.le_of_ble_eq_true rfl)

theorem EncodedLength.salEwDb (e : E16) (i : Byte) : EncodedLength.Statement (.salEwDb e i) :=
  EncodedLength.around16 _ _ [_] [_] (Nat.le_of_ble_eq_true rfl)

theorem EncodedLength.shrEwDb (e : E16) (i : Byte) : EncodedLength.Statement (.shrEwDb e i) :=
  EncodedLength.around16 _ _ [_] [_] (Nat.le_of_ble_eq_true rfl)

theorem EncodedLength.sarEwDb (e : E16) (i : Byte) : EncodedLength.Statement (.sarEwDb e i) :=
  EncodedLength.around16 _ _ [_] [_] (Nat.le_of_ble_eq_true rfl)

theorem EncodedLength.rolEbOne (e : E8) : EncodedLength.Statement (.rolEbOne e) :=
  EncodedLength.before8 _ _ [_] (Nat.le_of_ble_eq_true rfl)

theorem EncodedLength.rorEbOne (e : E8) : EncodedLength.Statement (.rorEbOne e) :=
  EncodedLength.before8 _ _ [_] (Nat.le_of_ble_eq_true rfl)

theorem EncodedLength.rclEbOne (e : E8) : EncodedLength.Statement (.rclEbOne e) :=
  EncodedLength.before8 _ _ [_] (Nat.le_of_ble_eq_true rfl)

theorem EncodedLength.rcrEbOne (e : E8) : EncodedLength.Statement (.rcrEbOne e) :=
  EncodedLength.before8 _ _ [_] (Nat.le_of_ble_eq_true rfl)

theorem EncodedLength.salEbOne (e : E8) : EncodedLength.Statement (.salEbOne e) :=
  EncodedLength.before8 _ _ [_] (Nat.le_of_ble_eq_true rfl)

theorem EncodedLength.shrEbOne (e : E8) : EncodedLength.Statement (.shrEbOne e) :=
  EncodedLength.before8 _ _ [_] (Nat.le_of_ble_eq_true rfl)

theorem EncodedLength.sarEbOne (e : E8) : EncodedLength.Statement (.sarEbOne e) :=
  EncodedLength.before8 _ _ [_] (Nat.le_of_ble_eq_true rfl)

theorem EncodedLength.rolEwOne (e : E16) : EncodedLength.Statement (.rolEwOne e) :=
  EncodedLength.before16 _ _ [_] (Nat.le_of_ble_eq_true rfl)

theorem EncodedLength.rorEwOne (e : E16) : EncodedLength.Statement (.rorEwOne e) :=
  EncodedLength.before16 _ _ [_] (Nat.le_of_ble_eq_true rfl)

theorem EncodedLength.rclEwOne (e : E16) : EncodedLength.Statement (.rclEwOne e) :=
  EncodedLength.before16 _ _ [_] (Nat.le_of_ble_eq_true rfl)

theorem EncodedLength.rcrEwOne (e : E16) : EncodedLength.Statement (.rcrEwOne e) :=
  EncodedLength.before16 _ _ [_] (Nat.le_of_ble_eq_true rfl)

theorem EncodedLength.salEwOne (e : E16) : EncodedLength.Statement (.salEwOne e) :=
  EncodedLength.before16 _ _ [_] (Nat.le_of_ble_eq_true rfl)

theorem EncodedLength.shrEwOne (e : E16) : EncodedLength.Statement (.shrEwOne e) :=
  EncodedLength.before16 _ _ [_] (Nat.le_of_ble_eq_true rfl)

theorem EncodedLength.sarEwOne (e : E16) : EncodedLength.Statement (.sarEwOne e) :=
  EncodedLength.before16 _ _ [_] (Nat.le_of_ble_eq_true rfl)

theorem EncodedLength.rolEbCl (e : E8) : EncodedLength.Statement (.rolEbCl e) :=
  EncodedLength.before8 _ _ [_] (Nat.le_of_ble_eq_true rfl)

theorem EncodedLength.rorEbCl (e : E8) : EncodedLength.Statement (.rorEbCl e) :=
  EncodedLength.before8 _ _ [_] (Nat.le_of_ble_eq_true rfl)

theorem EncodedLength.rclEbCl (e : E8) : EncodedLength.Statement (.rclEbCl e) :=
  EncodedLength.before8 _ _ [_] (Nat.le_of_ble_eq_true rfl)

theorem EncodedLength.rcrEbCl (e : E8) : EncodedLength.Statement (.rcrEbCl e) :=
  EncodedLength.before8 _ _ [_] (Nat.le_of_ble_eq_true rfl)

theorem EncodedLength.salEbCl (e : E8) : EncodedLength.Statement (.salEbCl e) :=
  EncodedLength.before8 _ _ [_] (Nat.le_of_ble_eq_true rfl)

theorem EncodedLength.shrEbCl (e : E8) : EncodedLength.Statement (.shrEbCl e) :=
  EncodedLength.before8 _ _ [_] (Nat.le_of_ble_eq_true rfl)

theorem EncodedLength.sarEbCl (e : E8) : EncodedLength.Statement (.sarEbCl e) :=
  EncodedLength.before8 _ _ [_] (Nat.le_of_ble_eq_true rfl)

theorem EncodedLength.rolEwCl (e : E16) : EncodedLength.Statement (.rolEwCl e) :=
  EncodedLength.before16 _ _ [_] (Nat.le_of_ble_eq_true rfl)

theorem EncodedLength.rorEwCl (e : E16) : EncodedLength.Statement (.rorEwCl e) :=
  EncodedLength.before16 _ _ [_] (Nat.le_of_ble_eq_true rfl)

theorem EncodedLength.rclEwCl (e : E16) : EncodedLength.Statement (.rclEwCl e) :=
  EncodedLength.before16 _ _ [_] (Nat.le_of_ble_eq_true rfl)

theorem EncodedLength.rcrEwCl (e : E16) : EncodedLength.Statement (.rcrEwCl e) :=
  EncodedLength.before16 _ _ [_] (Nat.le_of_ble_eq_true rfl)

theorem EncodedLength.salEwCl (e : E16) : EncodedLength.Statement (.salEwCl e) :=
  EncodedLength.before16 _ _ [_] (Nat.le_of_ble_eq_true rfl)

theorem EncodedLength.shrEwCl (e : E16) : EncodedLength.Statement (.shrEwCl e) :=
  EncodedLength.before16 _ _ [_] (Nat.le_of_ble_eq_true rfl)

theorem EncodedLength.sarEwCl (e : E16) : EncodedLength.Statement (.sarEwCl e) :=
  EncodedLength.before16 _ _ [_] (Nat.le_of_ble_eq_true rfl)

theorem EncodedLength.retNearDw (i : Word) : EncodedLength.Statement (.retNearDw i) :=
  ⟨Nat.le_of_ble_eq_true rfl, Nat.le_of_ble_eq_true rfl⟩

theorem EncodedLength.lesRwEd (r : Reg16) (e : E16) : EncodedLength.Statement (.lesRwEd r e) :=
  EncodedLength.before16 _ _ [_] (Nat.le_of_ble_eq_true rfl)

theorem EncodedLength.ldsRwEd (r : Reg16) (e : E16) : EncodedLength.Statement (.ldsRwEd r e) :=
  EncodedLength.before16 _ _ [_] (Nat.le_of_ble_eq_true rfl)

theorem EncodedLength.movEbDb (e : E8) (i : Byte) : EncodedLength.Statement (.movEbDb e i) :=
  EncodedLength.around8 _ _ [_] [_] (Nat.le_of_ble_eq_true rfl)

theorem EncodedLength.movEwDw (e : E16) (i : Word) : EncodedLength.Statement (.movEwDw e i) :=
  EncodedLength.around16 _ _ [_] [_, _] (Nat.le_of_ble_eq_true rfl)

theorem EncodedLength.enterDwDb (size : Word) (level : Byte) : EncodedLength.Statement (.enterDwDb size level) :=
  ⟨Nat.le_of_ble_eq_true rfl, Nat.le_of_ble_eq_true rfl⟩

theorem EncodedLength.retFarDw (i : Word) : EncodedLength.Statement (.retFarDw i) :=
  ⟨Nat.le_of_ble_eq_true rfl, Nat.le_of_ble_eq_true rfl⟩

theorem EncodedLength.intDb (i : Byte) : EncodedLength.Statement (.intDb i) :=
  ⟨Nat.le_of_ble_eq_true rfl, Nat.le_of_ble_eq_true rfl⟩

theorem EncodedLength.unlistedD4xx (b : Byte) : EncodedLength.Statement (.unlistedD4xx b) :=
  ⟨Nat.le_of_ble_eq_true rfl, Nat.le_of_ble_eq_true rfl⟩

theorem EncodedLength.unlistedD5xx (b : Byte) : EncodedLength.Statement (.unlistedD5xx b) :=
  ⟨Nat.le_of_ble_eq_true rfl, Nat.le_of_ble_eq_true rfl⟩

theorem EncodedLength.esc (x : BitVec 3) (y : BitVec 3) (e : E16) : EncodedLength.Statement (.esc x y e) :=
  EncodedLength.before16 _ _ [_] (Nat.le_of_ble_eq_true rfl)

theorem EncodedLength.loopne (d : Byte) : EncodedLength.Statement (.loopne d) :=
  ⟨Nat.le_of_ble_eq_true rfl, Nat.le_of_ble_eq_true rfl⟩

theorem EncodedLength.loope (d : Byte) : EncodedLength.Statement (.loope d) :=
  ⟨Nat.le_of_ble_eq_true rfl, Nat.le_of_ble_eq_true rfl⟩

theorem EncodedLength.loop (d : Byte) : EncodedLength.Statement (.loop d) :=
  ⟨Nat.le_of_ble_eq_true rfl, Nat.le_of_ble_eq_true rfl⟩

theorem EncodedLength.jcxz (d : Byte) : EncodedLength.Statement (.jcxz d) :=
  ⟨Nat.le_of_ble_eq_true rfl, Nat.le_of_ble_eq_true rfl⟩

theorem EncodedLength.inAlDb (i : Byte) : EncodedLength.Statement (.inAlDb i) :=
  ⟨Nat.le_of_ble_eq_true rfl, Nat.le_of_ble_eq_true rfl⟩

theorem EncodedLength.inAxDb (i : Byte) : EncodedLength.Statement (.inAxDb i) :=
  ⟨Nat.le_of_ble_eq_true rfl, Nat.le_of_ble_eq_true rfl⟩

theorem EncodedLength.outDbAl (i : Byte) : EncodedLength.Statement (.outDbAl i) :=
  ⟨Nat.le_of_ble_eq_true rfl, Nat.le_of_ble_eq_true rfl⟩

theorem EncodedLength.outDbAx (i : Byte) : EncodedLength.Statement (.outDbAx i) :=
  ⟨Nat.le_of_ble_eq_true rfl, Nat.le_of_ble_eq_true rfl⟩

theorem EncodedLength.callCw (d : Word) : EncodedLength.Statement (.callCw d) :=
  ⟨Nat.le_of_ble_eq_true rfl, Nat.le_of_ble_eq_true rfl⟩

theorem EncodedLength.jmpCw (d : Word) : EncodedLength.Statement (.jmpCw d) :=
  ⟨Nat.le_of_ble_eq_true rfl, Nat.le_of_ble_eq_true rfl⟩

theorem EncodedLength.jmpCd (off : Word) (sel : Word) : EncodedLength.Statement (.jmpCd off sel) :=
  ⟨Nat.le_of_ble_eq_true rfl, Nat.le_of_ble_eq_true rfl⟩

theorem EncodedLength.jmpCb (d : Byte) : EncodedLength.Statement (.jmpCb d) :=
  ⟨Nat.le_of_ble_eq_true rfl, Nat.le_of_ble_eq_true rfl⟩

theorem EncodedLength.testEbDb (e : E8) (i : Byte) : EncodedLength.Statement (.testEbDb e i) :=
  EncodedLength.around8 _ _ [_] [_] (Nat.le_of_ble_eq_true rfl)

theorem EncodedLength.notEb (e : E8) : EncodedLength.Statement (.notEb e) :=
  EncodedLength.before8 _ _ [_] (Nat.le_of_ble_eq_true rfl)

theorem EncodedLength.negEb (e : E8) : EncodedLength.Statement (.negEb e) :=
  EncodedLength.before8 _ _ [_] (Nat.le_of_ble_eq_true rfl)

theorem EncodedLength.mulEb (e : E8) : EncodedLength.Statement (.mulEb e) :=
  EncodedLength.before8 _ _ [_] (Nat.le_of_ble_eq_true rfl)

theorem EncodedLength.imulEb (e : E8) : EncodedLength.Statement (.imulEb e) :=
  EncodedLength.before8 _ _ [_] (Nat.le_of_ble_eq_true rfl)

theorem EncodedLength.divEb (e : E8) : EncodedLength.Statement (.divEb e) :=
  EncodedLength.before8 _ _ [_] (Nat.le_of_ble_eq_true rfl)

theorem EncodedLength.idivEb (e : E8) : EncodedLength.Statement (.idivEb e) :=
  EncodedLength.before8 _ _ [_] (Nat.le_of_ble_eq_true rfl)

theorem EncodedLength.testEwDw (e : E16) (i : Word) : EncodedLength.Statement (.testEwDw e i) :=
  EncodedLength.around16 _ _ [_] [_, _] (Nat.le_of_ble_eq_true rfl)

theorem EncodedLength.notEw (e : E16) : EncodedLength.Statement (.notEw e) :=
  EncodedLength.before16 _ _ [_] (Nat.le_of_ble_eq_true rfl)

theorem EncodedLength.negEw (e : E16) : EncodedLength.Statement (.negEw e) :=
  EncodedLength.before16 _ _ [_] (Nat.le_of_ble_eq_true rfl)

theorem EncodedLength.mulEw (e : E16) : EncodedLength.Statement (.mulEw e) :=
  EncodedLength.before16 _ _ [_] (Nat.le_of_ble_eq_true rfl)

theorem EncodedLength.imulEw (e : E16) : EncodedLength.Statement (.imulEw e) :=
  EncodedLength.before16 _ _ [_] (Nat.le_of_ble_eq_true rfl)

theorem EncodedLength.divEw (e : E16) : EncodedLength.Statement (.divEw e) :=
  EncodedLength.before16 _ _ [_] (Nat.le_of_ble_eq_true rfl)

theorem EncodedLength.idivEw (e : E16) : EncodedLength.Statement (.idivEw e) :=
  EncodedLength.before16 _ _ [_] (Nat.le_of_ble_eq_true rfl)

theorem EncodedLength.incEb (e : E8) : EncodedLength.Statement (.incEb e) :=
  EncodedLength.before8 _ _ [_] (Nat.le_of_ble_eq_true rfl)

theorem EncodedLength.decEb (e : E8) : EncodedLength.Statement (.decEb e) :=
  EncodedLength.before8 _ _ [_] (Nat.le_of_ble_eq_true rfl)

theorem EncodedLength.incEw (e : E16) : EncodedLength.Statement (.incEw e) :=
  EncodedLength.before16 _ _ [_] (Nat.le_of_ble_eq_true rfl)

theorem EncodedLength.decEw (e : E16) : EncodedLength.Statement (.decEw e) :=
  EncodedLength.before16 _ _ [_] (Nat.le_of_ble_eq_true rfl)

theorem EncodedLength.callEw (e : E16) : EncodedLength.Statement (.callEw e) :=
  EncodedLength.before16 _ _ [_] (Nat.le_of_ble_eq_true rfl)

theorem EncodedLength.callEd (e : E16) : EncodedLength.Statement (.callEd e) :=
  EncodedLength.before16 _ _ [_] (Nat.le_of_ble_eq_true rfl)

theorem EncodedLength.jmpEw (e : E16) : EncodedLength.Statement (.jmpEw e) :=
  EncodedLength.before16 _ _ [_] (Nat.le_of_ble_eq_true rfl)

theorem EncodedLength.jmpEd (e : E16) : EncodedLength.Statement (.jmpEd e) :=
  EncodedLength.before16 _ _ [_] (Nat.le_of_ble_eq_true rfl)

theorem EncodedLength.pushMw (e : E16) : EncodedLength.Statement (.pushMw e) :=
  EncodedLength.before16 _ _ [_] (Nat.le_of_ble_eq_true rfl)

theorem EncodedLength.sldtEw (e : E16) : EncodedLength.Statement (.sldtEw e) :=
  EncodedLength.before16 _ _ [_, _] (Nat.le_of_ble_eq_true rfl)

theorem EncodedLength.strEw (e : E16) : EncodedLength.Statement (.strEw e) :=
  EncodedLength.before16 _ _ [_, _] (Nat.le_of_ble_eq_true rfl)

theorem EncodedLength.lldtEw (e : E16) : EncodedLength.Statement (.lldtEw e) :=
  EncodedLength.before16 _ _ [_, _] (Nat.le_of_ble_eq_true rfl)

theorem EncodedLength.ltrEw (e : E16) : EncodedLength.Statement (.ltrEw e) :=
  EncodedLength.before16 _ _ [_, _] (Nat.le_of_ble_eq_true rfl)

theorem EncodedLength.verrEw (e : E16) : EncodedLength.Statement (.verrEw e) :=
  EncodedLength.before16 _ _ [_, _] (Nat.le_of_ble_eq_true rfl)

theorem EncodedLength.verwEw (e : E16) : EncodedLength.Statement (.verwEw e) :=
  EncodedLength.before16 _ _ [_, _] (Nat.le_of_ble_eq_true rfl)

theorem EncodedLength.sgdtM (e : E16) : EncodedLength.Statement (.sgdtM e) :=
  EncodedLength.before16 _ _ [_, _] (Nat.le_of_ble_eq_true rfl)

theorem EncodedLength.sidtM (e : E16) : EncodedLength.Statement (.sidtM e) :=
  EncodedLength.before16 _ _ [_, _] (Nat.le_of_ble_eq_true rfl)

theorem EncodedLength.lgdtM (e : E16) : EncodedLength.Statement (.lgdtM e) :=
  EncodedLength.before16 _ _ [_, _] (Nat.le_of_ble_eq_true rfl)

theorem EncodedLength.lidtM (e : E16) : EncodedLength.Statement (.lidtM e) :=
  EncodedLength.before16 _ _ [_, _] (Nat.le_of_ble_eq_true rfl)

theorem EncodedLength.smswEw (e : E16) : EncodedLength.Statement (.smswEw e) :=
  EncodedLength.before16 _ _ [_, _] (Nat.le_of_ble_eq_true rfl)

theorem EncodedLength.lmswEw (e : E16) : EncodedLength.Statement (.lmswEw e) :=
  EncodedLength.before16 _ _ [_, _] (Nat.le_of_ble_eq_true rfl)

theorem EncodedLength.larRwEw (r : Reg16) (e : E16) : EncodedLength.Statement (.larRwEw r e) :=
  EncodedLength.before16 _ _ [_, _] (Nat.le_of_ble_eq_true rfl)

theorem EncodedLength.lslRwEw (r : Reg16) (e : E16) : EncodedLength.Statement (.lslRwEw r e) :=
  EncodedLength.before16 _ _ [_, _] (Nat.le_of_ble_eq_true rfl)

theorem EncodedLength.undef0Fxx (op2 : Byte) : EncodedLength.Statement (.undef0Fxx op2) :=
  ⟨Nat.le_of_ble_eq_true rfl, Nat.le_of_ble_eq_true rfl⟩

theorem EncodedLength.unlisted83n1 : EncodedLength.Statement .unlisted83n1 :=
  ⟨Nat.le_of_ble_eq_true rfl, Nat.le_of_ble_eq_true rfl⟩

theorem EncodedLength.unlisted83n4 : EncodedLength.Statement .unlisted83n4 :=
  ⟨Nat.le_of_ble_eq_true rfl, Nat.le_of_ble_eq_true rfl⟩

theorem EncodedLength.unlisted83n6 : EncodedLength.Statement .unlisted83n6 :=
  ⟨Nat.le_of_ble_eq_true rfl, Nat.le_of_ble_eq_true rfl⟩

theorem EncodedLength.pushEs : EncodedLength.Statement .pushEs :=
  ⟨Nat.le_of_ble_eq_true rfl, Nat.le_of_ble_eq_true rfl⟩

theorem EncodedLength.pushCs : EncodedLength.Statement .pushCs :=
  ⟨Nat.le_of_ble_eq_true rfl, Nat.le_of_ble_eq_true rfl⟩

theorem EncodedLength.pushSs : EncodedLength.Statement .pushSs :=
  ⟨Nat.le_of_ble_eq_true rfl, Nat.le_of_ble_eq_true rfl⟩

theorem EncodedLength.pushDs : EncodedLength.Statement .pushDs :=
  ⟨Nat.le_of_ble_eq_true rfl, Nat.le_of_ble_eq_true rfl⟩

theorem EncodedLength.popEs : EncodedLength.Statement .popEs :=
  ⟨Nat.le_of_ble_eq_true rfl, Nat.le_of_ble_eq_true rfl⟩

theorem EncodedLength.popSs : EncodedLength.Statement .popSs :=
  ⟨Nat.le_of_ble_eq_true rfl, Nat.le_of_ble_eq_true rfl⟩

theorem EncodedLength.popDs : EncodedLength.Statement .popDs :=
  ⟨Nat.le_of_ble_eq_true rfl, Nat.le_of_ble_eq_true rfl⟩

theorem EncodedLength.twoByteEscape : EncodedLength.Statement .twoByteEscape :=
  ⟨Nat.le_of_ble_eq_true rfl, Nat.le_of_ble_eq_true rfl⟩

theorem EncodedLength.prefixEs : EncodedLength.Statement .prefixEs :=
  ⟨Nat.le_of_ble_eq_true rfl, Nat.le_of_ble_eq_true rfl⟩

theorem EncodedLength.prefixCs : EncodedLength.Statement .prefixCs :=
  ⟨Nat.le_of_ble_eq_true rfl, Nat.le_of_ble_eq_true rfl⟩

theorem EncodedLength.prefixSs : EncodedLength.Statement .prefixSs :=
  ⟨Nat.le_of_ble_eq_true rfl, Nat.le_of_ble_eq_true rfl⟩

theorem EncodedLength.prefixDs : EncodedLength.Statement .prefixDs :=
  ⟨Nat.le_of_ble_eq_true rfl, Nat.le_of_ble_eq_true rfl⟩

theorem EncodedLength.daa : EncodedLength.Statement .daa :=
  ⟨Nat.le_of_ble_eq_true rfl, Nat.le_of_ble_eq_true rfl⟩

theorem EncodedLength.das : EncodedLength.Statement .das :=
  ⟨Nat.le_of_ble_eq_true rfl, Nat.le_of_ble_eq_true rfl⟩

theorem EncodedLength.aaa : EncodedLength.Statement .aaa :=
  ⟨Nat.le_of_ble_eq_true rfl, Nat.le_of_ble_eq_true rfl⟩

theorem EncodedLength.aas : EncodedLength.Statement .aas :=
  ⟨Nat.le_of_ble_eq_true rfl, Nat.le_of_ble_eq_true rfl⟩

theorem EncodedLength.pusha : EncodedLength.Statement .pusha :=
  ⟨Nat.le_of_ble_eq_true rfl, Nat.le_of_ble_eq_true rfl⟩

theorem EncodedLength.popa : EncodedLength.Statement .popa :=
  ⟨Nat.le_of_ble_eq_true rfl, Nat.le_of_ble_eq_true rfl⟩

theorem EncodedLength.undef64 : EncodedLength.Statement .undef64 :=
  ⟨Nat.le_of_ble_eq_true rfl, Nat.le_of_ble_eq_true rfl⟩

theorem EncodedLength.undef65 : EncodedLength.Statement .undef65 :=
  ⟨Nat.le_of_ble_eq_true rfl, Nat.le_of_ble_eq_true rfl⟩

theorem EncodedLength.undef66 : EncodedLength.Statement .undef66 :=
  ⟨Nat.le_of_ble_eq_true rfl, Nat.le_of_ble_eq_true rfl⟩

theorem EncodedLength.undef67 : EncodedLength.Statement .undef67 :=
  ⟨Nat.le_of_ble_eq_true rfl, Nat.le_of_ble_eq_true rfl⟩

theorem EncodedLength.insb : EncodedLength.Statement .insb :=
  ⟨Nat.le_of_ble_eq_true rfl, Nat.le_of_ble_eq_true rfl⟩

theorem EncodedLength.insw : EncodedLength.Statement .insw :=
  ⟨Nat.le_of_ble_eq_true rfl, Nat.le_of_ble_eq_true rfl⟩

theorem EncodedLength.outsb : EncodedLength.Statement .outsb :=
  ⟨Nat.le_of_ble_eq_true rfl, Nat.le_of_ble_eq_true rfl⟩

theorem EncodedLength.outsw : EncodedLength.Statement .outsw :=
  ⟨Nat.le_of_ble_eq_true rfl, Nat.le_of_ble_eq_true rfl⟩

theorem EncodedLength.unlisted82 : EncodedLength.Statement .unlisted82 :=
  ⟨Nat.le_of_ble_eq_true rfl, Nat.le_of_ble_eq_true rfl⟩

theorem EncodedLength.unlisted8Chi : EncodedLength.Statement .unlisted8Chi :=
  ⟨Nat.le_of_ble_eq_true rfl, Nat.le_of_ble_eq_true rfl⟩

theorem EncodedLength.undef8En1 : EncodedLength.Statement .undef8En1 :=
  ⟨Nat.le_of_ble_eq_true rfl, Nat.le_of_ble_eq_true rfl⟩

theorem EncodedLength.unlisted8Ehi : EncodedLength.Statement .unlisted8Ehi :=
  ⟨Nat.le_of_ble_eq_true rfl, Nat.le_of_ble_eq_true rfl⟩

theorem EncodedLength.undef8Fn1 : EncodedLength.Statement .undef8Fn1 :=
  ⟨Nat.le_of_ble_eq_true rfl, Nat.le_of_ble_eq_true rfl⟩

theorem EncodedLength.undef8Fn2 : EncodedLength.Statement .undef8Fn2 :=
  ⟨Nat.le_of_ble_eq_true rfl, Nat.le_of_ble_eq_true rfl⟩

theorem EncodedLength.undef8Fn3 : EncodedLength.Statement .undef8Fn3 :=
  ⟨Nat.le_of_ble_eq_true rfl, Nat.le_of_ble_eq_true rfl⟩

theorem EncodedLength.undef8Fn4 : EncodedLength.Statement .undef8Fn4 :=
  ⟨Nat.le_of_ble_eq_true rfl, Nat.le_of_ble_eq_true rfl⟩

theorem EncodedLength.undef8Fn5 : EncodedLength.Statement .undef8Fn5 :=
  ⟨Nat.le_of_ble_eq_true rfl, Nat.le_of_ble_eq_true rfl⟩

theorem EncodedLength.undef8Fn6 : EncodedLength.Statement .undef8Fn6 :=
  ⟨Nat.le_of_ble_eq_true rfl, Nat.le_of_ble_eq_true rfl⟩

theorem EncodedLength.undef8Fn7 : EncodedLength.Statement .undef8Fn7 :=
  ⟨Nat.le_of_ble_eq_true rfl, Nat.le_of_ble_eq_true rfl⟩

theorem EncodedLength.nop : EncodedLength.Statement .nop :=
  ⟨Nat.le_of_ble_eq_true rfl, Nat.le_of_ble_eq_true rfl⟩

theorem EncodedLength.cbw : EncodedLength.Statement .cbw :=
  ⟨Nat.le_of_ble_eq_true rfl, Nat.le_of_ble_eq_true rfl⟩

theorem EncodedLength.cwd : EncodedLength.Statement .cwd :=
  ⟨Nat.le_of_ble_eq_true rfl, Nat.le_of_ble_eq_true rfl⟩

theorem EncodedLength.wait : EncodedLength.Statement .wait :=
  ⟨Nat.le_of_ble_eq_true rfl, Nat.le_of_ble_eq_true rfl⟩

theorem EncodedLength.pushf : EncodedLength.Statement .pushf :=
  ⟨Nat.le_of_ble_eq_true rfl, Nat.le_of_ble_eq_true rfl⟩

theorem EncodedLength.popf : EncodedLength.Statement .popf :=
  ⟨Nat.le_of_ble_eq_true rfl, Nat.le_of_ble_eq_true rfl⟩

theorem EncodedLength.sahf : EncodedLength.Statement .sahf :=
  ⟨Nat.le_of_ble_eq_true rfl, Nat.le_of_ble_eq_true rfl⟩

theorem EncodedLength.lahf : EncodedLength.Statement .lahf :=
  ⟨Nat.le_of_ble_eq_true rfl, Nat.le_of_ble_eq_true rfl⟩

theorem EncodedLength.movsb : EncodedLength.Statement .movsb :=
  ⟨Nat.le_of_ble_eq_true rfl, Nat.le_of_ble_eq_true rfl⟩

theorem EncodedLength.movsw : EncodedLength.Statement .movsw :=
  ⟨Nat.le_of_ble_eq_true rfl, Nat.le_of_ble_eq_true rfl⟩

theorem EncodedLength.cmpsb : EncodedLength.Statement .cmpsb :=
  ⟨Nat.le_of_ble_eq_true rfl, Nat.le_of_ble_eq_true rfl⟩

theorem EncodedLength.cmpsw : EncodedLength.Statement .cmpsw :=
  ⟨Nat.le_of_ble_eq_true rfl, Nat.le_of_ble_eq_true rfl⟩

theorem EncodedLength.stosb : EncodedLength.Statement .stosb :=
  ⟨Nat.le_of_ble_eq_true rfl, Nat.le_of_ble_eq_true rfl⟩

theorem EncodedLength.stosw : EncodedLength.Statement .stosw :=
  ⟨Nat.le_of_ble_eq_true rfl, Nat.le_of_ble_eq_true rfl⟩

theorem EncodedLength.lodsb : EncodedLength.Statement .lodsb :=
  ⟨Nat.le_of_ble_eq_true rfl, Nat.le_of_ble_eq_true rfl⟩

theorem EncodedLength.lodsw : EncodedLength.Statement .lodsw :=
  ⟨Nat.le_of_ble_eq_true rfl, Nat.le_of_ble_eq_true rfl⟩

theorem EncodedLength.scasb : EncodedLength.Statement .scasb :=
  ⟨Nat.le_of_ble_eq_true rfl, Nat.le_of_ble_eq_true rfl⟩

theorem EncodedLength.scasw : EncodedLength.Statement .scasw :=
  ⟨Nat.le_of_ble_eq_true rfl, Nat.le_of_ble_eq_true rfl⟩

theorem EncodedLength.unlistedC0n6 : EncodedLength.Statement .unlistedC0n6 :=
  ⟨Nat.le_of_ble_eq_true rfl, Nat.le_of_ble_eq_true rfl⟩

theorem EncodedLength.unlistedC1n6 : EncodedLength.Statement .unlistedC1n6 :=
  ⟨Nat.le_of_ble_eq_true rfl, Nat.le_of_ble_eq_true rfl⟩

theorem EncodedLength.unlistedD0n6 : EncodedLength.Statement .unlistedD0n6 :=
  ⟨Nat.le_of_ble_eq_true rfl, Nat.le_of_ble_eq_true rfl⟩

theorem EncodedLength.unlistedD1n6 : EncodedLength.Statement .unlistedD1n6 :=
  ⟨Nat.le_of_ble_eq_true rfl, Nat.le_of_ble_eq_true rfl⟩

theorem EncodedLength.unlistedD2n6 : EncodedLength.Statement .unlistedD2n6 :=
  ⟨Nat.le_of_ble_eq_true rfl, Nat.le_of_ble_eq_true rfl⟩

theorem EncodedLength.unlistedD3n6 : EncodedLength.Statement .unlistedD3n6 :=
  ⟨Nat.le_of_ble_eq_true rfl, Nat.le_of_ble_eq_true rfl⟩

theorem EncodedLength.retNear : EncodedLength.Statement .retNear :=
  ⟨Nat.le_of_ble_eq_true rfl, Nat.le_of_ble_eq_true rfl⟩

theorem EncodedLength.undefC6n1 : EncodedLength.Statement .undefC6n1 :=
  ⟨Nat.le_of_ble_eq_true rfl, Nat.le_of_ble_eq_true rfl⟩

theorem EncodedLength.undefC6n2 : EncodedLength.Statement .undefC6n2 :=
  ⟨Nat.le_of_ble_eq_true rfl, Nat.le_of_ble_eq_true rfl⟩

theorem EncodedLength.undefC6n3 : EncodedLength.Statement .undefC6n3 :=
  ⟨Nat.le_of_ble_eq_true rfl, Nat.le_of_ble_eq_true rfl⟩

theorem EncodedLength.undefC6n4 : EncodedLength.Statement .undefC6n4 :=
  ⟨Nat.le_of_ble_eq_true rfl, Nat.le_of_ble_eq_true rfl⟩

theorem EncodedLength.undefC6n5 : EncodedLength.Statement .undefC6n5 :=
  ⟨Nat.le_of_ble_eq_true rfl, Nat.le_of_ble_eq_true rfl⟩

theorem EncodedLength.undefC6n6 : EncodedLength.Statement .undefC6n6 :=
  ⟨Nat.le_of_ble_eq_true rfl, Nat.le_of_ble_eq_true rfl⟩

theorem EncodedLength.undefC6n7 : EncodedLength.Statement .undefC6n7 :=
  ⟨Nat.le_of_ble_eq_true rfl, Nat.le_of_ble_eq_true rfl⟩

theorem EncodedLength.undefC7n1 : EncodedLength.Statement .undefC7n1 :=
  ⟨Nat.le_of_ble_eq_true rfl, Nat.le_of_ble_eq_true rfl⟩

theorem EncodedLength.undefC7n2 : EncodedLength.Statement .undefC7n2 :=
  ⟨Nat.le_of_ble_eq_true rfl, Nat.le_of_ble_eq_true rfl⟩

theorem EncodedLength.undefC7n3 : EncodedLength.Statement .undefC7n3 :=
  ⟨Nat.le_of_ble_eq_true rfl, Nat.le_of_ble_eq_true rfl⟩

theorem EncodedLength.undefC7n4 : EncodedLength.Statement .undefC7n4 :=
  ⟨Nat.le_of_ble_eq_true rfl, Nat.le_of_ble_eq_true rfl⟩

theorem EncodedLength.undefC7n5 : EncodedLength.Statement .undefC7n5 :=
  ⟨Nat.le_of_ble_eq_true rfl, Nat.le_of_ble_eq_true rfl⟩

theorem EncodedLength.undefC7n6 : EncodedLength.Statement .undefC7n6 :=
  ⟨Nat.le_of_ble_eq_true rfl, Nat.le_of_ble_eq_true rfl⟩

theorem EncodedLength.undefC7n7 : EncodedLength.Statement .undefC7n7 :=
  ⟨Nat.le_of_ble_eq_true rfl, Nat.le_of_ble_eq_true rfl⟩

theorem EncodedLength.leave : EncodedLength.Statement .leave :=
  ⟨Nat.le_of_ble_eq_true rfl, Nat.le_of_ble_eq_true rfl⟩

theorem EncodedLength.retFar : EncodedLength.Statement .retFar :=
  ⟨Nat.le_of_ble_eq_true rfl, Nat.le_of_ble_eq_true rfl⟩

theorem EncodedLength.int3 : EncodedLength.Statement .int3 :=
  ⟨Nat.le_of_ble_eq_true rfl, Nat.le_of_ble_eq_true rfl⟩

theorem EncodedLength.into : EncodedLength.Statement .into :=
  ⟨Nat.le_of_ble_eq_true rfl, Nat.le_of_ble_eq_true rfl⟩

theorem EncodedLength.iret : EncodedLength.Statement .iret :=
  ⟨Nat.le_of_ble_eq_true rfl, Nat.le_of_ble_eq_true rfl⟩

theorem EncodedLength.aam : EncodedLength.Statement .aam :=
  ⟨Nat.le_of_ble_eq_true rfl, Nat.le_of_ble_eq_true rfl⟩

theorem EncodedLength.aad : EncodedLength.Statement .aad :=
  ⟨Nat.le_of_ble_eq_true rfl, Nat.le_of_ble_eq_true rfl⟩

theorem EncodedLength.unlistedD6 : EncodedLength.Statement .unlistedD6 :=
  ⟨Nat.le_of_ble_eq_true rfl, Nat.le_of_ble_eq_true rfl⟩

theorem EncodedLength.xlat : EncodedLength.Statement .xlat :=
  ⟨Nat.le_of_ble_eq_true rfl, Nat.le_of_ble_eq_true rfl⟩

theorem EncodedLength.inAlDx : EncodedLength.Statement .inAlDx :=
  ⟨Nat.le_of_ble_eq_true rfl, Nat.le_of_ble_eq_true rfl⟩

theorem EncodedLength.inAxDx : EncodedLength.Statement .inAxDx :=
  ⟨Nat.le_of_ble_eq_true rfl, Nat.le_of_ble_eq_true rfl⟩

theorem EncodedLength.outDxAl : EncodedLength.Statement .outDxAl :=
  ⟨Nat.le_of_ble_eq_true rfl, Nat.le_of_ble_eq_true rfl⟩

theorem EncodedLength.outDxAx : EncodedLength.Statement .outDxAx :=
  ⟨Nat.le_of_ble_eq_true rfl, Nat.le_of_ble_eq_true rfl⟩

theorem EncodedLength.prefixLock : EncodedLength.Statement .prefixLock :=
  ⟨Nat.le_of_ble_eq_true rfl, Nat.le_of_ble_eq_true rfl⟩

theorem EncodedLength.unlistedF1 : EncodedLength.Statement .unlistedF1 :=
  ⟨Nat.le_of_ble_eq_true rfl, Nat.le_of_ble_eq_true rfl⟩

theorem EncodedLength.prefixRepne : EncodedLength.Statement .prefixRepne :=
  ⟨Nat.le_of_ble_eq_true rfl, Nat.le_of_ble_eq_true rfl⟩

theorem EncodedLength.prefixRep : EncodedLength.Statement .prefixRep :=
  ⟨Nat.le_of_ble_eq_true rfl, Nat.le_of_ble_eq_true rfl⟩

theorem EncodedLength.hlt : EncodedLength.Statement .hlt :=
  ⟨Nat.le_of_ble_eq_true rfl, Nat.le_of_ble_eq_true rfl⟩

theorem EncodedLength.cmc : EncodedLength.Statement .cmc :=
  ⟨Nat.le_of_ble_eq_true rfl, Nat.le_of_ble_eq_true rfl⟩

theorem EncodedLength.undefF6n1 : EncodedLength.Statement .undefF6n1 :=
  ⟨Nat.le_of_ble_eq_true rfl, Nat.le_of_ble_eq_true rfl⟩

theorem EncodedLength.undefF7n1 : EncodedLength.Statement .undefF7n1 :=
  ⟨Nat.le_of_ble_eq_true rfl, Nat.le_of_ble_eq_true rfl⟩

theorem EncodedLength.clc : EncodedLength.Statement .clc :=
  ⟨Nat.le_of_ble_eq_true rfl, Nat.le_of_ble_eq_true rfl⟩

theorem EncodedLength.stc : EncodedLength.Statement .stc :=
  ⟨Nat.le_of_ble_eq_true rfl, Nat.le_of_ble_eq_true rfl⟩

theorem EncodedLength.cli : EncodedLength.Statement .cli :=
  ⟨Nat.le_of_ble_eq_true rfl, Nat.le_of_ble_eq_true rfl⟩

theorem EncodedLength.sti : EncodedLength.Statement .sti :=
  ⟨Nat.le_of_ble_eq_true rfl, Nat.le_of_ble_eq_true rfl⟩

theorem EncodedLength.cld : EncodedLength.Statement .cld :=
  ⟨Nat.le_of_ble_eq_true rfl, Nat.le_of_ble_eq_true rfl⟩

theorem EncodedLength.std : EncodedLength.Statement .std :=
  ⟨Nat.le_of_ble_eq_true rfl, Nat.le_of_ble_eq_true rfl⟩

theorem EncodedLength.undefFEn2 : EncodedLength.Statement .undefFEn2 :=
  ⟨Nat.le_of_ble_eq_true rfl, Nat.le_of_ble_eq_true rfl⟩

theorem EncodedLength.undefFEn3 : EncodedLength.Statement .undefFEn3 :=
  ⟨Nat.le_of_ble_eq_true rfl, Nat.le_of_ble_eq_true rfl⟩

theorem EncodedLength.undefFEn4 : EncodedLength.Statement .undefFEn4 :=
  ⟨Nat.le_of_ble_eq_true rfl, Nat.le_of_ble_eq_true rfl⟩

theorem EncodedLength.undefFEn5 : EncodedLength.Statement .undefFEn5 :=
  ⟨Nat.le_of_ble_eq_true rfl, Nat.le_of_ble_eq_true rfl⟩

theorem EncodedLength.undefFEn6 : EncodedLength.Statement .undefFEn6 :=
  ⟨Nat.le_of_ble_eq_true rfl, Nat.le_of_ble_eq_true rfl⟩

theorem EncodedLength.undefFEn7 : EncodedLength.Statement .undefFEn7 :=
  ⟨Nat.le_of_ble_eq_true rfl, Nat.le_of_ble_eq_true rfl⟩

theorem EncodedLength.undefFFn7 : EncodedLength.Statement .undefFFn7 :=
  ⟨Nat.le_of_ble_eq_true rfl, Nat.le_of_ble_eq_true rfl⟩

theorem EncodedLength.undef0F00n6 : EncodedLength.Statement .undef0F00n6 :=
  ⟨Nat.le_of_ble_eq_true rfl, Nat.le_of_ble_eq_true rfl⟩

theorem EncodedLength.undef0F00n7 : EncodedLength.Statement .undef0F00n7 :=
  ⟨Nat.le_of_ble_eq_true rfl, Nat.le_of_ble_eq_true rfl⟩

theorem EncodedLength.undef0F01n5 : EncodedLength.Statement .undef0F01n5 :=
  ⟨Nat.le_of_ble_eq_true rfl, Nat.le_of_ble_eq_true rfl⟩

theorem EncodedLength.undef0F01n7 : EncodedLength.Statement .undef0F01n7 :=
  ⟨Nat.le_of_ble_eq_true rfl, Nat.le_of_ble_eq_true rfl⟩

theorem EncodedLength.unlisted0F04 : EncodedLength.Statement .unlisted0F04 :=
  ⟨Nat.le_of_ble_eq_true rfl, Nat.le_of_ble_eq_true rfl⟩

theorem EncodedLength.unlisted0F05 : EncodedLength.Statement .unlisted0F05 :=
  ⟨Nat.le_of_ble_eq_true rfl, Nat.le_of_ble_eq_true rfl⟩

theorem EncodedLength.clts : EncodedLength.Statement .clts :=
  ⟨Nat.le_of_ble_eq_true rfl, Nat.le_of_ble_eq_true rfl⟩

end Sys2Proof.Laws
end

