-- ==== Sys2Proof/Laws/Step.lean ====
section
/-!
SUPPORT. What the data channel, the events of a boundary and the step around `exec` can do, said once for each
(spec/48_npx.md R756; spec/60_exceptions.md R810-R812, R860, R906).
-/

namespace Sys2Proof.Machine

variable (s : State)

/-! The data channel -/

/-- ALL THAT `transfer` CAN DO: nothing, unless a busy NPX moves the operand that way; then a word inside the segment is
moved and the next one is the channel's, and a word outside is the overrun (R756). -/
theorem State.transfer_cases (store : Bool) (move : State → PAddr → State) :
    s.transfer store move = s ∨
      ∃ t, s.channel = .moving t ∧ s.busy = true ∧ t.store = store ∧
        (t.inside = true ∧ s.transfer store move =
            { move s t.addr with channel := .moving { t with next := t.next + 2 }, free := s.free + 1 } ∨
          t.inside = false ∧ s.transfer store move = { s with channel := .overrun, overrunReq := true }) := by
  unfold State.transfer
  split
  · exact .inl rfl
  · exact .inl rfl
  · rename_i t hc
    split
    · rename_i hb
      simp only [Bool.and_eq_true, beq_iff_eq] at hb
      refine .inr ⟨t, hc, hb.1, hb.2, ?_⟩
      split
      · exact .inl ⟨‹_›, rfl⟩
      · exact .inr ⟨Bool.eq_false_iff.mpr ‹_›, rfl⟩
    · exact .inl rfl

/-- An NPX with nothing to do leaves the state as it is. -/
theorem State.npxStep_of_nil (h : s.npxIn = []) : s.npxStep = s := by
  have e : { s with npxIn := [] } = s := by rw [← h]
  unfold State.npxStep
  simp only [h, e, List.foldl_nil, ite_self]

/-! The events of a boundary -/

/-- No single-step interrupt is pending. -/
theorem State.trapEvent_none (h : s.trapPending = false) : s.trapEvent = .ok s := by
  unfold State.trapEvent
  exact if_neg (by simp [h])

/-- No NMI is pending and not masked. -/
theorem State.nmiEvent_none (h : (s.nmiPending && !s.nmiInService) = false) : s.nmiEvent = .ok s := by
  unfold State.nmiEvent
  exact if_neg (by simp_all)

/-- No overrun is due. -/
theorem State.overrunEvent_none (h : s.overrunDue = false) : s.overrunEvent = .ok s := by
  unfold State.overrunEvent
  exact if_neg (by simp_all [State.overrunDue])

/-- No INTR is requested and enabled. -/
theorem State.intrEvent_none (h : s.intr = none ∨ s.flags.ie = false) : s.intrEvent = .ok s := by
  unfold State.intrEvent
  split
  · rfl
  · exact if_neg (by rcases h with h | h <;> simp_all)

/-- AN EVENT DELIVERED AT A BOUNDARY: the machine runs, and the return offset is that of the next instruction (R810). -/
theorem State.external_ok (vec : Byte) (t : State) (h : s.external vec = .ok t) :
    ∃ u, { s with runState := .running }.deliver { vec, kind := .ext, ret := s.ip, code := none } = .ok u ∧
      t = { u with free := u.free + 1 } := by
  unfold State.external at h
  cases hd : State.deliver { s with runState := .running } { vec, kind := .ext, ret := s.ip, code := none } with
  | error r => rw [hd] at h; cases h
  | ok u => rw [hd] at h; exact ⟨u, rfl, (Except.ok.inj h).symm⟩

/-- A BOUNDARY, when it answers: held off once by the inhibit latch, or the four events in their order (R72, R810). -/
theorem State.boundary_ok (t : State) (h : s.boundary = .ok t) :
    (s.inhibit = true ∧ t = { s with inhibit := false }) ∨
      (s.inhibit = false ∧ ∃ a b c, s.trapEvent = .ok a ∧ a.nmiEvent = .ok b ∧ b.overrunEvent = .ok c ∧
        c.intrEvent = .ok t) := by
  unfold State.boundary at h
  split at h
  · exact .inl ⟨‹_›, (Except.ok.inj h).symm⟩
  · refine .inr ⟨Bool.eq_false_iff.mpr ‹_›, ?_⟩
    cases ha : s.trapEvent with
    | error r => rw [ha] at h; cases h
    | ok a =>
      cases hb : a.nmiEvent with
      | error r => simp only [ha, bind, Except.bind, hb] at h; cases h
      | ok b =>
        cases hc : b.overrunEvent with
        | error r => simp only [ha, bind, Except.bind, hb, hc] at h; cases h
        | ok c =>
          simp only [ha, bind, Except.bind, hb, hc] at h
          exact ⟨a, b, c, rfl, hb, hc, h⟩

/-! The step around an instruction -/

/-- Without RESET a step is what the NPX does and then the machine's own step (R950). -/
theorem step_of_no_reset (h : s.resetReq = false) : step s = s.npxStep.proceed := by
  unfold step State.next
  exact if_neg (by simp [h])

/-- Outside shutdown a boundary that answers is followed by an instruction, or by nothing in halt (R810). -/
theorem State.proceed_of_boundary (t : State) (h : s.runState ≠ .shutdown) (hb : s.boundary = .ok t) :
    s.proceed = t.instruction := by
  unfold State.proceed
  split
  · contradiction
  · rw [hb]
  · rw [hb]

/-! The LOCK prefix -/

/-- An instruction without the LOCK prefix is executed as it stands (R608). -/
theorem State.prefixLocked_unlocked (s : State) (i : Instr) (h : s.dec.lock = false) : s.prefixLocked i = s := by
  simp [State.prefixLocked, h]

/-- The LOCK prefix reaches an instruction only as an entry sent to the host (R125, R608). -/
theorem State.prefixLocked_eq (s : State) (i : Instr) : s.prefixLocked i = s ∨ s.prefixLocked i = s.lockBus := by
  unfold State.prefixLocked
  split
  · exact .inr rfl
  · exact .inl rfl

end Sys2Proof.Machine
end

