-- ==== Sys2Proof/Tests/Slice0.lean ====
section
/-!
SUPPORT. Tests of the model: what WellFormed refuses, one encoding of every opcode table row written out from
spec/30_encoding.md, the spec's test vectors (spec/95_test_vectors.md and the vector tables R440, R520, R581, R640, R660,
R740, R770, R940) one step each, and for every statement with hypotheses a witness that meets them.
-/

namespace Sys2Proof.Tests

open Sys2Proof Sys2Proof.Machine

/-! Small states and how to run them -/

/-- The listed cells of consecutive bytes. -/
def cells (a : Nat) (bs : List Byte) : List Host.Cell :=
  (bs.zipIdx.map fun p => (a + p.2, p.1)).filter fun c => c.2 != 0

/-- A segment register. -/
def seg (sel : Word) (base : PAddr) (limit : Word) (ar : Byte) : SegReg := { sel, base, limit, ar, valid := true }

/-- Real mode, IP 0100H, SP 0100H, four segments that do not overlap. -/
def real : State :=
  { State.reset with
    cs := seg 0 0 0xFFFF 0x93
    ds := seg 0x1000 0x10000 0xFFFF 0x93
    es := seg 0x2000 0x20000 0xFFFF 0x93
    ss := seg 0x3000 0x30000 0xFFFF 0x93
    ip := 0x100
    regs := { State.reset.regs with sp := 0x100 } }

/-- A word written to memory. -/
def put16 (a : PAddr) (v : Word) (s : State) : State := s.writePhys16 a v

/-- Bytes written to memory. -/
def put (a : Nat) (bs : List Byte) (s : State) : State :=
  bs.zipIdx.foldl (fun s p => s.writePhys (BitVec.ofNat 24 (a + p.2)) p.1) s

/-- The state with its flags changed. -/
def setf (s : State) (g : Flags → Flags) : State := { s with flags := g s.flags }

/-- The global descriptor table of the protected-mode states, at 010000H: 08 code, 10 data, 18 code of DPL 3, 20 a busy TSS,
28 an LDT, 30 a TSS, 38 a task gate, 40 a short TSS, 48 data of DPL 3, 50 conforming code, 58 a call gate of DPL 3 with two
parameters, 60 code and 68 data not present, 70 execute-only code. -/
def gdt : List Host.Cell :=
  cells 0x10008 [0xFF, 0x0F, 0, 0, 2, 0x9A, 0, 0, 0xFF, 0x0F, 0, 0, 3, 0x92, 0, 0, 0xFF, 0xFF, 0, 0, 4, 0xFA, 0, 0] ++
  cells 0x10020 [0x2B, 0, 0, 0x10, 5, 0x83, 0, 0, 0xFF, 0, 0, 0x40, 1, 0x82, 0, 0, 0x2B, 0, 0, 0x20, 5, 0x81, 0, 0] ++
  cells 0x10038 [0, 0, 0x30, 0, 0, 0x85, 0, 0, 0x29, 0, 0, 0x30, 5, 0x81, 0, 0, 0xFF, 0x0F, 0, 0, 6, 0xF2, 0, 0] ++
  cells 0x10050 [0xFF, 0x0F, 0, 0, 2, 0x9E, 0, 0, 0, 1, 8, 0, 2, 0xE4, 0, 0, 0xFF, 0x0F, 0, 0, 2, 0x1A, 0, 0] ++
  cells 0x10068 [0xFF, 0x0F, 0, 0, 3, 0x12, 0, 0, 0xFF, 0x0F, 0, 0, 2, 0x98, 0, 0]

/-- The inner stack of level 0 in the busy TSS, and the registers of the other one. -/
def tasks : List Host.Cell :=
  cells 0x51002 [0, 8, 0x10, 0] ++
  cells 0x5200E [0x40, 0, 2, 0x40, 0x22, 0x22] ++ cells 0x5201A [0, 4] ++ cells 0x52024 [8, 0, 0x10, 0, 0x10, 0]

/-- The interrupt descriptor table, at 070000H: interrupt gates to 0008 for 6, 11, 13 and 20H, one not present for 7, a task gate
for 8, a trap gate of DPL 3 for 21H. -/
def idt : List Host.Cell :=
  cells 0x70030 [0, 3, 8, 0, 0, 0x86, 0, 0, 0, 0, 8, 0, 0, 6, 0, 0, 0, 0, 0x30, 0, 0, 0x85, 0, 0] ++
  cells 0x70058 [0, 5, 8, 0, 0, 0x86, 0, 0] ++ cells 0x70068 [0, 4, 8, 0, 0, 0x86, 0, 0] ++
  cells 0x70100 [0, 6, 8, 0, 0, 0x86, 0, 0, 0, 7, 8, 0, 0, 0xE7, 0, 0]

/-- Protected mode at level 0. -/
def prot : State :=
  { State.reset with
    msw := { pe := true, mp := false, em := false, ts := false }
    cs := seg 8 0x20000 0xFFF 0x9B
    ss := seg 0x10 0x30000 0xFFF 0x93
    ds := seg 0x10 0x30000 0xFFF 0x93
    es := seg 0x10 0x30000 0xFFF 0x93
    ip := 0x123
    regs := { State.reset.regs with sp := 0x800 }
    flags := { State.reset.flags with ie := true }
    gdtr := { base := 0x10000, limit := 0x77 }
    idtr := { base := 0x70000, limit := 0x10F }
    tr := { sel := 0x20, base := 0x51000, limit := 0x2B, valid := true }
    mem := gdt ++ tasks ++ idt }

/-- Protected mode at level 3, IOPL 3. -/
def user : State :=
  { prot with
    cs := seg 0x1B 0x40000 0xFFFF 0xFB
    ss := seg 0x4B 0x60000 0xFFF 0xF3
    ds := seg 0x4B 0x60000 0xFFF 0xF3
    es := seg 0x4B 0x60000 0xFFF 0xF3
    ip := 0x456
    regs := { State.reset.regs with sp := 0x200 }
    flags := { prot.flags with iopl := 3 } }

/-- One step with bytes at CS:IP ends in a state that passes the test. -/
def after (bs : List Byte) (s : State) (p : State → Bool) : Bool :=
  match step (s.placeCode 0 bs) with
  | .next t => p t
  | .fault _ => false
  | .refused _ => false

/-- One step with bytes at CS:IP is refused. -/
def refuses (bs : List Byte) (s : State) (r : Refusal) : Bool :=
  match step (s.placeCode 0 bs) with
  | .next _ => false
  | .fault _ => false
  | .refused q => q == r

/-- One step is refused. -/
def Refused (s : State) (r : Refusal) : Prop := step s = .refused r

/-- CS, IP, SP and FLAGS. -/
def frame (t : State) : List Word := [t.cs.sel, t.ip, t.regs.sp, t.flags.toWord]

/-- OF, SF, ZF, AF, PF, CF. -/
def status (t : State) : List Bool := [t.flags.of, t.flags.sf, t.flags.zf, t.flags.af, t.flags.pf, t.flags.cf]

/-- The words at consecutive places downward from a physical address. -/
def words (t : State) (a : PAddr) (n : Nat) : List Word :=
  (List.range n).map fun k => t.readPhys16 (a - BitVec.ofNat 24 (2 * k))

/-! Instructions without an encoding -/

theorem test_wf_refuses_bp_alone_byte : Instr.wf (.addEbRb (.mem (.ind .bp)) .al) = false := by decide

theorem test_wf_refuses_bp_alone_word : Instr.wf (.movRwEw .ax (.mem (.ind .bp))) = false := by decide

theorem test_wf_refuses_xchg_ax_ax : Instr.wf (.xchgAxRw .ax) = false := by decide

theorem test_wf_refuses_0f_owned : Instr.wf (.undef0Fxx 6) = false := by decide

theorem test_wf_refuses_d4_owned : Instr.wf (.unlistedD4xx 0x0A) = false := by decide

theorem test_wf_refuses_d5_owned : Instr.wf (.unlistedD5xx 0x0A) = false := by decide

/-! One encoding of every row of spec/opcode_table.json, written out from its pattern (R231-R254) -/

theorem test_decode_rows_1_to_15 :
    decode [0x00, 0x08] = .ok (.addEbRb (.mem (.ind .bxsi)) .cl, []) ∧
    decode [0x01, 0x66, 0xFE] = .ok (.addEwRw (.mem (.disp8 .bp 0xFE)) .sp, []) ∧
    decode [0x02, 0xF9] = .ok (.addRbEb .bh (.reg .cl), []) ∧
    decode [0x03, 0x97, 0x00, 0x80] = .ok (.addRwEw .dx (.mem (.disp16 .bx 0x8000)), []) ∧
    decode [0x04, 0x1F] = .ok (.addAlDb 0x1F, []) ∧
    decode [0x05, 0x3D, 0xDD] = .ok (.addAxDw 0xDD3D, []) ∧
    decode [0x80, 0xC6, 0x69] = .ok (.addEbDb (.reg .dh) 0x69, []) ∧
    decode [0x81, 0x42, 0x7F, 0xA7, 0x01] = .ok (.addEwDw (.mem (.disp8 .bpsi 0x7F)) 0x01A7, []) ∧
    decode [0x83, 0x04, 0xB3] = .ok (.addEwDb (.mem (.ind .si)) 0xB3, []) ∧
    decode [0x08, 0xA3, 0xFF, 0xFF] = .ok (.orEbRb (.mem (.disp16 .bpdi 0xFFFF)) .ah, []) ∧
    decode [0x09, 0xFC] = .ok (.orEwRw (.reg .sp) .di, []) ∧
    decode [0x0A, 0x51, 0x80] = .ok (.orRbEb .dl (.mem (.disp8 .bxdi 0x80)), []) ∧
    decode [0x0B, 0x2D] = .ok (.orRwEw .bp (.mem (.ind .di)), []) ∧
    decode [0x0C, 0x6C] = .ok (.orAlDb 0x6C, []) ∧
    decode [0x0D, 0x1A, 0x81] = .ok (.orAxDw 0x811A, []) :=
  ⟨rfl, rfl, rfl, rfl, rfl, rfl, rfl, rfl, rfl, rfl, rfl, rfl, rfl, rfl, rfl⟩

theorem test_decode_rows_16_to_30 :
    decode [0x80, 0x4E, 0xFE, 0xB6] = .ok (.orEbDb (.mem (.disp8 .bp 0xFE)) 0xB6, []) ∧
    decode [0x81, 0xC9, 0x84, 0xA5] = .ok (.orEwDw (.reg .cx) 0xA584, []) ∧
    decode [0x10, 0xA7, 0x00, 0x80] = .ok (.adcEbRb (.mem (.disp16 .bx 0x8000)) .ah, []) ∧
    decode [0x11, 0x3E, 0x34, 0x12] = .ok (.adcEwRw (.mem (.direct 0x1234)) .di, []) ∧
    decode [0x12, 0x17] = .ok (.adcRbEb .dl (.mem (.ind .bx)), []) ∧
    decode [0x13, 0xEE] = .ok (.adcRwEw .bp (.reg .si), []) ∧
    decode [0x14, 0x94] = .ok (.adcAlDb 0x94, []) ∧
    decode [0x15, 0xC2, 0x12] = .ok (.adcAxDw 0x12C2, []) ∧
    decode [0x80, 0x93, 0xFF, 0xFF, 0xDE] = .ok (.adcEbDb (.mem (.disp16 .bpdi 0xFFFF)) 0xDE, []) ∧
    decode [0x81, 0xD4, 0x2C, 0x37] = .ok (.adcEwDw (.reg .sp) 0x372C, []) ∧
    decode [0x83, 0x51, 0x80, 0x28] = .ok (.adcEwDb (.mem (.disp8 .bxdi 0x80)) 0x28, []) ∧
    decode [0x18, 0x3D] = .ok (.sbbEbRb (.mem (.ind .di)) .bh, []) ∧
    decode [0x19, 0x96, 0x01, 0x00] = .ok (.sbbEwRw (.mem (.disp16 .bp 0x0001)) .dx, []) ∧
    decode [0x1A, 0x28] = .ok (.sbbRbEb .ch (.mem (.ind .bxsi)), []) ∧
    decode [0x1B, 0x46, 0xFE] = .ok (.sbbRwEw .ax (.mem (.disp8 .bp 0xFE)), []) :=
  ⟨rfl, rfl, rfl, rfl, rfl, rfl, rfl, rfl, rfl, rfl, rfl, rfl, rfl, rfl, rfl⟩

theorem test_decode_rows_31_to_45 :
    decode [0x1C, 0xE1] = .ok (.sbbAlDb 0xE1, []) ∧
    decode [0x1D, 0x9F, 0xB6] = .ok (.sbbAxDw 0xB69F, []) ∧
    decode [0x80, 0x1E, 0x34, 0x12, 0x2B] = .ok (.sbbEbDb (.mem (.direct 0x1234)) 0x2B, []) ∧
    decode [0x81, 0x1F, 0x09, 0xDB] = .ok (.sbbEwDw (.mem (.ind .bx)) 0xDB09, []) ∧
    decode [0x83, 0xDE, 0x75] = .ok (.sbbEwDb (.reg .si) 0x75, []) ∧
    decode [0x20, 0x52, 0x7F] = .ok (.andEbRb (.mem (.disp8 .bpsi 0x7F)) .dl, []) ∧
    decode [0x21, 0x2C] = .ok (.andEwRw (.mem (.ind .si)) .bp, []) ∧
    decode [0x22, 0x83, 0xFF, 0xFF] = .ok (.andRbEb .al (.mem (.disp16 .bpdi 0xFFFF)), []) ∧
    decode [0x23, 0xDC] = .ok (.andRwEw .bx (.reg .sp), []) ∧
    decode [0x24, 0x2E] = .ok (.andAlDb 0x2E, []) ∧
    decode [0x25, 0x7C, 0x5A] = .ok (.andAxDw 0x5A7C, []) ∧
    decode [0x80, 0xA6, 0x01, 0x00, 0x78] = .ok (.andEbDb (.mem (.disp16 .bp 0x0001)) 0x78, []) ∧
    decode [0x81, 0x20, 0xE6, 0x7E] = .ok (.andEwDw (.mem (.ind .bxsi)) 0x7EE6, []) ∧
    decode [0x28, 0x56, 0xFE] = .ok (.subEbRb (.mem (.disp8 .bp 0xFE)) .dl, []) ∧
    decode [0x29, 0xE9] = .ok (.subEwRw (.reg .cx) .bp, []) :=
  ⟨rfl, rfl, rfl, rfl, rfl, rfl, rfl, rfl, rfl, rfl, rfl, rfl, rfl, rfl, rfl⟩

theorem test_decode_rows_46_to_60 :
    decode [0x2A, 0x87, 0x00, 0x80] = .ok (.subRbEb .al (.mem (.disp16 .bx 0x8000)), []) ∧
    decode [0x2B, 0x1E, 0x34, 0x12] = .ok (.subRwEw .bx (.mem (.direct 0x1234)), []) ∧
    decode [0x2C, 0x56] = .ok (.subAlDb 0x56, []) ∧
    decode [0x2D, 0x24, 0xEC] = .ok (.subAxDw 0xEC24, []) ∧
    decode [0x80, 0x6A, 0x7F, 0xA0] = .ok (.subEbDb (.mem (.disp8 .bpsi 0x7F)) 0xA0, []) ∧
    decode [0x81, 0x2C, 0x8E, 0x10] = .ok (.subEwDw (.mem (.ind .si)) 0x108E, []) ∧
    decode [0x83, 0xAB, 0xFF, 0xFF, 0xEA] = .ok (.subEwDb (.mem (.disp16 .bpdi 0xFFFF)) 0xEA, []) ∧
    decode [0x30, 0xEC] = .ok (.xorEbRb (.reg .ah) .ch, []) ∧
    decode [0x31, 0x41, 0x80] = .ok (.xorEwRw (.mem (.disp8 .bxdi 0x80)) .ax, []) ∧
    decode [0x32, 0x1D] = .ok (.xorRbEb .bl (.mem (.ind .di)), []) ∧
    decode [0x33, 0xB6, 0x01, 0x00] = .ok (.xorRwEw .si (.mem (.disp16 .bp 0x0001)), []) ∧
    decode [0x34, 0xA3] = .ok (.xorAlDb 0xA3, []) ∧
    decode [0x35, 0x01, 0x90] = .ok (.xorAxDw 0x9001, []) ∧
    decode [0x80, 0xF1, 0xED] = .ok (.xorEbDb (.reg .cl) 0xED, []) ∧
    decode [0x81, 0xB7, 0x00, 0x80, 0x6B, 0xB4] = .ok (.xorEwDw (.mem (.disp16 .bx 0x8000)) 0xB46B, []) :=
  ⟨rfl, rfl, rfl, rfl, rfl, rfl, rfl, rfl, rfl, rfl, rfl, rfl, rfl, rfl, rfl⟩

theorem test_decode_rows_61_to_75 :
    decode [0x38, 0x2E, 0x34, 0x12] = .ok (.cmpEbRb (.mem (.direct 0x1234)) .ch, []) ∧
    decode [0x39, 0x07] = .ok (.cmpEwRw (.mem (.ind .bx)) .ax, []) ∧
    decode [0x3A, 0xDE] = .ok (.cmpRbEb .bl (.reg .dh), []) ∧
    decode [0x3B, 0x72, 0x7F] = .ok (.cmpRwEw .si (.mem (.disp8 .bpsi 0x7F)), []) ∧
    decode [0x3C, 0xCB] = .ok (.cmpAlDb 0xCB, []) ∧
    decode [0x3D, 0xA9, 0x21] = .ok (.cmpAxDw 0x21A9, []) ∧
    decode [0x80, 0xFC, 0x15] = .ok (.cmpEbDb (.reg .ah) 0x15, []) ∧
    decode [0x81, 0x79, 0x80, 0x13, 0x46] = .ok (.cmpEwDw (.mem (.disp8 .bxdi 0x80)) 0x4613, []) ∧
    decode [0x83, 0x3D, 0x5F] = .ok (.cmpEwDb (.mem (.ind .di)) 0x5F, []) ∧
    decode [0x43] = .ok (.incRw .bx, []) ∧
    decode [0x48] = .ok (.decRw .ax, []) ∧
    decode [0x55] = .ok (.pushRw .bp, []) ∧
    decode [0x5A] = .ok (.popRw .dx, []) ∧
    decode [0x62, 0xA7, 0x00, 0x80] = .ok (.boundRwMd .sp (.mem (.disp16 .bx 0x8000)), []) ∧
    decode [0x63, 0x3E, 0x34, 0x12] = .ok (.arplEwRw (.mem (.direct 0x1234)) .di, []) :=
  ⟨rfl, rfl, rfl, rfl, rfl, rfl, rfl, rfl, rfl, rfl, rfl, rfl, rfl, rfl, rfl⟩

theorem test_decode_rows_76_to_90 :
    decode [0x68, 0xBB, 0xD7] = .ok (.pushDw 0xD7BB, []) ∧
    decode [0x69, 0xEE, 0xF0, 0xE9] = .ok (.imulRwEwDw .bp (.reg .si) 0xE9F0, []) ∧
    decode [0x6A, 0xAC] = .ok (.pushDb 0xAC, []) ∧
    decode [0x6B, 0x1C, 0xD1] = .ok (.imulRwEwDb .bx (.mem (.ind .si)) 0xD1, []) ∧
    decode [0x70, 0xF6] = .ok (.jo 0xF6, []) ∧
    decode [0x71, 0x1B] = .ok (.jno 0x1B, []) ∧
    decode [0x72, 0x40] = .ok (.jb 0x40, []) ∧
    decode [0x73, 0x65] = .ok (.jnb 0x65, []) ∧
    decode [0x74, 0x8A] = .ok (.je 0x8A, []) ∧
    decode [0x75, 0xAF] = .ok (.jne 0xAF, []) ∧
    decode [0x76, 0xD4] = .ok (.jbe 0xD4, []) ∧
    decode [0x77, 0xF9] = .ok (.jnbe 0xF9, []) ∧
    decode [0x78, 0x1E] = .ok (.js 0x1E, []) ∧
    decode [0x79, 0x43] = .ok (.jns 0x43, []) ∧
    decode [0x7A, 0x68] = .ok (.jp 0x68, []) :=
  ⟨rfl, rfl, rfl, rfl, rfl, rfl, rfl, rfl, rfl, rfl, rfl, rfl, rfl, rfl, rfl⟩

theorem test_decode_rows_91_to_105 :
    decode [0x7B, 0x8D] = .ok (.jnp 0x8D, []) ∧
    decode [0x7C, 0xB2] = .ok (.jl 0xB2, []) ∧
    decode [0x7D, 0xD7] = .ok (.jnl 0xD7, []) ∧
    decode [0x7E, 0xFC] = .ok (.jle 0xFC, []) ∧
    decode [0x7F, 0x21] = .ok (.jnle 0x21, []) ∧
    decode [0x84, 0x71, 0x80] = .ok (.testEbRb (.mem (.disp8 .bxdi 0x80)) .dh, []) ∧
    decode [0x85, 0x0D] = .ok (.testEwRw (.mem (.ind .di)) .cx, []) ∧
    decode [0x86, 0xA6, 0x01, 0x00] = .ok (.xchgEbRb (.mem (.disp16 .bp 0x0001)) .ah, []) ∧
    decode [0x87, 0x38] = .ok (.xchgEwRw (.mem (.ind .bxsi)) .di, []) ∧
    decode [0x88, 0x56, 0xFE] = .ok (.movEbRb (.mem (.disp8 .bp 0xFE)) .dl, []) ∧
    decode [0x89, 0xE9] = .ok (.movEwRw (.reg .cx) .bp, []) ∧
    decode [0x8A, 0x87, 0x00, 0x80] = .ok (.movRbEb .al (.mem (.disp16 .bx 0x8000)), []) ∧
    decode [0x8B, 0x1E, 0x34, 0x12] = .ok (.movRwEw .bx (.mem (.direct 0x1234)), []) ∧
    decode [0x8C, 0x07] = .ok (.movEwEs (.mem (.ind .bx)), []) ∧
    decode [0x8C, 0xCE] = .ok (.movEwCs (.reg .si), []) :=
  ⟨rfl, rfl, rfl, rfl, rfl, rfl, rfl, rfl, rfl, rfl, rfl, rfl, rfl, rfl, rfl⟩

theorem test_decode_rows_106_to_120 :
    decode [0x8C, 0x52, 0x7F] = .ok (.movEwSs (.mem (.disp8 .bpsi 0x7F)), []) ∧
    decode [0x8C, 0x1C] = .ok (.movEwDs (.mem (.ind .si)), []) ∧
    decode [0x8D, 0x93, 0xFF, 0xFF] = .ok (.leaRwM .dx (.mem (.disp16 .bpdi 0xFFFF)), []) ∧
    decode [0x8E, 0xC4] = .ok (.movEsEw (.reg .sp), []) ∧
    decode [0x8E, 0x51, 0x80] = .ok (.movSsEw (.mem (.disp8 .bxdi 0x80)), []) ∧
    decode [0x8E, 0x1D] = .ok (.movDsEw (.mem (.ind .di)), []) ∧
    decode [0x8F, 0x86, 0x01, 0x00] = .ok (.popMw (.mem (.disp16 .bp 0x0001)), []) ∧
    decode [0x92] = .ok (.xchgAxRw .dx, []) ∧
    decode [0x9A, 0x99, 0x8B, 0xD2, 0xA2] = .ok (.callCd 0x8B99 0xA2D2, []) ∧
    decode [0xA0, 0xCE, 0x9D] = .ok (.movAlXb 0x9DCE, []) ∧
    decode [0xA1, 0x03, 0xB0] = .ok (.movAxXw 0xB003, []) ∧
    decode [0xA2, 0x38, 0xC2] = .ok (.movXbAl 0xC238, []) ∧
    decode [0xA3, 0x6D, 0xD4] = .ok (.movXwAx 0xD46D, []) ∧
    decode [0xA8, 0x99] = .ok (.testAlDb 0x99, []) ∧
    decode [0xA9, 0xD7, 0xF8] = .ok (.testAxDw 0xF8D7, []) :=
  ⟨rfl, rfl, rfl, rfl, rfl, rfl, rfl, rfl, rfl, rfl, rfl, rfl, rfl, rfl, rfl⟩

theorem test_decode_rows_121_to_135 :
    decode [0xB2, 0xE3] = .ok (.movRbDb .dl 0xE3, []) ∧
    decode [0xBF, 0x41, 0x1D] = .ok (.movRwDw .di 0x1D41, []) ∧
    decode [0xC0, 0xC4, 0x2D] = .ok (.rolEbDb (.reg .ah) 0x2D, []) ∧
    decode [0xC0, 0x49, 0x80, 0x52] = .ok (.rorEbDb (.mem (.disp8 .bxdi 0x80)) 0x52, []) ∧
    decode [0xC0, 0x15, 0x77] = .ok (.rclEbDb (.mem (.ind .di)) 0x77, []) ∧
    decode [0xC0, 0x9E, 0x01, 0x00, 0x9C] = .ok (.rcrEbDb (.mem (.disp16 .bp 0x0001)) 0x9C, []) ∧
    decode [0xC0, 0x20, 0xC1] = .ok (.salEbDb (.mem (.ind .bxsi)) 0xC1, []) ∧
    decode [0xC0, 0x6E, 0xFE, 0xE6] = .ok (.shrEbDb (.mem (.disp8 .bp 0xFE)) 0xE6, []) ∧
    decode [0xC0, 0xF9, 0x0B] = .ok (.sarEbDb (.reg .cl) 0x0B, []) ∧
    decode [0xC1, 0x87, 0x00, 0x80, 0x30] = .ok (.rolEwDb (.mem (.disp16 .bx 0x8000)) 0x30, []) ∧
    decode [0xC1, 0x0E, 0x34, 0x12, 0x55] = .ok (.rorEwDb (.mem (.direct 0x1234)) 0x55, []) ∧
    decode [0xC1, 0x17, 0x7A] = .ok (.rclEwDb (.mem (.ind .bx)) 0x7A, []) ∧
    decode [0xC1, 0xDE, 0x9F] = .ok (.rcrEwDb (.reg .si) 0x9F, []) ∧
    decode [0xC1, 0x62, 0x7F, 0xC4] = .ok (.salEwDb (.mem (.disp8 .bpsi 0x7F)) 0xC4, []) ∧
    decode [0xC1, 0x2C, 0xE9] = .ok (.shrEwDb (.mem (.ind .si)) 0xE9, []) :=
  ⟨rfl, rfl, rfl, rfl, rfl, rfl, rfl, rfl, rfl, rfl, rfl, rfl, rfl, rfl, rfl⟩

theorem test_decode_rows_136_to_150 :
    decode [0xC1, 0xBB, 0xFF, 0xFF, 0x0E] = .ok (.sarEwDb (.mem (.disp16 .bpdi 0xFFFF)) 0x0E, []) ∧
    decode [0xD0, 0xC4] = .ok (.rolEbOne (.reg .ah), []) ∧
    decode [0xD0, 0x49, 0x80] = .ok (.rorEbOne (.mem (.disp8 .bxdi 0x80)), []) ∧
    decode [0xD0, 0x15] = .ok (.rclEbOne (.mem (.ind .di)), []) ∧
    decode [0xD0, 0x9E, 0x01, 0x00] = .ok (.rcrEbOne (.mem (.disp16 .bp 0x0001)), []) ∧
    decode [0xD0, 0x20] = .ok (.salEbOne (.mem (.ind .bxsi)), []) ∧
    decode [0xD0, 0x6E, 0xFE] = .ok (.shrEbOne (.mem (.disp8 .bp 0xFE)), []) ∧
    decode [0xD0, 0xF9] = .ok (.sarEbOne (.reg .cl), []) ∧
    decode [0xD1, 0x87, 0x00, 0x80] = .ok (.rolEwOne (.mem (.disp16 .bx 0x8000)), []) ∧
    decode [0xD1, 0x0E, 0x34, 0x12] = .ok (.rorEwOne (.mem (.direct 0x1234)), []) ∧
    decode [0xD1, 0x17] = .ok (.rclEwOne (.mem (.ind .bx)), []) ∧
    decode [0xD1, 0xDE] = .ok (.rcrEwOne (.reg .si), []) ∧
    decode [0xD1, 0x62, 0x7F] = .ok (.salEwOne (.mem (.disp8 .bpsi 0x7F)), []) ∧
    decode [0xD1, 0x2C] = .ok (.shrEwOne (.mem (.ind .si)), []) ∧
    decode [0xD1, 0xBB, 0xFF, 0xFF] = .ok (.sarEwOne (.mem (.disp16 .bpdi 0xFFFF)), []) :=
  ⟨rfl, rfl, rfl, rfl, rfl, rfl, rfl, rfl, rfl, rfl, rfl, rfl, rfl, rfl, rfl⟩

theorem test_decode_rows_151_to_165 :
    decode [0xD2, 0xC4] = .ok (.rolEbCl (.reg .ah), []) ∧
    decode [0xD2, 0x49, 0x80] = .ok (.rorEbCl (.mem (.disp8 .bxdi 0x80)), []) ∧
    decode [0xD2, 0x15] = .ok (.rclEbCl (.mem (.ind .di)), []) ∧
    decode [0xD2, 0x9E, 0x01, 0x00] = .ok (.rcrEbCl (.mem (.disp16 .bp 0x0001)), []) ∧
    decode [0xD2, 0x20] = .ok (.salEbCl (.mem (.ind .bxsi)), []) ∧
    decode [0xD2, 0x6E, 0xFE] = .ok (.shrEbCl (.mem (.disp8 .bp 0xFE)), []) ∧
    decode [0xD2, 0xF9] = .ok (.sarEbCl (.reg .cl), []) ∧
    decode [0xD3, 0x87, 0x00, 0x80] = .ok (.rolEwCl (.mem (.disp16 .bx 0x8000)), []) ∧
    decode [0xD3, 0x0E, 0x34, 0x12] = .ok (.rorEwCl (.mem (.direct 0x1234)), []) ∧
    decode [0xD3, 0x17] = .ok (.rclEwCl (.mem (.ind .bx)), []) ∧
    decode [0xD3, 0xDE] = .ok (.rcrEwCl (.reg .si), []) ∧
    decode [0xD3, 0x62, 0x7F] = .ok (.salEwCl (.mem (.disp8 .bpsi 0x7F)), []) ∧
    decode [0xD3, 0x2C] = .ok (.shrEwCl (.mem (.ind .si)), []) ∧
    decode [0xD3, 0xBB, 0xFF, 0xFF] = .ok (.sarEwCl (.mem (.disp16 .bpdi 0xFFFF)), []) ∧
    decode [0xC2, 0x28, 0x2C] = .ok (.retNearDw 0x2C28, []) :=
  ⟨rfl, rfl, rfl, rfl, rfl, rfl, rfl, rfl, rfl, rfl, rfl, rfl, rfl, rfl, rfl⟩

theorem test_decode_rows_166_to_180 :
    decode [0xC4, 0x41, 0x80] = .ok (.lesRwEd .ax (.mem (.disp8 .bxdi 0x80)), []) ∧
    decode [0xC5, 0x1D] = .ok (.ldsRwEd .bx (.mem (.ind .di)), []) ∧
    decode [0xC6, 0x86, 0x01, 0x00, 0xAE] = .ok (.movEbDb (.mem (.disp16 .bp 0x0001)) 0xAE, []) ∧
    decode [0xC7, 0x00, 0xFC, 0x74] = .ok (.movEwDw (.mem (.ind .bxsi)) 0x74FC, []) ∧
    decode [0xC8, 0x31, 0x87, 0xF8] = .ok (.enterDwDb 0x8731 0xF8, []) ∧
    decode [0xCA, 0x66, 0x99] = .ok (.retFarDw 0x9966, []) ∧
    decode [0xCD, 0x42] = .ok (.intDb 0x42, []) ∧
    decode [0xD4, 0x0B] = .ok (.unlistedD4xx 0x0B, []) ∧
    decode [0xD5, 0xFF] = .ok (.unlistedD5xx 0xFF, []) ∧
    decode [0xDD, 0xF6] = .ok (.esc 5 6 (.reg .si), []) ∧
    decode [0xE0, 0xD6] = .ok (.loopne 0xD6, []) ∧
    decode [0xE1, 0xFB] = .ok (.loope 0xFB, []) ∧
    decode [0xE2, 0x20] = .ok (.loop 0x20, []) ∧
    decode [0xE3, 0x45] = .ok (.jcxz 0x45, []) ∧
    decode [0xE4, 0x6A] = .ok (.inAlDb 0x6A, []) :=
  ⟨rfl, rfl, rfl, rfl, rfl, rfl, rfl, rfl, rfl, rfl, rfl, rfl, rfl, rfl, rfl⟩

theorem test_decode_rows_181_to_195 :
    decode [0xE5, 0x8F] = .ok (.inAxDb 0x8F, []) ∧
    decode [0xE6, 0xB4] = .ok (.outDbAl 0xB4, []) ∧
    decode [0xE7, 0xD9] = .ok (.outDbAx 0xD9, []) ∧
    decode [0xE8, 0x17, 0x86] = .ok (.callCw 0x8617, []) ∧
    decode [0xE9, 0x4C, 0x98] = .ok (.jmpCw 0x984C, []) ∧
    decode [0xEA, 0x81, 0xAA, 0x8A, 0xFF] = .ok (.jmpCd 0xAA81 0xFF8A, []) ∧
    decode [0xEB, 0x6D] = .ok (.jmpCb 0x6D, []) ∧
    decode [0xF6, 0x07, 0x92] = .ok (.testEbDb (.mem (.ind .bx)) 0x92, []) ∧
    decode [0xF6, 0xD6] = .ok (.notEb (.reg .dh), []) ∧
    decode [0xF6, 0x5A, 0x7F] = .ok (.negEb (.mem (.disp8 .bpsi 0x7F)), []) ∧
    decode [0xF6, 0x24] = .ok (.mulEb (.mem (.ind .si)), []) ∧
    decode [0xF6, 0xAB, 0xFF, 0xFF] = .ok (.imulEb (.mem (.disp16 .bpdi 0xFFFF)), []) ∧
    decode [0xF6, 0xF4] = .ok (.divEb (.reg .ah), []) ∧
    decode [0xF6, 0x79, 0x80] = .ok (.idivEb (.mem (.disp8 .bxdi 0x80)), []) ∧
    decode [0xF7, 0x05, 0x5E, 0x4E] = .ok (.testEwDw (.mem (.ind .di)) 0x4E5E, []) :=
  ⟨rfl, rfl, rfl, rfl, rfl, rfl, rfl, rfl, rfl, rfl, rfl, rfl, rfl, rfl, rfl⟩

theorem test_decode_rows_196_to_210 :
    decode [0xF7, 0x96, 0x01, 0x00] = .ok (.notEw (.mem (.disp16 .bp 0x0001)), []) ∧
    decode [0xF7, 0x18] = .ok (.negEw (.mem (.ind .bxsi)), []) ∧
    decode [0xF7, 0x66, 0xFE] = .ok (.mulEw (.mem (.disp8 .bp 0xFE)), []) ∧
    decode [0xF7, 0xE9] = .ok (.imulEw (.reg .cx), []) ∧
    decode [0xF7, 0xB7, 0x00, 0x80] = .ok (.divEw (.mem (.disp16 .bx 0x8000)), []) ∧
    decode [0xF7, 0x3E, 0x34, 0x12] = .ok (.idivEw (.mem (.direct 0x1234)), []) ∧
    decode [0xFE, 0x07] = .ok (.incEb (.mem (.ind .bx)), []) ∧
    decode [0xFE, 0xCE] = .ok (.decEb (.reg .dh), []) ∧
    decode [0xFF, 0x42, 0x7F] = .ok (.incEw (.mem (.disp8 .bpsi 0x7F)), []) ∧
    decode [0xFF, 0x0C] = .ok (.decEw (.mem (.ind .si)), []) ∧
    decode [0xFF, 0x93, 0xFF, 0xFF] = .ok (.callEw (.mem (.disp16 .bpdi 0xFFFF)), []) ∧
    decode [0xFF, 0xDC] = .ok (.callEd (.reg .sp), []) ∧
    decode [0xFF, 0x61, 0x80] = .ok (.jmpEw (.mem (.disp8 .bxdi 0x80)), []) ∧
    decode [0xFF, 0x2D] = .ok (.jmpEd (.mem (.ind .di)), []) ∧
    decode [0xFF, 0xB6, 0x01, 0x00] = .ok (.pushMw (.mem (.disp16 .bp 0x0001)), []) :=
  ⟨rfl, rfl, rfl, rfl, rfl, rfl, rfl, rfl, rfl, rfl, rfl, rfl, rfl, rfl, rfl⟩

theorem test_decode_rows_211_to_225 :
    decode [0x0F, 0x00, 0x00] = .ok (.sldtEw (.mem (.ind .bxsi)), []) ∧
    decode [0x0F, 0x00, 0x4E, 0xFE] = .ok (.strEw (.mem (.disp8 .bp 0xFE)), []) ∧
    decode [0x0F, 0x00, 0xD1] = .ok (.lldtEw (.reg .cx), []) ∧
    decode [0x0F, 0x00, 0x9F, 0x00, 0x80] = .ok (.ltrEw (.mem (.disp16 .bx 0x8000)), []) ∧
    decode [0x0F, 0x00, 0x26, 0x34, 0x12] = .ok (.verrEw (.mem (.direct 0x1234)), []) ∧
    decode [0x0F, 0x00, 0x2F] = .ok (.verwEw (.mem (.ind .bx)), []) ∧
    decode [0x0F, 0x01, 0xC6] = .ok (.sgdtM (.reg .si), []) ∧
    decode [0x0F, 0x01, 0x4A, 0x7F] = .ok (.sidtM (.mem (.disp8 .bpsi 0x7F)), []) ∧
    decode [0x0F, 0x01, 0x14] = .ok (.lgdtM (.mem (.ind .si)), []) ∧
    decode [0x0F, 0x01, 0x9B, 0xFF, 0xFF] = .ok (.lidtM (.mem (.disp16 .bpdi 0xFFFF)), []) ∧
    decode [0x0F, 0x01, 0xE4] = .ok (.smswEw (.reg .sp), []) ∧
    decode [0x0F, 0x01, 0x71, 0x80] = .ok (.lmswEw (.mem (.disp8 .bxdi 0x80)), []) ∧
    decode [0x0F, 0x02, 0x1D] = .ok (.larRwEw .bx (.mem (.ind .di)), []) ∧
    decode [0x0F, 0x03, 0xB6, 0x01, 0x00] = .ok (.lslRwEw .si (.mem (.disp16 .bp 0x0001)), []) ∧
    decode [0x0F, 0xFF] = .ok (.undef0Fxx 0xFF, []) :=
  ⟨rfl, rfl, rfl, rfl, rfl, rfl, rfl, rfl, rfl, rfl, rfl, rfl, rfl, rfl, rfl⟩

theorem test_decode_rows_226_to_240 :
    decode [0x83, 0x4E] = .ok (.unlisted83n1, []) ∧
    decode [0x83, 0xE1] = .ok (.unlisted83n4, []) ∧
    decode [0x83, 0xB7] = .ok (.unlisted83n6, []) ∧
    decode [0x06] = .ok (.pushEs, []) ∧
    decode [0x0E] = .ok (.pushCs, []) ∧
    decode [0x16] = .ok (.pushSs, []) ∧
    decode [0x1E] = .ok (.pushDs, []) ∧
    decode [0x07] = .ok (.popEs, []) ∧
    decode [0x17] = .ok (.popSs, []) ∧
    decode [0x1F] = .ok (.popDs, []) ∧
    decode [0x0F] = .ok (.twoByteEscape, []) ∧
    decode [0x26] = .ok (.prefixEs, []) ∧
    decode [0x2E] = .ok (.prefixCs, []) ∧
    decode [0x36] = .ok (.prefixSs, []) ∧
    decode [0x3E] = .ok (.prefixDs, []) :=
  ⟨rfl, rfl, rfl, rfl, rfl, rfl, rfl, rfl, rfl, rfl, rfl, rfl, rfl, rfl, rfl⟩

theorem test_decode_rows_241_to_255 :
    decode [0x27] = .ok (.daa, []) ∧
    decode [0x2F] = .ok (.das, []) ∧
    decode [0x37] = .ok (.aaa, []) ∧
    decode [0x3F] = .ok (.aas, []) ∧
    decode [0x60] = .ok (.pusha, []) ∧
    decode [0x61] = .ok (.popa, []) ∧
    decode [0x64] = .ok (.undef64, []) ∧
    decode [0x65] = .ok (.undef65, []) ∧
    decode [0x66] = .ok (.undef66, []) ∧
    decode [0x67] = .ok (.undef67, []) ∧
    decode [0x6C] = .ok (.insb, []) ∧
    decode [0x6D] = .ok (.insw, []) ∧
    decode [0x6E] = .ok (.outsb, []) ∧
    decode [0x6F] = .ok (.outsw, []) ∧
    decode [0x82] = .ok (.unlisted82, []) :=
  ⟨rfl, rfl, rfl, rfl, rfl, rfl, rfl, rfl, rfl, rfl, rfl, rfl, rfl, rfl, rfl⟩

theorem test_decode_rows_256_to_270 :
    decode [0x8C, 0xB7] = .ok (.unlisted8Chi, []) ∧
    decode [0x8E, 0x0E] = .ok (.undef8En1, []) ∧
    decode [0x8E, 0x27] = .ok (.unlisted8Ehi, []) ∧
    decode [0x8F, 0xCE] = .ok (.undef8Fn1, []) ∧
    decode [0x8F, 0x52] = .ok (.undef8Fn2, []) ∧
    decode [0x8F, 0x1C] = .ok (.undef8Fn3, []) ∧
    decode [0x8F, 0xA3] = .ok (.undef8Fn4, []) ∧
    decode [0x8F, 0xEC] = .ok (.undef8Fn5, []) ∧
    decode [0x8F, 0x71] = .ok (.undef8Fn6, []) ∧
    decode [0x8F, 0x3D] = .ok (.undef8Fn7, []) ∧
    decode [0x90] = .ok (.nop, []) ∧
    decode [0x98] = .ok (.cbw, []) ∧
    decode [0x99] = .ok (.cwd, []) ∧
    decode [0x9B] = .ok (.wait, []) ∧
    decode [0x9C] = .ok (.pushf, []) :=
  ⟨rfl, rfl, rfl, rfl, rfl, rfl, rfl, rfl, rfl, rfl, rfl, rfl, rfl, rfl, rfl⟩

theorem test_decode_rows_271_to_285 :
    decode [0x9D] = .ok (.popf, []) ∧
    decode [0x9E] = .ok (.sahf, []) ∧
    decode [0x9F] = .ok (.lahf, []) ∧
    decode [0xA4] = .ok (.movsb, []) ∧
    decode [0xA5] = .ok (.movsw, []) ∧
    decode [0xA6] = .ok (.cmpsb, []) ∧
    decode [0xA7] = .ok (.cmpsw, []) ∧
    decode [0xAA] = .ok (.stosb, []) ∧
    decode [0xAB] = .ok (.stosw, []) ∧
    decode [0xAC] = .ok (.lodsb, []) ∧
    decode [0xAD] = .ok (.lodsw, []) ∧
    decode [0xAE] = .ok (.scasb, []) ∧
    decode [0xAF] = .ok (.scasw, []) ∧
    decode [0xC0, 0xB7] = .ok (.unlistedC0n6, []) ∧
    decode [0xC1, 0x36] = .ok (.unlistedC1n6, []) :=
  ⟨rfl, rfl, rfl, rfl, rfl, rfl, rfl, rfl, rfl, rfl, rfl, rfl, rfl, rfl, rfl⟩

theorem test_decode_rows_286_to_300 :
    decode [0xD0, 0x37] = .ok (.unlistedD0n6, []) ∧
    decode [0xD1, 0xF6] = .ok (.unlistedD1n6, []) ∧
    decode [0xD2, 0x72] = .ok (.unlistedD2n6, []) ∧
    decode [0xD3, 0x34] = .ok (.unlistedD3n6, []) ∧
    decode [0xC3] = .ok (.retNear, []) ∧
    decode [0xC6, 0xCC] = .ok (.undefC6n1, []) ∧
    decode [0xC6, 0x51] = .ok (.undefC6n2, []) ∧
    decode [0xC6, 0x1D] = .ok (.undefC6n3, []) ∧
    decode [0xC6, 0xA6] = .ok (.undefC6n4, []) ∧
    decode [0xC6, 0x28] = .ok (.undefC6n5, []) ∧
    decode [0xC6, 0x76] = .ok (.undefC6n6, []) ∧
    decode [0xC6, 0xF9] = .ok (.undefC6n7, []) ∧
    decode [0xC7, 0x8F] = .ok (.undefC7n1, []) ∧
    decode [0xC7, 0x16] = .ok (.undefC7n2, []) ∧
    decode [0xC7, 0x1F] = .ok (.undefC7n3, []) :=
  ⟨rfl, rfl, rfl, rfl, rfl, rfl, rfl, rfl, rfl, rfl, rfl, rfl, rfl, rfl, rfl⟩

theorem test_decode_rows_301_to_315 :
    decode [0xC7, 0xE6] = .ok (.undefC7n4, []) ∧
    decode [0xC7, 0x6A] = .ok (.undefC7n5, []) ∧
    decode [0xC7, 0x34] = .ok (.undefC7n6, []) ∧
    decode [0xC7, 0xBB] = .ok (.undefC7n7, []) ∧
    decode [0xC9] = .ok (.leave, []) ∧
    decode [0xCB] = .ok (.retFar, []) ∧
    decode [0xCC] = .ok (.int3, []) ∧
    decode [0xCE] = .ok (.into, []) ∧
    decode [0xCF] = .ok (.iret, []) ∧
    decode [0xD4, 0x0A] = .ok (.aam, []) ∧
    decode [0xD5, 0x0A] = .ok (.aad, []) ∧
    decode [0xD6] = .ok (.unlistedD6, []) ∧
    decode [0xD7] = .ok (.xlat, []) ∧
    decode [0xEC] = .ok (.inAlDx, []) ∧
    decode [0xED] = .ok (.inAxDx, []) :=
  ⟨rfl, rfl, rfl, rfl, rfl, rfl, rfl, rfl, rfl, rfl, rfl, rfl, rfl, rfl, rfl⟩

theorem test_decode_rows_316_to_330 :
    decode [0xEE] = .ok (.outDxAl, []) ∧
    decode [0xEF] = .ok (.outDxAx, []) ∧
    decode [0xF0] = .ok (.prefixLock, []) ∧
    decode [0xF1] = .ok (.unlistedF1, []) ∧
    decode [0xF2] = .ok (.prefixRepne, []) ∧
    decode [0xF3] = .ok (.prefixRep, []) ∧
    decode [0xF4] = .ok (.hlt, []) ∧
    decode [0xF5] = .ok (.cmc, []) ∧
    decode [0xF6, 0x4E] = .ok (.undefF6n1, []) ∧
    decode [0xF7, 0xC9] = .ok (.undefF7n1, []) ∧
    decode [0xF8] = .ok (.clc, []) ∧
    decode [0xF9] = .ok (.stc, []) ∧
    decode [0xFA] = .ok (.cli, []) ∧
    decode [0xFB] = .ok (.sti, []) ∧
    decode [0xFC] = .ok (.cld, []) :=
  ⟨rfl, rfl, rfl, rfl, rfl, rfl, rfl, rfl, rfl, rfl, rfl, rfl, rfl, rfl, rfl⟩

theorem test_decode_rows_331_to_345 :
    decode [0xFD] = .ok (.std, []) ∧
    decode [0xFE, 0x93] = .ok (.undefFEn2, []) ∧
    decode [0xFE, 0xDC] = .ok (.undefFEn3, []) ∧
    decode [0xFE, 0x61] = .ok (.undefFEn4, []) ∧
    decode [0xFE, 0x2D] = .ok (.undefFEn5, []) ∧
    decode [0xFE, 0xB6] = .ok (.undefFEn6, []) ∧
    decode [0xFE, 0x38] = .ok (.undefFEn7, []) ∧
    decode [0xFF, 0x7E] = .ok (.undefFFn7, []) ∧
    decode [0x0F, 0x00, 0xF1] = .ok (.undef0F00n6, []) ∧
    decode [0x0F, 0x00, 0xBF] = .ok (.undef0F00n7, []) ∧
    decode [0x0F, 0x01, 0x2E] = .ok (.undef0F01n5, []) ∧
    decode [0x0F, 0x01, 0x3F] = .ok (.undef0F01n7, []) ∧
    decode [0x0F, 0x04] = .ok (.unlisted0F04, []) ∧
    decode [0x0F, 0x05] = .ok (.unlisted0F05, []) ∧
    decode [0x0F, 0x06] = .ok (.clts, []) :=
  ⟨rfl, rfl, rfl, rfl, rfl, rfl, rfl, rfl, rfl, rfl, rfl, rfl, rfl, rfl, rfl⟩

/-! Vectors of the spec, one step each -/

/-- spec: vector 1 of R440. -/
theorem test_vector_r440_1 :
    after [0x25, 0x00, 0x00] (State.set16 real .ax 0xFFFF) (fun t =>
      [(t.get16 .ax).toNat, t.flags.zf.toNat, t.flags.pf.toNat, t.flags.sf.toNat, t.flags.cf.toNat, t.flags.of.toNat] ==
      [0, 1, 1, 0, 0, 0]) = true := by decide

/-- spec: vector 2 of R440. -/
theorem test_vector_r440_2 :
    after [0x0C, 0x00] (setf (setf (State.set8 real .al 0x80) fun f => { f with cf := true }) fun f => { f with of := true }) (fun t =>
      [(t.get8 .al).toNat, t.flags.sf.toNat, t.flags.zf.toNat, t.flags.pf.toNat, t.flags.cf.toNat, t.flags.of.toNat] ==
      [0x80, 1, 0, 0, 0, 0]) = true := by decide

/-- spec: vector 3 of R440. -/
theorem test_vector_r440_3 :
    after [0x81, 0xF3, 0xFF, 0xFF] (State.set16 real .bx 0xFF) (fun t =>
      [(t.get16 .bx).toNat, t.flags.sf.toNat, t.flags.zf.toNat, t.flags.pf.toNat, t.flags.cf.toNat, t.flags.of.toNat] ==
      [0xFF00, 1, 0, 1, 0, 0]) = true := by decide

/-- spec: vector 4 of R440. -/
theorem test_vector_r440_4 :
    after [0xF7, 0xD1] (setf (setf (State.set16 real .cx 0) fun f => { f with cf := true }) fun f => { f with zf := false }) (fun t =>
      [(t.get16 .cx).toNat, t.flags.cf.toNat, t.flags.zf.toNat] ==
      [0xFFFF, 1, 0]) = true := by decide

/-- spec: vector 5 of R440. -/
theorem test_vector_r440_5 :
    after [0xA9, 0x01, 0x80] (State.set16 real .ax 0x8001) (fun t =>
      [t.flags.sf.toNat, t.flags.zf.toNat, t.flags.pf.toNat, t.flags.cf.toNat, t.flags.of.toNat] ==
      [1, 0, 0, 0, 0]) = true := by decide

/-- spec: vector 6 of R440. -/
theorem test_vector_r440_6 :
    after [0xD2, 0xE0] (setf (State.set8 (State.set8 real .al 0x81) .cl 0x28) fun f => { f with cf := false }) (fun t =>
      [(t.get8 .al).toNat, t.flags.cf.toNat, t.flags.zf.toNat, t.flags.pf.toNat, t.flags.sf.toNat] ==
      [0, 1, 1, 1, 0]) = true := by decide

/-- spec: vector 8 of R440. -/
theorem test_vector_r440_8 :
    after [0xC1, 0xE0, 0x24] (State.set16 real .ax 0x1234) (fun t =>
      [(t.get16 .ax).toNat, t.flags.cf.toNat, t.flags.sf.toNat, t.flags.zf.toNat, t.flags.pf.toNat] ==
      [0x2340, 1, 0, 0, 0]) = true := by decide

/-- spec: vector 9 of R440. -/
theorem test_vector_r440_9 :
    after [0xC0, 0xE0, 0x20] (setf (setf (State.set8 real .al 0xFF) fun f => { f with cf := false }) fun f => { f with of := true }) (fun t =>
      [(t.get8 .al).toNat, t.flags.cf.toNat, t.flags.of.toNat] ==
      [0xFF, 0, 1]) = true := by decide

/-- spec: vector 10 of R440. -/
theorem test_vector_r440_10 :
    after [0xD0, 0xF8] (State.set8 real .al 0xFF) (fun t =>
      [(t.get8 .al).toNat, t.flags.cf.toNat, t.flags.of.toNat, t.flags.sf.toNat, t.flags.zf.toNat, t.flags.pf.toNat] ==
      [0xFF, 1, 0, 1, 0, 1]) = true := by decide

/-- spec: vector 11 of R440. -/
theorem test_vector_r440_11 :
    after [0xC0, 0xF8, 0x1F] (State.set8 real .al 0x80) (fun t =>
      [(t.get8 .al).toNat, t.flags.cf.toNat] ==
      [0xFF, 1]) = true := by decide

/-- spec: vector 12 of R440. -/
theorem test_vector_r440_12 :
    after [0xD0, 0xE8] (State.set8 real .al 0x81) (fun t =>
      [(t.get8 .al).toNat, t.flags.cf.toNat, t.flags.of.toNat, t.flags.sf.toNat, t.flags.zf.toNat, t.flags.pf.toNat] ==
      [0x40, 1, 1, 0, 0, 0]) = true := by decide

/-- spec: vector 13 of R440. -/
theorem test_vector_r440_13 :
    after [0xD0, 0xC0] (State.set8 real .al 0x40) (fun t =>
      [(t.get8 .al).toNat, t.flags.cf.toNat, t.flags.of.toNat] ==
      [0x80, 0, 1]) = true := by decide

/-- spec: vector 14 of R440. -/
theorem test_vector_r440_14 :
    after [0xD0, 0xC8] (setf (State.set8 real .al 1) fun f => { f with zf := true }) (fun t =>
      [(t.get8 .al).toNat, t.flags.cf.toNat, t.flags.of.toNat, t.flags.zf.toNat] ==
      [0x80, 1, 1, 1]) = true := by decide

/-- spec: vector 15 of R440. -/
theorem test_vector_r440_15 :
    after [0xC0, 0xD0, 0x09] (setf (State.set8 real .al 0x5A) fun f => { f with cf := true }) (fun t =>
      [(t.get8 .al).toNat, t.flags.cf.toNat] ==
      [0x5A, 1]) = true := by decide

/-- spec: vector 2 of R520. -/
theorem test_vector_r520_2 :
    after [0xEB, 0x20] { real with ip := 0xFFF0 } (fun t =>
      [t.ip.toNat] ==
      [0x12]) = true := by decide

/-- spec: vector 3 of R520. -/
theorem test_vector_r520_3 :
    after [0x7C, 0x10] (setf (setf { real with ip := 0x300 } fun f => { f with sf := true }) fun f => { f with of := false }) (fun t =>
      [t.ip.toNat] ==
      [0x312]) = true := by decide

/-- spec: vector 6 of R520. -/
theorem test_vector_r520_6 :
    after [0xE2, 0xFC] (State.set16 { real with ip := 0x104 } .cx 0) (fun t =>
      [(t.get16 .cx).toNat, t.ip.toNat] ==
      [0xFFFF, 0x102]) = true := by decide

/-- spec: vector 8 of R520. -/
theorem test_vector_r520_8 :
    after [0xE8, 0x34, 0x12] (State.set16 { real with ip := 0x1000 } .sp 0x100) (fun t =>
      [(t.readPhys16 0x300FE).toNat, (t.get16 .sp).toNat, t.ip.toNat] ==
      [0x1003, 0xFE, 0x2237]) = true := by decide

/-- spec: vector 9 of R520. -/
theorem test_vector_r520_9 :
    after [0xC2, 0x04, 0x00] (put16 0x300FE 0x1003 (State.set16 real .sp 0xFE)) (fun t =>
      [t.ip.toNat, (t.get16 .sp).toNat] ==
      [0x1003, 0x104]) = true := by decide

/-- spec: vector 10 of R520. -/
theorem test_vector_r520_10 :
    after [0x9A, 0x78, 0x56, 0x34, 0x12] { { (State.set16 { real with ip := 0x10 } .sp 0x100) with cs := { (State.set16 { real with ip := 0x10 } .sp 0x100).cs with sel := 0x2000 } } with cs := { { (State.set16 { real with ip := 0x10 } .sp 0x100) with cs := { (State.set16 { real with ip := 0x10 } .sp 0x100).cs with sel := 0x2000 } }.cs with base := 0x20000 } } (fun t =>
      [(t.readPhys16 0x300FE).toNat, (t.readPhys16 0x300FC).toNat, (t.get16 .sp).toNat, t.ip.toNat, t.cs.sel.toNat, t.cs.base.toNat] ==
      [0x2000, 0x15, 0xFC, 0x5678, 0x1234, 0x12340]) = true := by decide

/-- spec: vector 11 of R520. -/
theorem test_vector_r520_11 :
    after [0x9A, 0x78, 0x56, 0x34, 0x12] (State.set16 real .sp 3) (fun t =>
      [(t.get16 .sp).toNat] ==
      [3]) = true := by decide

/-- spec: vector 16 of R520. -/
theorem test_vector_r520_16 :
    after [0xCF] (put16 0x300FE 0x302 (put16 0x300FC 0x1000 (put16 0x300FA 0x202 (setf (State.set16 real .sp 0xFA) fun f => { f with nt := false })))) (fun t =>
      [t.ip.toNat, t.flags.tf.toNat, t.flags.ie.toNat, (t.get16 .sp).toNat, t.cs.sel.toNat, t.cs.base.toNat] ==
      [0x202, 1, 1, 0x100, 0x1000, 0x10000]) = true := by decide

/-- spec: vector 12 of R581. -/
theorem test_vector_r581_12 :
    after [0xAB] (setf (State.set16 (State.set16 real .ax 0xBEEF) .di 0x100) fun f => { f with df := true }) (fun t =>
      [(t.readPhys 0x20100).toNat, (t.get16 .di).toNat] ==
      [0xEF, 0xFE]) = true := by decide

/-- spec: vector 1 of R640. -/
theorem test_vector_r640_1 :
    after [0xF5] (setf real fun f => { f with cf := true }) (fun t =>
      [t.flags.cf.toNat] ==
      [0]) = true := by decide

/-- spec: vector 2 of R640. -/
theorem test_vector_r640_2 :
    after [0xFC] (setf real fun f => { f with df := true }) (fun t =>
      [t.flags.df.toNat] ==
      [0]) = true := by decide

/-- spec: vector 3 of R640. -/
theorem test_vector_r640_3 :
    after [0xFA] (setf real fun f => { f with ie := true }) (fun t =>
      [t.flags.ie.toNat] ==
      [0]) = true := by decide

/-- spec: vector 8 of R640. -/
theorem test_vector_r640_8 :
    after [0x27] (setf (setf (State.set8 real .al 0x2E) fun f => { f with af := false }) fun f => { f with cf := false }) (fun t =>
      [(t.get8 .al).toNat, t.flags.af.toNat, t.flags.cf.toNat, t.flags.zf.toNat, t.flags.sf.toNat, t.flags.pf.toNat] ==
      [0x34, 1, 0, 0, 0, 0]) = true := by decide

/-- spec: vector 9 of R640. -/
theorem test_vector_r640_9 :
    after [0x27] (setf (setf (State.set8 real .al 0x9A) fun f => { f with af := false }) fun f => { f with cf := false }) (fun t =>
      [(t.get8 .al).toNat, t.flags.af.toNat, t.flags.cf.toNat, t.flags.zf.toNat, t.flags.pf.toNat] ==
      [0, 1, 1, 1, 1]) = true := by decide

/-- spec: vector 10 of R640. -/
theorem test_vector_r640_10 :
    after [0x2F] (setf (setf (State.set8 real .al 0x1F) fun f => { f with af := true }) fun f => { f with cf := false }) (fun t =>
      [(t.get8 .al).toNat, t.flags.af.toNat, t.flags.cf.toNat] ==
      [0x19, 1, 0]) = true := by decide

/-- spec: vector 11 of R640. -/
theorem test_vector_r640_11 :
    after [0x37] (setf (State.set16 real .ax 0xF) fun f => { f with af := false }) (fun t =>
      [(t.get16 .ax).toNat, t.flags.af.toNat, t.flags.cf.toNat] ==
      [0x105, 1, 1]) = true := by decide

/-- spec: vector 12 of R640. -/
theorem test_vector_r640_12 :
    after [0x3F] (setf (State.set16 real .ax 0x2FF) fun f => { f with af := true }) (fun t =>
      [(t.get16 .ax).toNat, t.flags.af.toNat, t.flags.cf.toNat] ==
      [0x109, 1, 1]) = true := by decide

/-- spec: vector 13 of R640. -/
theorem test_vector_r640_13 :
    after [0xD4, 0x0A] (State.set8 real .al 0x3F) (fun t =>
      [(t.get16 .ax).toNat, t.flags.zf.toNat, t.flags.sf.toNat, t.flags.pf.toNat] ==
      [0x603, 0, 0, 1]) = true := by decide

/-- spec: vector 14 of R640. -/
theorem test_vector_r640_14 :
    after [0xD5, 0x0A] (State.set16 real .ax 0x603) (fun t =>
      [(t.get16 .ax).toNat, t.flags.zf.toNat, t.flags.sf.toNat, t.flags.pf.toNat] ==
      [0x3F, 0, 0, 1]) = true := by decide

/-- spec: vector 15 of R640. -/
theorem test_vector_r640_15 :
    after [0x90] { real with ip := 0x10 } (fun t =>
      [t.ip.toNat] ==
      [0x11]) = true := by decide

/-- spec: vector 3 of R660. -/
theorem test_vector_r660_3 :
    after [0xC8, 0x08, 0x00, 0x03] (put16 0x301FC 0x2222 (put16 0x301FE 0x1111 (State.set16 (State.set16 real .sp 0x100) .bp 0x200))) (fun t =>
      [(t.readPhys16 0x300FE).toNat, (t.readPhys16 0x300FC).toNat, (t.readPhys16 0x300FA).toNat, (t.readPhys16 0x300F8).toNat, (t.get16 .bp).toNat, (t.get16 .sp).toNat] ==
      [0x200, 0x1111, 0x2222, 0xFE, 0xFE, 0xF0]) = true := by decide

/-- spec: vector 7 of R660. -/
theorem test_vector_r660_7 :
    after [0xC9] (put16 0x300FE 0x200 (State.set16 (State.set16 real .bp 0xFE) .sp 0xF2)) (fun t =>
      [(t.get16 .sp).toNat, (t.get16 .bp).toNat] ==
      [0x100, 0x200]) = true := by decide

/-- spec: vector M1. -/
theorem test_vector_M1 :
    after [0x88, 0xC3] (State.set8 (State.set8 real .al 0x12) .bl 0) (fun t =>
      [(t.get8 .bl).toNat] ==
      [0x12]) = true := by decide

/-- spec: vector M2. -/
theorem test_vector_M2 :
    after [0x8B, 0x47, 0x02] (put 0x10103 [0xAB] (put 0x10102 [0xCD] (State.set16 real .bx 0x100))) (fun t =>
      [(t.get16 .ax).toNat] ==
      [0xABCD]) = true := by decide

/-- spec: vector M3. -/
theorem test_vector_M3 :
    after [0xA2, 0x34, 0x12] (State.set8 real .al 0x5A) (fun t =>
      [(t.readPhys 0x11234).toNat] ==
      [0x5A]) = true := by decide

/-- spec: vector M4. -/
theorem test_vector_M4 :
    after [0xC7, 0x87, 0x00, 0x01, 0x05, 0x00] (State.set16 real .bx 0x200) (fun t =>
      [(t.readPhys 0x10300).toNat, (t.readPhys 0x10301).toNat] ==
      [5, 0]) = true := by decide

/-- spec: vector M6. -/
theorem test_vector_M6 :
    after [0x8E, 0xD0] (State.set16 real .ax 0x2000) (fun t =>
      [t.ss.sel.toNat, t.ss.base.toNat] ==
      [0x2000, 0x20000]) = true := by decide

/-- spec: vector M10. -/
theorem test_vector_M10 :
    after [0x87, 0xD9] (State.set16 (State.set16 real .bx 0x1111) .cx 0x2222) (fun t =>
      [(t.get16 .bx).toNat, (t.get16 .cx).toNat] ==
      [0x2222, 0x1111]) = true := by decide

/-- spec: vector M11. -/
theorem test_vector_M11 :
    after [0x6A, 0xFF] (State.set16 real .sp 0x100) (fun t =>
      [(t.readPhys16 0x300FE).toNat, (t.get16 .sp).toNat] ==
      [0xFFFF, 0xFE]) = true := by decide

/-- spec: vector M12. -/
theorem test_vector_M12 :
    after [0x60] (State.set16 (State.set16 (State.set16 (State.set16 (State.set16 (State.set16 (State.set16 (State.set16 real .ax 1) .cx 2) .dx 3) .bx 4) .sp 0x20) .bp 5) .si 6) .di 7) (fun t =>
      [(t.readPhys16 0x3001E).toNat, (t.get16 .sp).toNat] ==
      [1, 0x10]) = true := by decide

/-- spec: vector M14. -/
theorem test_vector_M14 :
    after [0x5C] (put16 0x30100 0x1234 (State.set16 real .sp 0x100)) (fun t =>
      [(t.get16 .sp).toNat] ==
      [0x1234]) = true := by decide

/-- spec: vector M15. -/
theorem test_vector_M15 :
    after [0x9D] (put16 0x300FE 0xFFFF (State.set16 real .sp 0xFE)) (fun t =>
      [(t.get16 .sp).toNat, t.flags.tf.toNat] ==
      [0x100, 1]) = true := by decide

/-- spec: vector M18. -/
theorem test_vector_M18 :
    after [0xD7] (put 0x10205 [0x7E] (State.set8 (State.set16 real .bx 0x200) .al 5)) (fun t =>
      [(t.get8 .al).toNat] ==
      [0x7E]) = true := by decide

/-- spec: vector M19. -/
theorem test_vector_M19 :
    after [0x8D, 0x40, 0xFE] (State.set16 (State.set16 real .bx 1) .si 0) (fun t =>
      [(t.get16 .ax).toNat] ==
      [0xFFFF]) = true := by decide

/-- spec: vector M23. -/
theorem test_vector_M23 :
    after [0x8A, 0x07] (put 0x1FFFF [0x77] (State.set16 real .bx 0xFFFF)) (fun t =>
      [(t.get8 .al).toNat] ==
      [0x77]) = true := by decide

/-- spec: vector A1. -/
theorem test_vector_A1 :
    after [0x04, 0x01] (State.set8 real .al 0x7F) (fun t =>
      [(t.get8 .al).toNat, t.flags.of.toNat, t.flags.sf.toNat, t.flags.zf.toNat, t.flags.af.toNat, t.flags.pf.toNat, t.flags.cf.toNat] ==
      [0x80, 1, 1, 0, 1, 0, 0]) = true := by decide

/-- spec: vector A2. -/
theorem test_vector_A2 :
    after [0x03, 0xC3] (State.set16 (State.set16 real .ax 0xFFFF) .bx 1) (fun t =>
      [(t.get16 .ax).toNat, t.flags.of.toNat, t.flags.sf.toNat, t.flags.zf.toNat, t.flags.af.toNat, t.flags.pf.toNat, t.flags.cf.toNat] ==
      [0, 0, 0, 1, 1, 1, 1]) = true := by decide

/-- spec: vector A3. -/
theorem test_vector_A3 :
    after [0x83, 0xC3, 0xFF] (State.set16 real .bx 1) (fun t =>
      [(t.get16 .bx).toNat, t.flags.cf.toNat, t.flags.zf.toNat, t.flags.af.toNat, t.flags.pf.toNat, t.flags.of.toNat, t.flags.sf.toNat] ==
      [0, 1, 1, 1, 1, 0, 0]) = true := by decide

/-- spec: vector A4. -/
theorem test_vector_A4 :
    after [0x14, 0x00] (setf (State.set8 real .al 0xFF) fun f => { f with cf := true }) (fun t =>
      [(t.get8 .al).toNat, t.flags.cf.toNat, t.flags.zf.toNat, t.flags.af.toNat, t.flags.pf.toNat, t.flags.of.toNat, t.flags.sf.toNat] ==
      [0, 1, 1, 1, 1, 0, 0]) = true := by decide

/-- spec: vector A5. -/
theorem test_vector_A5 :
    after [0x2C, 0x01] (State.set8 real .al 0) (fun t =>
      [(t.get8 .al).toNat, t.flags.cf.toNat, t.flags.sf.toNat, t.flags.af.toNat, t.flags.pf.toNat, t.flags.of.toNat, t.flags.zf.toNat] ==
      [0xFF, 1, 1, 1, 1, 0, 0]) = true := by decide

/-- spec: vector A6. -/
theorem test_vector_A6 :
    after [0x1B, 0xC0] (setf (State.set16 real .ax 0x1234) fun f => { f with cf := true }) (fun t =>
      [(t.get16 .ax).toNat, t.flags.cf.toNat, t.flags.sf.toNat, t.flags.af.toNat, t.flags.pf.toNat, t.flags.of.toNat, t.flags.zf.toNat] ==
      [0xFFFF, 1, 1, 1, 1, 0, 0]) = true := by decide

/-- spec: vector A8. -/
theorem test_vector_A8 :
    after [0x3C, 0x01] (State.set8 real .al 0x80) (fun t =>
      [(t.get8 .al).toNat, t.flags.of.toNat, t.flags.sf.toNat, t.flags.zf.toNat, t.flags.af.toNat, t.flags.pf.toNat, t.flags.cf.toNat] ==
      [0x80, 1, 0, 0, 1, 0, 0]) = true := by decide

/-- spec: vector A9. -/
theorem test_vector_A9 :
    after [0x40] (setf (State.set16 real .ax 0xFFFF) fun f => { f with cf := false }) (fun t =>
      [(t.get16 .ax).toNat, t.flags.zf.toNat, t.flags.af.toNat, t.flags.pf.toNat, t.flags.of.toNat, t.flags.sf.toNat, t.flags.cf.toNat] ==
      [0, 1, 1, 1, 0, 0, 0]) = true := by decide

/-- spec: vector A10. -/
theorem test_vector_A10 :
    after [0xFE, 0xC8] (setf (State.set8 real .al 0x80) fun f => { f with cf := true }) (fun t =>
      [(t.get8 .al).toNat, t.flags.of.toNat, t.flags.sf.toNat, t.flags.zf.toNat, t.flags.af.toNat, t.flags.pf.toNat, t.flags.cf.toNat] ==
      [0x7F, 1, 0, 0, 1, 0, 1]) = true := by decide

/-- spec: vector A11. -/
theorem test_vector_A11 :
    after [0xF6, 0xD8] (State.set8 real .al 0x80) (fun t =>
      [(t.get8 .al).toNat, t.flags.cf.toNat, t.flags.of.toNat, t.flags.sf.toNat, t.flags.zf.toNat, t.flags.af.toNat, t.flags.pf.toNat] ==
      [0x80, 1, 1, 1, 0, 0, 0]) = true := by decide

/-- spec: vector A12. -/
theorem test_vector_A12 :
    after [0xF7, 0xD8] (State.set16 real .ax 0) (fun t =>
      [(t.get16 .ax).toNat, t.flags.cf.toNat, t.flags.zf.toNat, t.flags.pf.toNat, t.flags.of.toNat, t.flags.sf.toNat, t.flags.af.toNat] ==
      [0, 0, 1, 1, 0, 0, 0]) = true := by decide

/-- spec: vector A13. -/
theorem test_vector_A13 :
    after [0xF6, 0xE3] (State.set8 (State.set8 real .al 0xFF) .bl 0xFF) (fun t =>
      [(t.get16 .ax).toNat, t.flags.cf.toNat, t.flags.of.toNat] ==
      [0xFE01, 1, 1]) = true := by decide

/-- spec: vector A14. -/
theorem test_vector_A14 :
    after [0xF7, 0xE3] (State.set16 (State.set16 real .ax 0x100) .bx 0x100) (fun t =>
      [(t.get16 .dx).toNat, (t.get16 .ax).toNat, t.flags.cf.toNat, t.flags.of.toNat] ==
      [1, 0, 1, 1]) = true := by decide

/-- spec: vector A15. -/
theorem test_vector_A15 :
    after [0xF6, 0xEB] (State.set8 (State.set8 real .al 0xFF) .bl 2) (fun t =>
      [(t.get16 .ax).toNat, t.flags.cf.toNat, t.flags.of.toNat] ==
      [0xFFFE, 0, 0]) = true := by decide

/-- spec: vector A16. -/
theorem test_vector_A16 :
    after [0xF6, 0xEB] (State.set8 (State.set8 real .al 0x40) .bl 2) (fun t =>
      [(t.get16 .ax).toNat, t.flags.cf.toNat, t.flags.of.toNat, (t.get8 .ah).toNat, (t.get8 .al).toNat] ==
      [0x80, 1, 1, 0, 0x80]) = true := by decide

/-- spec: vector A17. -/
theorem test_vector_A17 :
    after [0x6B, 0xDE, 0x05] (State.set16 real .si 0x4000) (fun t =>
      [(t.get16 .bx).toNat, t.flags.cf.toNat, t.flags.of.toNat] ==
      [0x4000, 1, 1]) = true := by decide

/-- spec: vector A18. -/
theorem test_vector_A18 :
    after [0xF6, 0xF3] (State.set8 (State.set16 real .ax 0xFF) .bl 0x10) (fun t =>
      [(t.get8 .al).toNat, (t.get8 .ah).toNat] ==
      [0xF, 0xF]) = true := by decide

/-- spec: vector A21. -/
theorem test_vector_A21 :
    after [0xF6, 0xFB] (State.set8 (State.set16 real .ax 0xFF80) .bl 1) (fun t =>
      [(t.get8 .al).toNat, (t.get8 .ah).toNat] ==
      [0x80, 0]) = true := by decide

/-- spec: vector A22. -/
theorem test_vector_A22 :
    after [0xF6, 0xFB] (State.set8 (State.set16 real .ax 0xFFF9) .bl 2) (fun t =>
      [(t.get8 .al).toNat, (t.get8 .ah).toNat] ==
      [0xFD, 0xFF]) = true := by decide

/-- spec: vector A25. -/
theorem test_vector_A25 :
    after [0x98] (State.set8 real .al 0x80) (fun t =>
      [(t.get16 .ax).toNat] ==
      [0xFF80]) = true := by decide

/-- spec: vector A26. -/
theorem test_vector_A26 :
    after [0x99] (State.set16 real .ax 0x7FFF) (fun t =>
      [(t.get16 .dx).toNat] ==
      [0]) = true := by decide

/-- spec: vector L1. -/
theorem test_vector_L1 :
    after [0x24, 0x0F] (setf (setf (State.set8 real .al 0xF5) fun f => { f with cf := true }) fun f => { f with of := true }) (fun t =>
      [(t.get8 .al).toNat, t.flags.cf.toNat, t.flags.of.toNat, t.flags.sf.toNat, t.flags.zf.toNat, t.flags.pf.toNat] ==
      [5, 0, 0, 0, 0, 1]) = true := by decide

/-- spec: vector L2. -/
theorem test_vector_L2 :
    after [0x33, 0xC0] (State.set16 real .ax 0x1234) (fun t =>
      [(t.get16 .ax).toNat, t.flags.zf.toNat, t.flags.pf.toNat, t.flags.sf.toNat, t.flags.cf.toNat, t.flags.of.toNat] ==
      [0, 1, 1, 0, 0, 0]) = true := by decide

/-- spec: vector L3. -/
theorem test_vector_L3 :
    after [0xF6, 0xC3, 0x20] (State.set8 real .bl 0xDF) (fun t =>
      [t.flags.zf.toNat, t.flags.pf.toNat, t.flags.sf.toNat, t.flags.cf.toNat, t.flags.of.toNat] ==
      [1, 1, 0, 0, 0]) = true := by decide

/-- spec: vector L4. -/
theorem test_vector_L4 :
    after [0xF7, 0xD0] (setf (State.set16 real .ax 0xFF) fun f => { f with zf := true }) (fun t =>
      [(t.get16 .ax).toNat, t.flags.zf.toNat] ==
      [0xFF00, 1]) = true := by decide

/-- spec: vector L5. -/
theorem test_vector_L5 :
    after [0xD1, 0xF8] (State.set16 real .ax 0x8001) (fun t =>
      [(t.get16 .ax).toNat, t.flags.cf.toNat, t.flags.of.toNat, t.flags.sf.toNat, t.flags.zf.toNat, t.flags.pf.toNat] ==
      [0xC000, 1, 0, 1, 0, 1]) = true := by decide

/-- spec: vector L6. -/
theorem test_vector_L6 :
    after [0xD2, 0xE8] (State.set8 (State.set8 real .al 0x81) .cl 0x21) (fun t =>
      [(t.get8 .al).toNat, t.flags.cf.toNat, t.flags.of.toNat, t.flags.sf.toNat, t.flags.zf.toNat, t.flags.pf.toNat] ==
      [0x40, 1, 1, 0, 0, 0]) = true := by decide

/-- spec: vector L7. -/
theorem test_vector_L7 :
    after [0xC0, 0xC0, 0x08] (State.set8 real .al 0x81) (fun t =>
      [(t.get8 .al).toNat, t.flags.cf.toNat] ==
      [0x81, 1]) = true := by decide

/-- spec: vector L8. -/
theorem test_vector_L8 :
    after [0xC1, 0xD3, 0x10] (setf (State.set16 real .bx 0x8001) fun f => { f with cf := false }) (fun t =>
      [(t.get16 .bx).toNat, t.flags.cf.toNat] ==
      [0x4000, 1]) = true := by decide

/-- spec: vector L9. -/
theorem test_vector_L9 :
    after [0xD1, 0xDB] (setf (State.set16 real .bx 0x8001) fun f => { f with cf := false }) (fun t =>
      [(t.get16 .bx).toNat, t.flags.cf.toNat, t.flags.of.toNat] ==
      [0x4000, 1, 1]) = true := by decide

/-- spec: vector L10. -/
theorem test_vector_L10 :
    after [0xC0, 0x1E, 0x00, 0x03, 0x03] (put 0x10300 [4] (setf real fun f => { f with cf := false })) (fun t =>
      [t.flags.cf.toNat] ==
      [1]) = true := by decide

/-- spec: vector T1. -/
theorem test_vector_T1 :
    after [0x74, 0x10] (setf { real with ip := 0x100 } fun f => { f with zf := true }) (fun t =>
      [t.ip.toNat] ==
      [0x112]) = true := by decide

/-- spec: vector T2. -/
theorem test_vector_T2 :
    after [0x74, 0x10] (setf { real with ip := 0x100 } fun f => { f with zf := false }) (fun t =>
      [t.ip.toNat] ==
      [0x102]) = true := by decide

/-- spec: vector T3. -/
theorem test_vector_T3 :
    after [0x7C, 0xFE] (setf (setf { real with ip := 0x100 } fun f => { f with sf := true }) fun f => { f with of := false }) (fun t =>
      [t.ip.toNat] ==
      [0x100]) = true := by decide

/-- spec: vector T4. -/
theorem test_vector_T4 :
    after [0xE3, 0x05] (State.set16 { real with ip := 0x100 } .cx 0) (fun t =>
      [t.ip.toNat] ==
      [0x107]) = true := by decide

/-- spec: vector T5. -/
theorem test_vector_T5 :
    after [0xE2, 0xFE] (State.set16 { real with ip := 0x100 } .cx 0) (fun t =>
      [(t.get16 .cx).toNat, t.ip.toNat] ==
      [0xFFFF, 0x100]) = true := by decide

/-- spec: vector T6. -/
theorem test_vector_T6 :
    after [0xE1, 0x10] (setf (State.set16 { real with ip := 0x100 } .cx 2) fun f => { f with zf := true }) (fun t =>
      [(t.get16 .cx).toNat, t.ip.toNat] ==
      [1, 0x112]) = true := by decide

/-- spec: vector T7. -/
theorem test_vector_T7 :
    after [0xE1, 0x10] (setf (State.set16 { real with ip := 0x100 } .cx 2) fun f => { f with zf := false }) (fun t =>
      [(t.get16 .cx).toNat, t.ip.toNat] ==
      [1, 0x102]) = true := by decide

/-- spec: vector T8. -/
theorem test_vector_T8 :
    after [0xE0, 0x10] (setf (State.set16 { real with ip := 0x100 } .cx 1) fun f => { f with zf := false }) (fun t =>
      [(t.get16 .cx).toNat, t.ip.toNat] ==
      [0, 0x102]) = true := by decide

/-- spec: vector T10. -/
theorem test_vector_T10 :
    after [0xE8, 0xFD, 0xFF] (State.set16 { real with ip := 0x100 } .sp 0x100) (fun t =>
      [(t.readPhys16 0x300FE).toNat, (t.get16 .sp).toNat, t.ip.toNat] ==
      [0x103, 0xFE, 0x100]) = true := by decide

/-- spec: vector T11. -/
theorem test_vector_T11 :
    after [0xFF, 0xD3] (State.set16 { (State.set16 real .bx 0x400) with ip := 0x100 } .sp 0x100) (fun t =>
      [(t.readPhys16 0x300FE).toNat, (t.get16 .sp).toNat, t.ip.toNat] ==
      [0x102, 0xFE, 0x400]) = true := by decide

/-- spec: vector S1. -/
theorem test_vector_S1 :
    after [0xA5] (put16 0x10010 0xBEEF (setf (State.set16 (State.set16 real .si 0x10) .di 0x20) fun f => { f with df := false })) (fun t =>
      [(t.readPhys16 0x20020).toNat, (t.get16 .si).toNat, (t.get16 .di).toNat] ==
      [0xBEEF, 0x12, 0x22]) = true := by decide

/-- spec: vector S5. -/
theorem test_vector_S5 :
    after [0xAB] (setf (State.set16 (State.set16 real .ax 0x1234) .di 0xFFFE) fun f => { f with df := false }) (fun t =>
      [(t.readPhys16 0x2FFFE).toNat, (t.get16 .di).toNat] ==
      [0x1234, 0]) = true := by decide

/-- spec: vector F5. -/
theorem test_vector_F5 :
    after [0xF9] (setf real fun f => { f with cf := false }) (fun t =>
      [t.flags.cf.toNat] ==
      [1]) = true := by decide

/-- spec: vector E2. -/
theorem test_vector_E2 :
    after [0xC8, 0x00, 0x00, 0x20] (State.set16 (State.set16 real .sp 0x100) .bp 0x200) (fun t =>
      [(t.readPhys16 0x300FE).toNat, (t.get16 .bp).toNat, (t.get16 .sp).toNat] ==
      [0x200, 0xFE, 0xFE]) = true := by decide

/-- spec: vector Y2. -/
theorem test_vector_Y2 :
    after [0x0F, 0x01, 0xE0] real (fun t =>
      [(t.get16 .ax).toNat] ==
      [0xFFF0]) = true := by decide

/-- spec: vector 11 of R581: LODSB. -/
theorem test_vector_r581_11 :
    after [0xAC] (put 0x10005 [0x7F] ((real.set16 .ax 0xFF00).set16 .si 5)) (fun t =>
      [t.regs.ax, t.regs.si] == [0xFF7F, 6]) = true := by decide

/-- spec: vector 1 of R581: MOVSB. -/
theorem test_vector_r581_1 :
    after [0xA4] (put 0x10010 [0x5A] ((real.set16 .si 0x10).set16 .di 0x20)) (fun t =>
      t.readPhys 0x20020 == 0x5A && [t.regs.si, t.regs.di, t.regs.cx] == [0x11, 0x21, 0]) = true := by decide

/-- spec: vector 2 of R581: MOVSW at the end of the segment. -/
theorem test_vector_r581_2 :
    after [0xA5] (put16 0x1FFFE 0x1234 (real.set16 .si 0xFFFE)) (fun t =>
      t.readPhys16 0x20000 == 0x1234 && [t.regs.si, t.regs.di] == [0, 2]) = true := by decide

/-- spec: vector 7 of R581, its first iteration: the elements are equal, so REPE goes on. -/
theorem test_vector_r581_7_first_iteration :
    after [0xF3, 0xA6] (put 0x10000 [0x41] (put 0x20000 [0x41] (real.set16 .cx 5))) (fun t =>
      [t.regs.cx, t.regs.si, t.regs.di, t.ip] == [4, 1, 1, 0x100] && t.flags.zf) = true := by decide

/-- spec: vector 9 of R581, its last iteration: REPNE SCASB ends at the byte found. -/
theorem test_vector_r581_9_last_iteration :
    after [0xF2, 0xAE] ((real.set16 .cx 0xE).set16 .di 2) (fun t =>
      [t.regs.cx, t.regs.di, t.ip] == [0xD, 3, 0x102] && t.flags.zf) = true := by decide

/-- spec: vector 4 of R581: nothing is moved with CX = 0. -/
theorem test_vector_r581_4 :
    after [0xF3, 0xA4] (real.set16 .si 7) (fun t => [t.regs.si, t.regs.cx, t.ip] == [7, 0, 0x102]) = true := by decide

/-- spec: vector 13 of R581: the destination of STOS stays in ES. -/
theorem test_vector_r581_13 :
    after [0x2E, 0xAA] (real.set16 .ax 0x99) (fun t => t.readPhys 0x20000 == 0x99 && t.ip == 0x102) = true := by decide

/-- spec: vector 14 of R581: LODS through an override. -/
theorem test_vector_r581_14 :
    after [0x36, 0xAC] (put 0x30100 [0x77] (real.set16 .si 0x100)) (fun t =>
      t.get8 .al == 0x77 && t.regs.si == 0x101) = true := by decide

/-- F2H before LODS is not listed (R553). -/
theorem test_repne_lods_refused : refuses [0xF2, 0xAC] real .repneNotListed = true := by decide

/-- spec: vectors M5, M6: a selector stored, and SS loaded with interrupts held off. -/
theorem test_vector_M5 : after [0x8C, 0xD8] real (fun t => t.regs.ax == 0x1000) = true := by decide

theorem test_mov_ss_inhibits :
    after [0x8E, 0xD0] (real.set16 .ax 0x2000) (fun t =>
      t.ss.sel == 0x2000 && t.ss.base == 0x20000 && t.inhibit) = true := by decide

/-- spec: vector M13: POPA skips the saved SP. -/
theorem test_vector_M13 :
    after [0x61] (put 0x30010 [7, 0, 6, 0, 5, 0, 0x20, 0, 4, 0, 3, 0, 2, 0, 1, 0] (real.set16 .sp 0x10)) (fun t =>
      t.regs == { ax := 1, cx := 2, dx := 3, bx := 4, sp := 0x20, bp := 5, si := 6, di := 7 }) = true := by decide

/-- spec: vector M20: LDS. -/
theorem test_vector_M20 :
    after [0xC5, 0x36, 0x00, 0x03] (put 0x10300 [0x78, 0x56, 0x00, 0x20] real) (fun t =>
      t.regs.si == 0x5678 && t.ds.sel == 0x2000 && t.ds.base == 0x20000) = true := by decide

/-- spec: example 22 of A1: LES. -/
theorem test_les :
    after [0xC4, 0x3E, 0x00, 0x03] (put 0x10300 [0x10, 0x00, 0x00, 0x30] real) (fun t =>
      t.regs.di == 0x10 && t.es.sel == 0x3000 && t.es.base == 0x30000) = true := by decide

/-- spec: vector M7: MOV CS,AX is #UD, through vector 6 of a real-mode table at 0. -/
theorem test_vector_M7 :
    after [0x8E, 0xC8] (put 0x18 [0x00, 0x05, 0x00, 0x20] real) (fun t =>
      frame t == [0x2000, 0x500, 0xFA, 2] && words t 0x300FE 3 == [2, 0, 0x100]) = true := by decide

/-- spec: vector M22: a word at offset FFFFH is interrupt 13 in real mode. -/
theorem test_vector_M22 :
    after [0x8B, 0x07] (put 0x34 [0x00, 0x05, 0x00, 0x20] (real.set16 .bx 0xFFFF)) (fun t =>
      frame t == [0x2000, 0x500, 0xFA, 2] && words t 0x300FE 3 == [2, 0, 0x100]) = true := by decide

/-- spec: vector T14: FF /7 is interrupt 13. -/
theorem test_vector_T14 :
    after [0xFF, 0xF8] (put 0x34 [0x00, 0x05, 0x00, 0x20] real) (fun t =>
      frame t == [0x2000, 0x500, 0xFA, 2]) = true := by decide

/-- spec: example 15 of A1: INT 3. -/
theorem test_int3 :
    after [0xCC] (put 0x0C [0x00, 0x05, 0x00, 0x20] real) (fun t =>
      frame t == [0x2000, 0x500, 0xFA, 2] && words t 0x300FE 3 == [2, 0, 0x101]) = true := by decide

/-- spec: example 16 of A1: INT 0 is a trap. -/
theorem test_int_0 :
    after [0xCD, 0x00] (put 0x00 [0x00, 0x05, 0x00, 0x20] real) (fun t =>
      words t 0x300FE 3 == [2, 0, 0x102] && t.ip == 0x500) = true := by decide

/-- spec: example 17 of A1: INTO with OF clear. -/
theorem test_into_not_taken : after [0xCE] real (fun t => frame t == [0, 0x101, 0x100, 2]) = true := by decide

/-- spec: example 10 of A1: far RET in real mode. -/
theorem test_ret_far :
    after [0xCB] (put16 0x300FC 0x0123 (put16 0x300FE 0x2000 (real.set16 .sp 0xFC))) (fun t =>
      frame t == [0x2000, 0x123, 0x100, 2] && t.cs.base == 0x20000) = true := by decide

/-- spec: example 8 of A1: JMP through a pointer in memory. -/
theorem test_jmp_pointer :
    after [0xFF, 0x2E, 0x00, 0x03] (put 0x10300 [0x78, 0x56, 0x34, 0x12] real) (fun t =>
      t.cs.sel == 0x1234 && t.ip == 0x5678) = true := by decide

/-- spec: example 6 of A1: JMP through a word in memory. -/
theorem test_jmp_table :
    after [0xFF, 0xA7, 0x00, 0x03] (put 0x10304 [0x20, 0x04] (real.set16 .bx 4)) (fun t => t.ip == 0x420) = true := by
  decide

/-- spec: vector E3: BOUND with the widest bounds. -/
theorem test_vector_E3 :
    after [0x62, 0x1E, 0x00, 0x01] (put 0x10100 [0x00, 0x80, 0xFF, 0x7F] (real.set16 .bx 0x8000)) (fun t =>
      t.ip == 0x104) = true := by decide

/-- spec: item 7 of A2: BOUND below its lower bound. -/
theorem test_bound_below :
    after [0x62, 0x1E, 0x00, 0x01]
      (put 0x14 [0x00, 0x05, 0x00, 0x20] (put 0x10100 [0, 0, 9, 0] (real.set16 .bx 0xFFFF))) (fun t =>
      t.ip == 0x500 && words t 0x300FE 3 == [2, 0, 0x100]) = true := by decide

/-- spec: item 4 of A2: RCR of a memory byte by 3. -/
theorem test_rcr_memory :
    after [0xC0, 0x1E, 0x00, 0x03, 0x03] (put 0x10300 [0xB4] (setf real fun f => { f with cf := true })) (fun t =>
      t.readPhys 0x10300 == 0x36 && t.flags.cf) = true := by decide

/-- spec: item 3 of A2: RCL BX,1. -/
theorem test_rcl_bx :
    after [0xD1, 0xD3] (real.set16 .bx 0x8001) (fun t =>
      t.regs.bx == 2 && t.flags.cf && t.flags.of) = true := by decide

/-- spec: vector S9: OUT sends a byte to the host. -/
theorem test_vector_S9 :
    after [0xE6, 0x80] (real.set16 .ax 0x5A) (fun t => t.hostOut == [HostEvent.port 0x80 0x5A]) = true := by decide

/-- A word sent to port FFFFH has its second byte at port 0 (R170, D18). -/
theorem test_out_word_wraps :
    after [0xEF] ((real.set16 .ax 0x1234).set16 .dx 0xFFFF) (fun t =>
      t.hostOut == [HostEvent.port 0 0x12, .port 0xFFFF 0x34]) = true := by decide

/-- XCHG with memory asserts bus LOCK without a prefix, and with one no more than that; with a register it does not
(R125, R311). -/
theorem test_xchg_locks_the_bus :
    after [0x87, 0x04] real (fun t => t.hostOut == [HostEvent.lock]) = true ∧
    after [0xF0, 0x87, 0x04] real (fun t => t.hostOut == [HostEvent.lock]) = true ∧
    after [0x87, 0xC3] real (fun t => t.hostOut == []) = true := by decide

/-- LOCK OUTSB asserts bus LOCK before it sends its byte; LOCK before INC has no such effect (R608). -/
theorem test_lock_prefix :
    after [0xF0, 0x6E] (real.set16 .dx 0x60) (fun t => t.hostOut == [HostEvent.port 0x60 0, .lock]) = true ∧
    after [0xF0, 0x40] real (fun t => t.hostOut == []) = true := by decide

/-- A segment load in protected mode, and LTR, assert bus LOCK (R125). -/
theorem test_descriptor_loads_lock_the_bus :
    after [0x8E, 0xD8] (prot.set16 .ax 0x10) (fun t => t.hostOut == [HostEvent.lock]) = true ∧
    after [0x0F, 0x00, 0xD8] (prot.set16 .ax 0x30) (fun t => t.hostOut == [HostEvent.lock]) = true := by decide

/-- OUTSW sends the word at DS:SI (R566). -/
theorem test_outsw :
    after [0x6F] (put 0x10010 [0x34, 0x12] ((real.set16 .si 0x10).set16 .dx 0x60)) (fun t =>
      t.hostOut == [HostEvent.port 0x61 0x12, .port 0x60 0x34] && t.regs.si == 0x12) = true := by decide

/-- spec: vector F7: HLT at level 0, and what wakes it. -/
theorem test_vector_F7 :
    after [0xF4] prot (fun t => t.runState == .halted && t.ip == 0x124) = true := by decide

/-- A halted machine goes to the handler of an enabled interrupt, whose first instruction (here HLT again) runs. -/
theorem test_interrupt_ends_halt :
    (match step { put 0x20300 [0xF4] (put 0x0C [0x00, 0x03, 0x00, 0x20] real) with
        runState := .halted, intr := some 3, flags := { real.flags with ie := true } } with
      | .next t => frame t == [0x2000, 0x301, 0xFA, 2] && t.hostOut == [HostEvent.intAck, .lock] && t.intr == none
      | .fault _ => false
      | .refused _ => false) = true := by decide

/-- spec: vector 7 of R940: the instruction that begins with TF set is followed by interrupt 1. -/
theorem test_single_step_is_due :
    after [0x40] (setf real fun f => { f with tf := true }) (fun t => t.trapPending && t.regs.ax == 1) = true := by decide

/-! Protected mode -/

/-- spec: vector 13 of R940: a fault through an interrupt gate at the same level. -/
theorem test_vector_r940_13 :
    after [0xA1, 0xFF, 0x0F] prot (fun t =>
      frame t == [8, 0x400, 0x7F8, 2] && words t 0x307FE 4 == [0x202, 8, 0x123, 0]) = true := by decide

/-- spec: vector 16 of R940: INT through a trap gate to an inner level. -/
theorem test_vector_r940_16 :
    after [0xCD, 0x21] user (fun t =>
      frame t == [8, 0x700, 0x7F6, 0x3202] && words t 0x307FE 5 == [0x4B, 0x200, 0x3202, 0x1B, 0x458]) = true := by decide

/-- spec: vector 15 of R940: INT through a gate whose DPL is less than CPL. -/
theorem test_vector_r940_15 :
    after [0xCD, 0x20] user (fun t =>
      frame t == [8, 0x400, 0x7F4, 0x3002] && words t 0x307FE 6 == [0x4B, 0x200, 0x3202, 0x1B, 0x456, 0x102]) = true := by
  decide

/-- spec: vector 18 of R940: exception 7 through a gate not present, with EXT set. -/
theorem test_vector_r940_18 :
    after [0xD9, 0xE8] { prot with msw := { prot.msw with em := true } } (fun t =>
      frame t == [8, 0x500, 0x7F8, 2] && words t 0x307FE 4 == [0x202, 8, 0x123, 0x3B]) = true := by decide

/-- spec: vector 19 of R940: a contributory exception whose gate is bad is a double fault, here through a task gate. -/
theorem test_vector_r940_19 :
    after [0xA1, 0xFF, 0x0F] (put 0x7006D [6] prot) (fun t =>
      [t.tr.sel, t.ip, t.regs.sp, t.readPhys16 0x303FE, t.readPhys16 0x52000, t.readPhys16 0x5100E] ==
        [0x30, 0x40, 0x3FE, 0, 0x20, 0x123] && t.flags.nt && t.msw.ts) = true := by decide

/-- spec: vector 20 of R940: no descriptor can be used, shutdown. -/
theorem test_vector_r940_20 :
    after [0xA1, 0xFF, 0x0F] { prot with idtr := { base := 0x70000, limit := 0 } } (fun t =>
      frame t == [8, 0x123, 0x800, 0x202] && t.runState == .shutdown) = true := by decide

/-- spec: the task switch of R740 by JMP: the outgoing task is saved and no longer busy. -/
theorem test_jmp_switches_tasks :
    after [0xEA, 0x00, 0x00, 0x30, 0x00] { prot with ip := 0x100, regs := { prot.regs with ax := 0x1111 } } (fun t =>
      [t.readPhys16 0x5100E, t.readPhys16 0x51010, t.readPhys16 0x51012, t.readPhys16 0x51024, t.readPhys16 0x52000] ==
        [0x105, 0x202, 0x1111, 8, 0] &&
      [t.readPhys 0x10025, t.readPhys 0x10035] == [0x81, 0x83] && frame t == [8, 0x40, 0x400, 2] &&
      t.tr.sel == 0x30 && t.msw.ts && t.regs.ax == 0x2222) = true := by decide

/-- spec: the task switch of R740 by CALL: linked back, and both tasks busy. -/
theorem test_call_nests_tasks :
    after [0x9A, 0x00, 0x00, 0x30, 0x00] { prot with ip := 0x100 } (fun t =>
      [t.readPhys16 0x5100E, t.readPhys16 0x52000] == [0x105, 0x20] &&
      [t.readPhys 0x10025, t.readPhys 0x10035] == [0x83, 0x83] && frame t == [8, 0x40, 0x400, 0x4002]) = true := by decide

/-- spec: vector 13 of R520: CALL through a call gate to an inner level with two parameters. -/
theorem test_vector_r520_13 :
    after [0x9A, 0x00, 0x00, 0x5B, 0x00]
      (put 0x60200 [0xAA, 0xAA, 0xBB, 0xBB] { user with ip := 0x40, flags := State.reset.flags }) (fun t =>
      frame t == [8, 0x100, 0x7F4, 2] &&
      words t 0x307FE 6 == [0x4B, 0x200, 0xBBBB, 0xAAAA, 0x1B, 0x45] &&
      [t.readPhys 0x1000D, t.readPhys 0x10015] == [0x9B, 0x93] && t.ss.sel == 0x10 && t.ss.base == 0x30000) = true := by
  decide

/-- spec: vector 14 of R520: the far RET back, releasing the parameters on both stacks; DS, of level 0, is made null. -/
theorem test_vector_r520_14 :
    after [0xCA, 0x04, 0x00]
      (put 0x307F4 [0x45, 0, 0x1B, 0, 0xAA, 0xAA, 0xBB, 0xBB, 0x00, 0x02, 0x4B, 0]
        { prot with regs := { prot.regs with sp := 0x7F4 }, es := user.es, flags := State.reset.flags }) (fun t =>
      frame t == [0x1B, 0x45, 0x204, 2] && [t.ss.sel, t.ds.sel, t.es.sel] == [0x4B, 0, 0x4B] &&
      t.ss.base == 0x60000 && !t.ds.valid && t.es.valid) = true := by decide

/-- spec: vector 17 of R520: IRET at level 3 changes neither IOPL nor, with IOPL below CPL, IF. -/
theorem test_vector_r520_17 :
    after [0xCF] (put 0x60200 [0x45, 0, 0x1B, 0, 0x02, 0x70] { user with flags := { user.flags with iopl := 0 } }) (fun t =>
      frame t == [0x1B, 0x45, 0x206, 0x4202]) = true := by decide

/-- spec: vector 11 of R740: LLDT. -/
theorem test_vector_r740_11 :
    after [0x0F, 0x00, 0xD0] (prot.set16 .ax 0x28) (fun t =>
      t.ldtr == { sel := 0x28, base := 0x14000, limit := 0xFF, valid := true }) = true := by decide

/-- LLDT of a selector with TI = 1 is #GP with TI in its code, and loads nothing (R676, R805; note 45 on vector 14 of R740). -/
theorem test_lldt_of_local_selector :
    after [0x0F, 0x00, 0xD0] (prot.set16 .ax 0x2C) (fun t =>
      frame t == [8, 0x400, 0x7F8, 2] && words t 0x307FE 4 == [0x202, 8, 0x123, 0x2C] && t.ldtr == prot.ldtr) = true := by
  decide

/-- spec: vector 15 of R740: LTR marks its TSS busy. -/
theorem test_vector_r740_15 :
    after [0x0F, 0x00, 0xD8] (prot.set16 .ax 0x30) (fun t =>
      t.readPhys 0x10035 == 0x83 && t.tr == { sel := 0x30, base := 0x52000, limit := 0x2B, valid := true }) = true := by
  decide

/-- spec: vector 17 of R740: ARPL. -/
theorem test_vector_r740_17 :
    after [0x63, 0xCB] ((prot.set16 .bx 0x10).set16 .cx 0x1B) (fun t => t.regs.bx == 0x13 && t.flags.zf) = true := by
  decide

/-- LAR and LSL at level 3: the data segment of DPL 3 is seen, the code segment of DPL 0 is not (R691, R692). -/
theorem test_lar_seen :
    after [0x0F, 0x02, 0xC3] (user.set16 .bx 0x4B) (fun t => t.regs.ax == 0xF200 && t.flags.zf) = true := by decide

theorem test_lsl_not_seen :
    after [0x0F, 0x03, 0xC3] (user.set16 .bx 8) (fun t => t.regs.ax == 0 && !t.flags.zf) = true := by decide

/-- VERR of execute-only code and VERW of a writable segment (R693, R694). -/
theorem test_verr_execute_only :
    after [0x0F, 0x00, 0xE3] (prot.set16 .bx 0x70) (fun t => !t.flags.zf) = true := by decide

theorem test_verw_writable :
    after [0x0F, 0x00, 0xEB] (prot.set16 .bx 0x10) (fun t => t.flags.zf && t.readPhys 0x10015 == 0x93) = true := by decide

/-- spec: vector Y3: LMSW at level 3 is #GP(0). -/
theorem test_vector_Y3 :
    after [0x0F, 0x01, 0xF0] user (fun t => frame t == [8, 0x400, 0x7F4, 0x3002] && t.msw == prot.msw) = true := by decide

/-- LMSW sets PE and does not clear it (R680). -/
theorem test_lmsw_keeps_pe :
    after [0x0F, 0x01, 0xF0] (prot.set16 .ax 0x0008) (fun t =>
      t.msw == { pe := true, mp := false, em := false, ts := true }) = true := by decide

/-- spec: vector Y5: SGDT, five of its six bytes. -/
theorem test_vector_Y5 :
    after [0x0F, 0x01, 0x07]
      { real.set16 .bx 0x500 with gdtr := { base := 0x12000, limit := 0x3FF }, memMap := [⟨0x10505, 1, .rom⟩] } (fun t =>
      [t.readPhys 0x10500, t.readPhys 0x10501, t.readPhys 0x10502, t.readPhys 0x10503, t.readPhys 0x10504] ==
        [0xFF, 0x03, 0x00, 0x20, 0x01]) = true := by decide

/-- LIDT ignores the sixth byte (R673). -/
theorem test_lidt :
    after [0x0F, 0x01, 0x1F] (put 0x10500 [0xFF, 0x03, 0x00, 0x20, 0x01, 0xEE] (real.set16 .bx 0x500)) (fun t =>
      t.idtr == { base := 0x12000, limit := 0x3FF }) = true := by decide

/-- spec: vector Y6: CLTS. -/
theorem test_vector_Y6 :
    after [0x0F, 0x06] { prot with msw := { pe := true, mp := true, em := false, ts := true } } (fun t =>
      t.msw.toWord == 0xFFF3) = true := by decide

/-- spec: vector M8: a null selector in DS at level 3. -/
theorem test_vector_M8 :
    after [0x8E, 0xD8] user (fun t => t.ds.sel == 0 && !t.ds.valid && t.ip == 0x458) = true := by decide

/-- spec: vector M9: a null selector in SS is #GP(0). -/
theorem test_vector_M9 :
    after [0x8E, 0xD0] prot (fun t =>
      frame t == [8, 0x400, 0x7F8, 2] && words t 0x307FE 4 == [0x202, 8, 0x123, 0]) = true := by decide

/-- spec: vector 1 of R770: WAIT with nothing to wait for. -/
theorem test_vector_r770_1 : after [0x9B] real (fun t => t.ip == 0x101 && t.hostOut == []) = true := by decide

/-- spec: vector 12 of R770: WAIT while BUSY. -/
theorem test_vector_r770_12 : after [0x9B] { real with npxBusy := true } (fun t => t.ip == 0x100) = true := by decide

/-- spec: vector X1: an ESC with nothing to hinder it is sent. -/
theorem test_esc_is_sent :
    after [0xD9, 0xE8] real (fun t => t.ip == 0x102 && t.hostOut == [HostEvent.esc 0xD9 0xE8 none]) = true := by decide

/-- spec: vector 11 of R770, the ESC: FSAVE checks the first word, at 002CH, and completes. -/
theorem test_vector_r770_11 :
    after [0xDD, 0x36, 0x2C, 0x00] { prot with ip := 0x100, ds := seg 0x10 0x30000 0x50 0x93 } (fun t =>
      t.ip == 0x104 &&
      t.channel == .moving { seg := seg 0x10 0x30000 0x50 0x93, prot := true, next := 0x2C, store := true }) = true := by
  decide

/-- The NPX then stores 19 words; the last of them would end at 0051H. -/
def r770v11 : State :=
  { put 0x70048 [0, 9, 8, 0, 0, 0x86, 0, 0] prot with
    channel := .moving { seg := seg 0x10 0x30000 0x50 0x93, prot := true, next := 0x2C, store := true }
    npxIn := .busy true :: List.replicate 19 (.write 0xFFFF) }

/-- spec: vector 11 of R770, later: the word at 0050H is not stored, BUSY stays though the NPX releases it, and
interrupt 9 comes at the next boundary. -/
theorem test_vector_r770_11_overrun :
    after [] { r770v11 with npxIn := r770v11.npxIn ++ [.busy false, .write 0xFFFF] } (fun t =>
      words t 0x30050 3 == [0, 0xFFFF, 0xFFFF] && t.busy && !t.npxBusy && !t.overrunReq &&
      t.cs.sel == 8 && t.ip == 0x902 && words t 0x307FE 3 == [0x202, 8, 0x123]) = true := by decide

/-- FNINIT ends what an overrun holds (R756). -/
theorem test_fninit_ends_overrun :
    after [0xDB, 0xE3] { real with channel := .overrun } (fun t => !t.busy && t.channel == .idle) = true := by decide

/-- With no processor extension BUSY and ERROR are inactive (D8). -/
theorem test_no_npx :
    after [0x9B] { real with npxPresent := false, npxBusy := true, npxError := true } (fun t => t.ip == 0x101) = true := by
  decide

/-- A trap held off by MOV SS comes after the whole of the repeated instruction that follows, unless single steps come at
each iteration (R552, R860). -/
theorem test_held_off_trap_waits_for_rep :
    (let t : State := { real with trapPending := true, dec := { phase := .repeating } }
     t.trapAfter true == Config.repSingleStepPerIteration) = true ∧
    ({ real with trapPending := true, dec := { phase := .waiting } } : State).trapAfter true = false := ⟨by simp [State.trapAfter], rfl⟩

/-- Eight prefixes and two bytes are ten bytes and run; nine and two are too long (R222). -/
theorem test_ten_bytes_run :
    after [0x26, 0x26, 0x26, 0x26, 0x26, 0x26, 0x26, 0x26, 0xB0, 0x01] real (fun t =>
      t.ip == 0x10A && t.regs.ax == 1) = true := by decide

theorem test_eleven_bytes_do_not_run :
    after [0x26, 0x26, 0x26, 0x26, 0x26, 0x26, 0x26, 0x26, 0x26, 0xB0, 0x01] (put 0x34 [0x00, 0x05, 0x00, 0x20] real)
      (fun t => t.ip == 0x500 && words t 0x300FE 3 == [2, 0, 0x100] && t.regs.ax == 0) = true := by decide

/-- LOCK outside the I/O privilege is #GP(0) (R608). -/
theorem test_lock_at_level_3 :
    after [0xF0, 0x90] { user with flags := { user.flags with iopl := 2 } } (fun t =>
      frame t == [8, 0x400, 0x7F4, 0x2002]) = true := by decide

/-- The unlisted encodings are refused, the undefined ones are not (R263, R264). -/
theorem test_unlisted_is_refused : refuses [0xD4, 0x0B] real .unlistedEncoding = true := by decide

/-- The first step from reset with an instruction placed runs it (note 6). -/
theorem test_with_fetch_word :
    (match step (State.reset.withFetchWord 8 0x40) with
      | .next t => t.ip == 0xFFF1 && t.regs.ax == 1
      | .fault _ => false
      | .refused _ => false) = true := by decide

/-- The opcode table numbers the first byte highest (note 1). -/
theorem test_decode_table_word : decodeTableWord 16 0xD40A = some .aam := by decide

/-! Witnesses: for each statement with hypotheses, states and operands that meet them, clause by clause -/

/-- The state and instruction a step begins with, as `StepRunsTheDecodedInstruction` names them. -/
def before (bs : List Byte) (s : State) : State := { s.placeCode 0 bs with inhibit := false, dec := {} }

theorem witness_DecodeOfEncode :
    Instr.wf (.movEwDw (.mem (.disp16 .bp 0xFFFF)) 0xFFFF) = true ∧ Instr.wf (.undef0Fxx 7) = true ∧
    Instr.wf (.xchgAxRw .di) = true ∧ Instr.wf .twoByteEscape = true ∧ Instr.nop ≠ .twoByteEscape := by decide

theorem witness_EncodeOfDecode :
    decode [0x81, 0x42, 0x7F, 0xA7, 0x01, 0x90] = .ok (.addEwDw (.mem (.disp8 .bpsi 0x7F)) 0x01A7, [0x90]) ∧
    decode [0x0F] = .ok (.twoByteEscape, []) ∧
    Instr.twoByteEscape ∉ undefinedRows ∧ Instr.twoByteEscape ∉ undefinedStackRows ∧ Instr.twoByteEscape ∉ unlistedRows ∧
    6 ≤ [0x81, 0x42, 0x7F, 0xA7, 0x01, (0x90 : Byte)].length :=
  ⟨rfl, rfl, by decide, by decide, by decide, by decide⟩

theorem witness_StepRunsTheDecodedInstruction :
    (real.placeCode 0 [0x40]).quiet = true ∧
    (∃ rest, decode (before [0x40] real).code = .ok (.incRw .ax, rest) ∧
      ∃ t, exec (.incRw .ax) ((before [0x40] real).decoded ((before [0x40] real).code.length - rest.length)) = .next t ∧
        t.dec.phase ≠ .prefixed) ∧
    (∃ rest, decode (before [0x26, 0xA4] real).code = .ok (.prefixEs, rest) ∧
      ∃ t, exec .prefixEs ((before [0x26, 0xA4] real).decoded ((before [0x26, 0xA4] real).code.length - rest.length)) =
        .next t ∧ t.dec.phase = .prefixed ∧ ∃ t', State.elements 10 t = .next t') ∧
    (∃ rest, decode (before [0xD6] real).code = .ok (.unlistedD6, rest) ∧
      ∃ r, exec .unlistedD6 ((before [0xD6] real).decoded ((before [0xD6] real).code.length - rest.length)) =
        .refused r) :=
  ⟨rfl, ⟨_, rfl, _, rfl, by decide⟩, ⟨_, rfl, _, rfl, rfl, _, rfl⟩, ⟨_, rfl, _, rfl⟩⟩

/-- No instruction is read from these bytes. -/
def undecodable (bs : List Byte) : Bool :=
  match decode bs with
  | .ok _ => false
  | .error _ => true

theorem decode_ne_ok {bs : List Byte} (h : undecodable bs = true) : ∀ x, decode bs ≠ .ok x := by
  intro x hx
  unfold undecodable at h
  rw [hx] at h
  cases h

/-- One byte of a longer instruction at FFFFH and at CS's limit, where the exception is delivered and where it is not. -/
theorem witness_StepRuns_fetch_fault :
    (let s : State := { real with ip := 0xFFFF }
     (s.placeCode 0 [0xB0]).quiet = true ∧ (∀ x, decode (before [0xB0] s).code ≠ .ok x) ∧
       ∃ t, (before [0xB0] s).exception 13 (some 0) = .next t) ∧
    (let s : State := { prot with ip := 0xFFF }
     (s.placeCode 0 [0x83]).quiet = true ∧ (∀ x, decode (before [0x83] s).code ≠ .ok x) ∧
       ∃ t, (before [0x83] s).exception 13 (some 0) = .next t) ∧
    (let s : State := { user with ip := 0xFFFF, tr := { user.tr with valid := false } }
     (s.placeCode 0 [0x0F]).quiet = true ∧ (∀ x, decode ({ before [0xC8] s with dec := { len := 9 } }).code ≠ .ok x) ∧
       ∃ r, (before [0xC8] s).exception 13 (some 0) = .refused r) :=
  ⟨⟨rfl, decode_ne_ok rfl, _, rfl⟩, ⟨rfl, decode_ne_ok rfl, _, rfl⟩, rfl, decode_ne_ok rfl, _, rfl⟩

/-- The tenth byte is the first of a longer instruction, and ten bytes are prefixes; an encoding cut short. -/
theorem witness_StepRuns_too_long :
    (∀ x, decode ({ before [0xB0, 1] real with dec := { len := 9, phase := .prefixed } }).code ≠ .ok x) ∧
    (∀ x, decode ({ before [0x90] real with dec := { len := 10, phase := .prefixed } }).code ≠ .ok x) ∧
    (Instr.wf (.enterDwDb 0x1234 5) = true ∧ encode (.enterDwDb 0x1234 5) = [0xC8, 0x34, 0x12] ++ [5]) :=
  ⟨decode_ne_ok rfl, decode_ne_ok rfl, rfl, rfl⟩

/-- An inhibited boundary is quiet whatever is due. -/
theorem witness_StepRuns_inhibited : ({ real with inhibit := true, nmiPending := true } : State).quiet = true := by decide

theorem witness_OnlyPrefixesAwaitAnInstruction :
    (∃ t, exec .nop real = .next t ∧ t.dec = {}) ∧
    (∃ t, exec .stosb { real.set16 .cx 2 with dec := { rep := some .rep, len := 2 } } = .next t ∧
      t.dec = { phase := .repeating }) ∧
    (∃ t, exec .wait { real with npxBusy := true } = .next t ∧ t.dec = { phase := .waiting }) ∧
    (∃ t, exec .prefixLock real = .next t ∧ t.dec.phase = .prefixed) :=
  ⟨⟨_, rfl, rfl⟩, ⟨_, rfl, rfl⟩, ⟨_, rfl, rfl⟩, ⟨_, rfl, rfl⟩⟩

theorem witness_StepKeepsInvariant :
    (real.placeCode 0 [0x8E, 0xD8]).Inv ∧ (∃ t, step (real.placeCode 0 [0x8E, 0xD8]) = .next t) ∧
    (prot.placeCode 0 [0x50]).Inv ∧ (∃ t, step (prot.placeCode 0 [0x50]) = .next t) :=
  ⟨⟨by decide, rfl, fun _ x => by cases x <;> decide⟩, ⟨_, rfl⟩,
    ⟨by decide, rfl, fun h => absurd h (by decide)⟩, ⟨_, rfl⟩⟩

theorem witness_ProtectionIsLeftByResetOnly :
    prot.msw.pe = true ∧ prot.resetReq = false ∧
    (∃ t, step (prot.placeCode 0 [0x0F, 0x01, 0xF0]) = .next t) ∧
    (∃ t, step (prot.placeCode 0 [0xEA, 0x00, 0x00, 0x30, 0x00]) = .next t) :=
  ⟨rfl, rfl, ⟨_, rfl⟩, ⟨_, rfl⟩⟩

theorem witness_UserInstructionsLeaveSystemState :
    user.prot = true ∧ user.cpl ≠ 0 ∧ (∃ t, exec .popf user = .next t ∧ t.msw.ts = false) ∧
    (∃ t, exec (.intDb 0x21) user = .next t) ∧
    (let s : State := { user with flags := { user.flags with iopl := 2, ie := false } }
     s.prot = true ∧ s.flags.iopl < s.cpl ∧ s.flags.ie = false ∧ ∃ t, exec .popf s = .next t ∧ t.msw.ts = false) ∧
    (let s : State := { user with tr := { user.tr with limit := 40 }, flags := { user.flags with iopl := 2 } }
     s.prot = true ∧ s.cpl ≠ 0 ∧ s.tr.limit.toNat < 41 ∧ s.flags.iopl < s.cpl ∧ ∃ t, exec .popf s = .next t) ∧
    (let s : State := { user with tr := { user.tr with valid := false }, msw := { user.msw with ts := true } }
     s.prot = true ∧ s.cpl ≠ 0 ∧ s.tr.valid = false ∧ ∃ t, exec .popf s = .next t) :=
  ⟨rfl, by decide, ⟨_, rfl, rfl⟩, ⟨_, rfl⟩, ⟨rfl, by decide, rfl, _, rfl, rfl⟩,
    ⟨rfl, by decide, by decide, by decide, _, rfl⟩, rfl, by decide, rfl, _, rfl⟩

theorem witness_ResetOverridesEverything : ({ prot with resetReq := true, runState := .shutdown } : State).resetReq = true :=
  rfl

theorem witness_ShutdownAndHalt :
    (let s : State := { prot with runState := .shutdown, intr := some 0, trapPending := true, npxIn := [.busy true] }
     s.runState = .shutdown ∧ s.resetReq = false ∧ s.nmiPending = false) ∧
    (let s : State := { prot with runState := .shutdown, nmiPending := true, nmiInService := true }
     s.runState = .shutdown ∧ s.resetReq = false ∧ s.nmiInService = true) ∧
    (let s : State := { real with runState := .shutdown, nmiPending := true, npxIn := [.error true] }
     s.runState = .shutdown ∧ s.resetReq = false ∧ s.nmiPending = true ∧ s.nmiInService = false ∧
     let b := s.npxStep
     ∃ t, { b with nmiPending := false, nmiInService := true }.enter
        { vec := 2, kind := .ext, ret := s.ip, code := none } = .ok t) ∧
    (let s : State := { prot with runState := .shutdown, nmiPending := true, idtr := { base := 0, limit := 0x16 } }
     s.runState = .shutdown ∧ s.resetReq = false ∧ s.nmiPending = true ∧ s.nmiInService = false ∧
     let b := s.npxStep
     ∃ v c l, { b with nmiPending := false, nmiInService := true }.enter
        { vec := 2, kind := .ext, ret := s.ip, code := none } = .error (.exc v c l)) ∧
    (let s : State := { real with runState := .halted, intr := some 8, overrunReq := true, npxPresent := false }
     s.runState = .halted ∧ s.resetReq = false ∧ s.npxIn = [] ∧ s.inhibit = false ∧ s.trapPending = false ∧
     s.nmiPending = false ∧ s.overrunDue = false ∧ s.flags.ie = false) :=
  ⟨⟨rfl, rfl, rfl⟩, ⟨rfl, rfl, rfl⟩, ⟨rfl, rfl, rfl, rfl, _, rfl⟩, ⟨rfl, rfl, rfl, rfl, _, _, _, rfl⟩,
    rfl, rfl, rfl, rfl, rfl, rfl, rfl, rfl⟩

theorem witness_RealModeEvents :
    (real.resetReq = false ∧ ({ real with npxPresent := false, npxIn := [.busy true] } : State).npxPresent = false) ∧
    (let s : State := { real with inhibit := true, nmiPending := true }
     s.resetReq = false ∧ s.npxIn = [] ∧ s.runState = .running ∧ s.inhibit = true) ∧
    (let s : State := { real with trapPending := true }
     s.resetReq = false ∧ s.npxIn = [] ∧ s.runState ≠ .shutdown ∧ s.inhibit = false ∧ s.trapPending = true ∧
     s.nmiPending = false ∧ s.overrunDue = false ∧ s.canEnterReal 1 = true) ∧
    (let s : State := { real with nmiPending := true, intr := some 0, runState := .halted }
     s.resetReq = false ∧ s.npxIn = [] ∧ s.runState ≠ .shutdown ∧ s.inhibit = false ∧ s.trapPending = false ∧
     s.nmiPending = true ∧ s.nmiInService = false ∧ s.canEnterReal 2 = true) ∧
    (let s : State := { real with overrunReq := true, intr := some 0, runState := .halted }
     s.resetReq = false ∧ s.npxIn = [] ∧ s.runState ≠ .shutdown ∧ s.inhibit = false ∧ s.trapPending = false ∧
     s.nmiPending = false ∧ s.nmiInService = false ∧ s.overrunReq = true ∧ s.npxPresent = true ∧
     s.canEnterReal 9 = true) ∧
    (let s : State := { real with
        intr := some 0xFF, overrunReq := true, nmiInService := true, flags := { real.flags with ie := true } }
     s.resetReq = false ∧ s.npxIn = [] ∧ s.runState ≠ .shutdown ∧ s.inhibit = false ∧ s.trapPending = false ∧
     s.nmiPending = false ∧ s.overrunDue = false ∧ s.intr = some 0xFF ∧ s.flags.ie = true ∧
     s.canEnterReal 0xFF = true) := by decide

/-- An overrun delivered through the IDT of protected mode. -/
theorem witness_RealModeEvents_protected :
    let s : State := { put 0x70048 [0, 9, 8, 0, 0, 0x86, 0, 0] prot with overrunReq := true, intr := some 0x20 }
    let r : Request := { due := s.overrunDue, vec := 9, left := { s with overrunReq := false } }
    s.resetReq = false ∧ s.npxIn = [] ∧ s.runState ≠ .shutdown ∧ s.inhibit = false ∧
    s.requests = s.requests.take 2 ++ r :: s.requests.drop 3 ∧ (∀ q ∈ s.requests.take 2, q.due = false) ∧ r.due = true ∧
    ∃ t, { r.left with runState := .running }.deliver { vec := 9, kind := .ext, ret := s.ip, code := none } = .ok t ∧
      t.runState = .running ∧ ∀ q ∈ t.requests, q.due = false :=
  ⟨rfl, rfl, by decide, rfl, rfl, by decide, rfl, _, rfl, rfl, by decide⟩

/-- Real mode with the handlers of interrupts 1, 2, 3 and 9 at 2000:0500, 0600, 0700 and 0900, each a NOP. -/
def handlers : State :=
  put 0x20500 [0x90] (put 0x20600 [0x90] (put 0x20900 [0x90]
    (put 0x04 [0x00, 0x05, 0x00, 0x20, 0x00, 0x06, 0x00, 0x20, 0x00, 0x07, 0x00, 0x20]
      (put 0x24 [0x00, 0x09, 0x00, 0x20] real))))

/-- The frames left after the requests of a boundary have been taken. -/
def taken (s : State) (p : State → Bool) : Bool :=
  !s.resetReq && s.npxIn.isEmpty && s.runState != .shutdown && !s.inhibit &&
    match s.takeRequests 4 with
    | .ok t => p t
    | .error _ => false

/-- Two requests due at one boundary, the later one any of the three. -/
theorem witness_RealModeEvents_nested :
    taken { handlers with trapPending := true, nmiPending := true } (fun t =>
      words t 0x300FE 6 == [2, 0, 0x100, 2, 0x2000, 0x500] && t.ip == 0x600 && t.nmiInService) = true ∧
    taken { handlers with trapPending := true, overrunReq := true, runState := .halted } (fun t =>
      words t 0x300FE 6 == [2, 0, 0x100, 2, 0x2000, 0x500] && t.ip == 0x900 && t.runState == .running) = true ∧
    taken { handlers with
        nmiPending := true, overrunReq := true, intr := some 3, flags := { handlers.flags with ie := true } } (fun t =>
      words t 0x300FE 3 == [0x202, 0, 0x100] && t.ip == 0x600 && t.overrunReq && t.intr == some 3) = true ∧
    taken { put 0x70008 [0, 9, 8, 0, 0, 0x87, 0, 0] prot with trapPending := true, intr := some 0x20 } (fun t =>
      words t 0x307FE 6 == [0x202, 8, 0x123, 0x202, 8, 0x900] && t.ip == 0x600 && t.intr == none &&
        t.hostOut == [HostEvent.lock, .intAck, .lock, .lock]) = true := by decide

/-- The single-step interrupt with NMI on top of it, whose handler's first instruction runs in the same step (R810). -/
theorem test_trap_and_nmi :
    (match step { handlers with trapPending := true, nmiPending := true } with
      | .next t => frame t == [0x2000, 0x601, 0xF4, 2] && words t 0x300FE 6 == [2, 0, 0x100, 2, 0x2000, 0x500]
      | .fault _ => false
      | .refused _ => false) = true := by decide

theorem witness_ReadAfterWrite : real.ram (wordCells 0xFFFFFF) := by
  intro a h
  rcases List.mem_cons.mp h with rfl | h
  · rfl
  · rcases List.mem_cons.mp h with rfl | h
    · rfl
    · cases h

theorem witness_ReferenceChecks :
    real.prot = false ∧ prot.prot = true ∧ prot.canRead .ds 0x0FFE 2 = true ∧ prot.canRead .ds 0x0FFF 2 = false ∧
    real.canWrite .ds 0xFFFE 2 = true ∧ real.canWrite .ds 0xFFFF 2 = false ∧
    (let s : State := { prot with ds := seg 0x10 0x30000 0xFFE 0x97 }
     s.canRead .ds 0xFFF 1 = true ∧ s.canRead .ds 0xFFE 1 = false ∧ s.canRead .ds 0xFFFF 2 = false) := by decide

/-- The references of an instruction but the `k`-th pass, that one, through `x`, fails. -/
def failsAt (s : State) (i : Instr) (k : Nat) (x : SReg) : Bool :=
  ((s.references i).take k).all s.permits &&
    match (s.references i).drop k with
    | [] => false
    | r :: _ => !s.permits r && r.seg == x

theorem failing {s : State} {i : Instr} {k : Nat} {x : SReg} (h : failsAt s i k x = true) :
    ∃ pre r post, s.references i = pre ++ r :: post ∧ (∀ q ∈ pre, s.permits q = true) ∧ s.permits r = false ∧
      r.seg = x := by
  unfold failsAt at h
  rw [Bool.and_eq_true] at h
  obtain ⟨h1, h2⟩ := h
  split at h2
  · cases h2
  · rename_i r post hd
    simp only [Bool.and_eq_true, Bool.not_eq_true', beq_iff_eq] at h2
    exact ⟨_, r, post, (List.take_append_drop k _).symm.trans (by rw [hd]), List.all_eq_true.mp h1, h2.1, h2.2⟩

/-- The first reference and the second, through SS, DS and ES, at the end of a segment and for want of a right. -/
theorem witness_ReferenceChecks_fault :
    (let s := prot.set16 .bp 0xFFF
     failsAt s (.movRwEw .ax (.mem (.disp8 .bp 0))) 0 .ss = true ∧ failsAt s .leave 0 .ss = true ∧
       failsAt s (.movAxXw 0x0FFF) 0 .ds = true ∧ failsAt s (.cmpEbDb (.mem (.direct 0x1000)) 1) 0 .ds = true ∧
       failsAt s (.ldsRwEd .bx (.mem (.direct 0xFFD))) 0 .ds = true) ∧
    (let s : State := { prot with ds := seg 0x10 0x30000 0xFFF 0x91 }
     failsAt s (.addEbRb (.mem (.direct 0xFFF)) .al) 1 .ds = true ∧ failsAt s (.incEw (.mem (.direct 0xFFE))) 1 .ds = true ∧
       failsAt s (.popMw (.mem (.direct 0))) 1 .ds = true ∧ failsAt s (.movEbDb (.mem (.direct 0)) 1) 0 .ds = true) ∧
    (let s := (prot.set16 .sp 1).set16 .di 0x1000
     failsAt s (.pushMw (.mem (.direct 0))) 1 .ss = true ∧ failsAt s .pushf 0 .ss = true ∧
       failsAt s (.enterDwDb 4 2) 0 .ss = true ∧ failsAt s .movsb 1 .es = true ∧ failsAt s .stosb 0 .es = true) ∧
    (let s : State := { (prot.set16 .si 0xFFF).set16 .cx 1 with dec := { rep := some .rep } }
     failsAt s .lodsw 0 .ds = true ∧ failsAt { s with dec := { rep := some .repne } } .cmpsw 0 .ds = true) ∧
    (let s := real.set16 .sp 1
     failsAt s (.callCw 4) 0 .ss = true ∧ failsAt s (.xchgEwRw (.mem (.direct 0xFFFF)) .ax) 0 .ds = true ∧
       failsAt (real.set16 .sp 0xFFFF) .retNear 0 .ss = true) := by decide

/-- The operands of the system instructions at the end of a segment and for want of a right, and ENTER's new SP. -/
theorem witness_ReferenceChecks_system :
    (let m : E16 := .mem (.direct 0xFFF)
     let t : E16 := .mem (.direct 0xFFB)
     failsAt prot (.lldtEw m) 0 .ds = true ∧ failsAt prot (.ltrEw m) 0 .ds = true ∧
       failsAt user (.verrEw m) 0 .ds = true ∧ failsAt user (.verwEw m) 0 .ds = true ∧
       failsAt user (.larRwEw .ax m) 0 .ds = true ∧ failsAt user (.lslRwEw .ax m) 0 .ds = true ∧
       failsAt user (.sldtEw m) 0 .ds = true ∧ failsAt user (.strEw m) 0 .ds = true ∧
       failsAt user (.arplEwRw m .ax) 0 .ds = true ∧ failsAt prot (.lmswEw m) 0 .ds = true ∧
       failsAt real (.lmswEw (.mem (.direct 0xFFFF))) 0 .ds = true ∧
       failsAt prot (.lgdtM t) 0 .ds = true ∧ failsAt prot (.lidtM t) 0 .ds = true) ∧
    (let s : State := { (user.set16 .ax 3) with ds := seg 0x4B 0x60000 0xFFF 0xF1 }
     failsAt s (.arplEwRw (.mem (.direct 0)) .ax) 1 .ds = true) ∧
    (let s := user.set16 .sp 4
     failsAt s (.enterDwDb 3 0) 1 .ss = true ∧ failsAt s (.enterDwDb 1 1) 2 .ss = true) := by decide

/-- An operand of a read-only segment, where ADC, SBB, RCL, RCR and XCHG are refused their write. -/
theorem witness_ReferenceChecks_refused :
    let s : State := { prot with ds := seg 0x10 0x30000 0xFFF 0x91 }
    s.canReadE8 (.mem (.direct 0xFFF)) = true ∧ s.canWriteE8 (.mem (.direct 0xFFF)) = false ∧
      s.canReadE16 (.mem (.direct 0xFFE)) = true ∧ s.canWriteE16 (.mem (.direct 0xFFE)) = false ∧
      AluOp.adc.ewDb.isSome = true := by decide

theorem witness_MovMovesItsSource :
    prot.canWriteE8 (.mem (.direct 0x0FFF)) = true ∧ prot.canWriteE16 (.mem (.direct 0x0FFE)) = true ∧
    prot.canReadE8 (.mem (.direct 0x0FFF)) = true ∧ prot.canReadE16 (.mem (.direct 0x0FFE)) = true ∧
    real.canReadE8 (.mem (.direct 0xFFFF)) = true ∧ real.canWriteE16 (.mem (.direct 0xFFFE)) = true ∧
    real.canReadE16 (.reg .sp) = true := by decide

theorem witness_RealModeSegmentLoads :
    real.prot = false ∧ real.canReadE16 (.mem (.direct 0xFFFE)) = true ∧
    ({ real with regs := { real.regs with sp := 0xFFFE } } : State).canRead .ss 0xFFFE 2 = true ∧
    real.canReadMem (.direct 0xFFFC) 4 = true := by decide

theorem witness_ProtectedModeSegmentLoads :
    (let s := prot.set16 .ax 0x10
     s.canReadE16 (.reg .ax) = true ∧ s.loadsData 0x10 (s.descAt 0x10010) = true ∧
        s.loadsStack 0x10 (s.descAt 0x10010) = true) ∧
    (let s := user.set16 .ax 0x53
     s.val16 (.reg .ax) = 0x53 ∧ s.loadsData 0x53 (s.descAt 0x10050) = true) ∧
    (let s := put 0x30800 [0x10, 0] prot
     s.canRead .ss s.regs.sp 2 = true ∧ s.readPhys16 (s.stackAddr 0) = 0x10 ∧
        s.loadsData 0x10 (s.descAt 0x10010) = true ∧ s.loadsStack 0x10 (s.descAt 0x10010) = true) ∧
    (let s := put 0x30FFC [0, 0, 0x13, 0] prot
     s.canReadMem (.direct 0x0FFC) 4 = true ∧ s.readPhys16 (s.addr (.direct 0x0FFC) + 2) = 0x13 ∧
        s.loadsData 0x13 (s.descAt 0x10010) = false ∧ s.loadsData 0x48 (s.descAt 0x10048) = true) ∧
    (let s := put 0x60FFC [0, 0, 0x4B, 0] user
     s.canReadMem (.direct 0x0FFC) 4 = true ∧ s.readPhys16 (s.addr (.direct 0x0FFC) + 2) = 0x4B ∧
        s.loadsData 0x4B (s.descAt 0x10048) = true) ∧
    (let s := user.set16 .ax 3
     s.canReadE16 (.reg .ax) = true ∧ s.prot = true ∧ (s.val16 (.reg .ax)).toNat < 4) ∧
    (let s := put 0x60200 [3, 0] user
     s.canRead .ss s.regs.sp 2 = true ∧ s.prot = true ∧ (s.readPhys16 (s.stackAddr 0)).toNat < 4) ∧
    (let s := put 0x60FFC [7, 7, 3, 0] user
     s.canReadMem (.direct 0x0FFC) 4 = true ∧ s.prot = true ∧
        (s.readPhys16 (s.addr (.direct 0x0FFC) + 2)).toNat < 4) := by decide

theorem witness_SegmentLoadExceptions :
    prot.prot = true ∧ prot.canReadE16 (.reg .ax) = true ∧
    ((prot.set16 .ax 3).val16 (.reg .ax)).toNat < 4 ∧
    (4 ≤ ((prot.set16 .ax 0x78).val16 (.reg .ax)).toNat ∧ (prot.set16 .ax 0x78).desc? 0x78 = none) ∧
    (4 ≤ ((prot.set16 .ax 4).val16 (.reg .ax)).toNat ∧ (prot.set16 .ax 4).desc? 4 = none) ∧
    (prot.desc? 0x08 = some (prot.descAt 0x10008) ∧ (prot.descAt 0x10008).isWritableData = false) ∧
    (prot.desc? 0x11 = some (prot.descAt 0x10010) ∧ rplOf 0x11 ≠ prot.cpl) ∧
    (prot.desc? 0x48 = some (prot.descAt 0x10048) ∧ arDpl (prot.descAt 0x10048).ar ≠ prot.cpl) ∧
    (prot.desc? 0x68 = some (prot.descAt 0x10068) ∧ (prot.descAt 0x10068).isWritableData = true ∧ rplOf 0x68 = prot.cpl ∧
      arDpl (prot.descAt 0x10068).ar = prot.cpl ∧ arPresent (prot.descAt 0x10068).ar = false ∧
      (prot.descAt 0x10068).isDataOrReadable = true ∧ prot.mayUse 0x68 (prot.descAt 0x10068) = true) ∧
    (prot.desc? 0x70 = some (prot.descAt 0x10070) ∧ (prot.descAt 0x10070).isDataOrReadable = false) ∧
    (user.desc? 0x10 = some (user.descAt 0x10010) ∧ (user.descAt 0x10010).isConforming = false ∧
      user.mayUse 0x10 (user.descAt 0x10010) = false) := by decide

/-- The forms that load a segment register with one selector, its boundary values among them. -/
theorem witness_SegmentLoadExceptions_forms :
    prot.loadsSsFrom (.movSsEw (.reg .bx)) 0 ∧ (put 0x30800 [0x68, 0] prot).loadsSsFrom .popSs 0x68 ∧
    prot.loadsDataFrom (.movDsEw (.reg .bx)) 0 ∧ (put 0x30800 [4, 0] prot).loadsDataFrom .popEs 4 ∧
    (put 0x30FFC [0, 0, 0x78, 0] prot).loadsDataFrom (.lesRwEd .cx (.mem (.direct 0xFFC))) 0x78 :=
  ⟨.inl ⟨_, rfl, rfl, rfl⟩, .inr ⟨rfl, rfl, rfl⟩, .inl ⟨_, rfl, rfl, .head _⟩,
    .inr (.inl ⟨rfl, rfl, .tail _ (.head _)⟩), .inr (.inr ⟨_, _, rfl, rfl, .tail _ (.head _)⟩)⟩

theorem witness_Pushes :
    prot.canWrite .ss (prot.regs.sp - 2) 2 = true ∧ prot.canReadE16 (.mem (.direct 0x0FFE)) = true ∧
    ({ real with regs := { real.regs with sp := 0 } } : State).canWrite .ss (0 - 2) 2 = true ∧
    ({ real with regs := { real.regs with sp := 2 } } : State).canWrite .ss (2 - 2) 2 = true := by decide

theorem witness_PopsIntoRegistersMemoryAndFlags :
    prot.canRead .ss prot.regs.sp 2 = true ∧ prot.canWriteE16 (.mem (.direct 0x0FFE)) = true ∧
    user.canRead .ss user.regs.sp 2 = true ∧ user.cpl.toNat ≤ user.flags.iopl.toNat ∧
    ({ real with regs := { real.regs with sp := 0xFFFE } } : State).canRead .ss 0xFFFE 2 = true := by decide

/-- A decision for the bytes of a list. -/
def isRam (s : State) (l : List PAddr) : Bool := l.all fun a => kindAt s.memMap a == .ram

theorem ram_of_isRam (s : State) (l : List PAddr) (h : isRam s l = true) : s.ram l := by
  intro a ha
  have := List.all_eq_true.mp h a ha
  exact of_decide_eq_true this

theorem witness_PushaAndPopa :
    (prot.canPush 8 = true ∧ 16 ≤ prot.regs.sp.toNat) ∧
    (let s := real.set16 .sp 0; s.canPush 8 = true ∧ s.prot = false ∧ s.regs.sp = 0) ∧
    (let s : State := { prot with ss := seg 0x10 0x30000 0xFFFF 0x93, regs := { prot.regs with sp := 0xFFF0 } }
     (∀ k < 8, s.canRead .ss (s.regs.sp + BitVec.ofNat 16 (2 * k)) 2 = true) ∧ s.regs.sp.toNat ≤ 0xFFF0) ∧
    (let s := real.set16 .sp 0xFFF8
     (∀ k < 8, s.canRead .ss (s.regs.sp + BitVec.ofNat 16 (2 * k)) 2 = true) ∧ s.prot = false) ∧
    prot.ram (prot.pushCells 8) ∧ ∃ t, exec .pusha prot = .next t :=
  ⟨by decide, by decide, by decide, by decide, ram_of_isRam _ _ (by decide), _, rfl⟩

/-- A word that fails with no wrap, and the wrapping stack pointers at both ends of their ranges. -/
theorem witness_PushaAndPopa_failing :
    (let s : State := { prot with ss := seg 0x10 0x30000 0x7FE 0x93 }; s.canPush 8 = false ∧ 16 ≤ s.regs.sp.toNat) ∧
    (let s := real.set16 .sp 1; s.canPush 8 = false ∧ s.prot = false) ∧
    (let s := prot.set16 .sp 0xFFE
     s.canRead .ss (s.regs.sp + BitVec.ofNat 16 (2 * 1)) 2 = false ∧ s.regs.sp.toNat ≤ 0xFFF0) ∧
    (let s := real.set16 .sp 0xFFF5; s.canRead .ss (s.regs.sp + BitVec.ofNat 16 (2 * 5)) 2 = false ∧ s.prot = false) ∧
    (prot.prot = true ∧ 0 < (prot.set16 .sp 1).regs.sp.toNat ∧ (prot.set16 .sp 15).regs.sp.toNat < 16) ∧
    (0xFFF0 < (prot.set16 .sp 0xFFF1).regs.sp.toNat ∧ 0xFFF0 < (prot.set16 .sp 0xFFFF).regs.sp.toNat) := by decide

theorem witness_ExchangesAndTransfers :
    prot.canWriteE8 (.mem (.direct 0x0FFF)) = true ∧ prot.canWriteE16 (.mem (.direct 0x0FFE)) = true ∧
    (let s := (prot.set16 .bx 0x0FF0).set8 .al 0x0F
     s.canRead (s.override .ds) (s.regs.bx + BitVec.ofNat 16 (s.get8 .al).toNat) 1 = true) ∧
    (let s := (real.set16 .bx 0xFFFF).set8 .al 0xFF
     s.canRead (s.override .ds) (s.regs.bx + BitVec.ofNat 16 (s.get8 .al).toNat) 1 = true) := by decide

/-- Operands that can be read and written, at the last offset a limit allows. -/
theorem witness_operands :
    prot.canWriteE8 (.mem (.direct 0x0FFF)) = true ∧ prot.canReadE8 (.mem (.direct 0x0FFF)) = true ∧
    prot.canWriteE16 (.mem (.direct 0x0FFE)) = true ∧ prot.canReadE16 (.mem (.direct 0x0FFE)) = true ∧
    real.canWriteE16 (.mem (.direct 0xFFFE)) = true ∧ real.canWriteE8 (.reg .ah) = true := by decide

theorem witness_TwoOperandArithmetic :
    prot.canWriteE8 (.mem (.direct 0x0FFF)) = true ∧ prot.canReadE8 (.mem (.direct 0x0FFF)) = true ∧
    prot.canWriteE16 (.mem (.direct 0x0FFE)) = true ∧ prot.canReadE16 (.mem (.direct 0x0FFE)) = true ∧
    AluOp.sbb.ewDb = some .sbbEwDb :=
  ⟨by decide, by decide, by decide, by decide, rfl⟩

theorem witness_ComparesWriteFlagsOnly :
    prot.canReadE8 (.mem (.direct 0x0FFF)) = true ∧ prot.canReadE16 (.mem (.direct 0x0FFE)) = true := by decide

theorem witness_UnaryArithmetic :
    prot.canWriteE8 (.mem (.direct 0x0FFF)) = true ∧ prot.canWriteE16 (.mem (.direct 0x0FFE)) = true := by decide

theorem witness_Multiplication :
    prot.canReadE8 (.mem (.direct 0x0FFF)) = true ∧ prot.canReadE16 (.mem (.direct 0x0FFE)) = true := by decide

/-- 255 = 85 * 3 + 0 and the largest quotients and remainders; FF80H / 1 = 80H, the least quotient IDIV has. -/
theorem witness_Division :
    (let s := (real.set16 .ax 0xFFFE).set8 .bl 0xFF
     s.canReadE8 (.reg .bl) = true ∧ 254 < (s.val8 (.reg .bl)).toNat ∧ s.regs.ax.toNat = 256 * 255 + 254 ∧
     2 ^ 8 * (s.val8 (.reg .bl)).toNat ≤ s.regs.ax.toNat) ∧
    (let s := (real.set16 .ax 0xFEFF).set8 .bl 0xFF
     254 < (s.val8 (.reg .bl)).toNat ∧ 255 < 2 ^ 8 ∧ s.regs.ax.toNat = 255 * (s.val8 (.reg .bl)).toNat + 254) ∧
    (let s := ((real.set16 .ax 0xFFFF).set16 .dx 0xFFFE).set16 .bx 0xFFFF
     s.canReadE16 (.reg .bx) = true ∧ 65534 < (s.val16 (.reg .bx)).toNat ∧
     s.regs.dx.toNat * 2 ^ 16 + s.regs.ax.toNat = 65535 * (s.val16 (.reg .bx)).toNat + 65534) ∧
    (let s := (real.set16 .ax 0xFF80).set8 .bl 1
     (-2 ^ 7 : Int) ≤ -128 ∧ (0 : Int).natAbs < (s.val8 (.reg .bl)).toInt.natAbs ∧ 0 ≤ 0 * s.regs.ax.toInt ∧
     s.regs.ax.toInt = -128 * (s.val8 (.reg .bl)).toInt + 0) ∧
    (let s := (real.set16 .ax 0xFFF9).set8 .bl 2
     (-1 : Int).natAbs < (s.val8 (.reg .bl)).toInt.natAbs ∧ 0 ≤ -1 * s.regs.ax.toInt ∧
     s.regs.ax.toInt = -3 * (s.val8 (.reg .bl)).toInt + -1) ∧
    (let s := ((real.set16 .ax 0x8000).set16 .dx 0xFFFF).set16 .bx 1
     let n := s.regs.dx.toInt * 2 ^ 16 + s.regs.ax.toNat
     (0 : Int).natAbs < (s.val16 (.reg .bx)).toInt.natAbs ∧ 0 ≤ 0 * n ∧ n = -32768 * (s.val16 (.reg .bx)).toInt + 0) ∧
    (((real.set8 .bl 0).val8 (.reg .bl)).toNat = 0 ∧ ((real.set16 .bx 0).val16 (.reg .bx)).toNat = 0) ∧
    (let s := ((real.set16 .ax 0).set16 .dx 1).set16 .bx 1
     2 ^ 16 * (s.val16 (.reg .bx)).toNat ≤ s.regs.dx.toNat * 2 ^ 16 + s.regs.ax.toNat) := by decide

/-- 128 / 1 is no quotient IDIV has. -/
theorem witness_Division_signed_error :
    (let s := (real.set16 .ax 0x0080).set8 .bl 1
     ∀ q : Int, -2 ^ 7 ≤ q → q < 2 ^ 7 → q ≠ s.regs.ax.toInt.tdiv (s.val8 (.reg .bl)).toInt) ∧
    (let s := ((real.set16 .ax 0).set16 .dx 0x8000).set16 .bx 0xFFFF
     let m := s.regs.dx.toInt * 2 ^ 16 + s.regs.ax.toNat
     ∀ q : Int, -2 ^ 15 ≤ q → q < 2 ^ 15 → q ≠ m.tdiv (s.val16 (.reg .bx)).toInt) := by
  constructor
  · intro s q _ h e
    rw [e] at h
    exact absurd h (by decide)
  · intro s m q _ h e
    rw [e] at h
    exact absurd h (by decide)

theorem witness_ShiftsAndRotates :
    prot.canWriteE8 (.mem (.direct 0x0FFF)) = true ∧ prot.canWriteE16 (.mem (.direct 0x0FFE)) = true := by decide

theorem witness_PackedDecimalArithmetic :
    99 < 100 ∧ (real.set8 .al 0x99).get8 .al = BitVec.ofNat 8 (99 / 10 * 16 + 99 % 10) ∧
    (∃ t, exec (.addAlDb 0x99) (real.set8 .al 0x99) = .next t ∧ ∃ u, exec .daa t = .next u) ∧
    (∃ t, exec (.subAlDb 0x99) (real.set8 .al 0x00) = .next t ∧ ∃ u, exec .das t = .next u) :=
  ⟨by decide, by decide, ⟨_, rfl, _, rfl⟩, ⟨_, rfl, _, rfl⟩⟩

theorem witness_ConditionalJumps :
    (∀ j ∈ conditionalJumps, (∃ f ∈ [({ real.flags with of := true, cf := true, zf := true, sf := true, pf := true } : Flags),
      real.flags, { real.flags with sf := true }], j.2 f = true) ∧
      ∃ f ∈ [({ real.flags with of := true, cf := true, zf := true, sf := true, pf := true } : Flags),
      real.flags, { real.flags with sf := true }], j.2 f = false) ∧
    real.targetOk (real.target (0x80 : Byte).toInt) = true ∧
    (let s : State := { prot with ip := 0xF80 }
     s.targetOk (s.target (0x7F : Byte).toInt) = true ∧ s.target (0x7F : Byte).toInt = s.cs.limit) ∧
    real.regs.cx = 0 ∧ (real.set16 .cx 0xFFFF).regs.cx ≠ 0 ∧ (real.set16 .cx 1).regs.cx = 1 ∧ real.regs.cx ≠ 1 := by
  decide

theorem witness_JumpsOrderComparedOperands :
    (real.set16 .ax 0x8000).get16 .ax = 0x8000 ∧
    ∃ t, exec (.cmpAxDw 0x7FFF) (real.set16 .ax 0x8000) = .next t ∧ t.prot = false :=
  ⟨rfl, _, rfl, rfl⟩

theorem witness_NearTransfers :
    (let s : State := { prot with ip := 0xF80 }
     s.targetOk (s.target (0x7F : Byte).toInt) = true ∧ s.targetOk (s.target (0x7F : Word).toInt) = true ∧
     s.canWrite .ss (s.regs.sp - 2) 2 = true) ∧
    (let s := put16 0x30FFE 0xFFF prot
     s.canReadE16 (.mem (.direct 0xFFE)) = true ∧ s.targetOk (s.val16 (.mem (.direct 0xFFE))) = true) ∧
    (let s := put16 0x30800 0xFFF prot
     s.canRead .ss s.regs.sp 2 = true ∧ s.targetOk (s.readPhys16 (s.stackAddr 0)) = true) ∧
    (let s : State := { prot with ip := 0xF81 }
     s.prot = true ∧ s.cs.limit < s.target (0x7F : Byte).toInt ∧ s.cs.limit < s.target (0x7F : Word).toInt ∧
     s.canWrite .ss (s.regs.sp - 2) 2 = true ∧ s.regs.cx = 0 ∧ s.regs.cx ≠ 1 ∧ s.flags.zf = false) ∧
    (let s := put16 0x30FFE 0x1000 prot
     s.canReadE16 (.mem (.direct 0xFFE)) = true ∧ s.cs.limit < s.val16 (.mem (.direct 0xFFE))) ∧
    (let s := put16 0x30800 0x1000 prot
     s.canRead .ss s.regs.sp 2 = true ∧ s.cs.limit < s.readPhys16 (s.stackAddr 0)) := by decide

theorem witness_RealModeFarTransfers :
    real.prot = false ∧ real.canReadMem (.direct 0xFFFC) 4 = true ∧ (real.set16 .sp 0).canPush 2 = true ∧
    (let s := real.set16 .sp 0xFFFE
     s.canRead .ss s.regs.sp 2 = true ∧ s.canRead .ss (s.regs.sp + 2) 2 = true) := by decide

theorem witness_ProtectedFarTransfersSameLevel :
    (prot.prot = true ∧ 4 ≤ (0x08 : Word).toNat ∧ prot.desc? 0x08 = some (prot.descAt 0x10008) ∧
      (prot.descAt 0x10008).isCode = true ∧ arPresent (prot.descAt 0x10008).ar = true ∧
      (prot.descAt 0x10008).isConforming = false ∧ (rplOf 0x08).toNat ≤ prot.cpl.toNat ∧
      arDpl (prot.descAt 0x10008).ar = prot.cpl ∧ (0xFFF : Word).toNat ≤ (prot.descAt 0x10008).limit.toNat ∧
      prot.canPush 2 = true) ∧
    (user.prot = true ∧ user.desc? 0x50 = some (user.descAt 0x10050) ∧ (user.descAt 0x10050).isCode = true ∧
      arPresent (user.descAt 0x10050).ar = true ∧ (user.descAt 0x10050).isConforming = true ∧
      (arDpl (user.descAt 0x10050).ar).toNat ≤ user.cpl.toNat) ∧
    (let s := put 0x30FFC [0xFF, 0x0F, 8, 0] prot
     s.canReadMem (.direct 0xFFC) 4 = true ∧ s.readPhys16 (s.addr (.direct 0xFFC) + 2) = 0x08 ∧
     (s.readPhys16 (s.addr (.direct 0xFFC))).toNat ≤ (s.descAt 0x10008).limit.toNat) ∧
    (let s := put 0x60200 [0xFF, 0xFF, 0x1B, 0] user
     (s.reading .target).desc? 0x1B = some (s.descAt 0x10018) ∧ (s.descAt 0x10018).isCode = true ∧ rplOf 0x1B = s.cpl ∧
     (s.descAt 0x10018).isConforming = false ∧ arDpl (s.descAt 0x10018).ar = s.cpl ∧
     s.canRead .ss s.regs.sp 2 = true ∧ s.canRead .ss (s.regs.sp + 2) 2 = true ∧
     s.readPhys16 (s.stackAddr 2) = 0x1B ∧
     (s.readPhys16 (s.stackAddr 0)).toNat ≤ (s.descAt 0x10018).limit.toNat) := by decide

/-- What a call gate that a far JMP or CALL may go through names. -/
def throughGate (s : State) (sel : Word) (g c : Desc) : Bool :=
  s.prot && decide (4 ≤ sel.toNat) && s.desc? sel == some g && arIsType g.ar 4 && s.mayUse sel g && arPresent g.ar &&
    decide (4 ≤ g.gateSel.toNat) && (s.reading .target).desc? g.gateSel == some c && c.isCode

theorem witness_ProtectedFarTransfersSameLevel_gate :
    (let c := prot.descAt 0x10008
     throughGate prot 0x58 (prot.descAt 0x10058) c = true ∧ c.isConforming = false ∧ arDpl c.ar = prot.cpl ∧
     arPresent c.ar = true ∧ (prot.descAt 0x10058).gateOffset.toNat ≤ c.limit.toNat ∧ prot.canPush 2 = true) ∧
    (let s := put 0x10058 [0xFF, 0x0F, 0x50] user
     let c := s.descAt 0x10050
     throughGate s 0x5B (s.descAt 0x10058) c = true ∧ c.isConforming = true ∧ (arDpl c.ar).toNat ≤ s.cpl.toNat ∧
     (s.descAt 0x10058).gateOffset.toNat = c.limit.toNat) ∧
    (let c := user.descAt 0x10008
     throughGate user 0x5B (user.descAt 0x10058) c = true ∧ c.isConforming = false ∧ arDpl c.ar ≠ user.cpl) ∧
    (let s := put 0x10055 [0xFE] (put 0x1005A [0x50] prot)
     let c := s.descAt 0x10050
     throughGate s 0x58 (s.descAt 0x10058) c = true ∧ s.cpl.toNat < (arDpl c.ar).toNat) := by decide

theorem witness_farForm :
    prot.farForm .jmp 5 0x58 (.jmpCd 5 0x58) ∧ prot.farForm .call 5 0x58 (.callCd 5 0x58) ∧
    (put 0x30FFC [0, 0, 0x58, 0] prot).farForm .jmp 5 0x58 (.jmpEd (.mem (.direct 0xFFC))) ∧
    (put 0x30FFC [0, 0, 0x58, 0] prot).farForm .call 5 0x58 (.callEd (.mem (.direct 0xFFC))) :=
  ⟨.inl rfl, .inl rfl, .inr ⟨_, rfl, rfl, rfl⟩, .inr ⟨_, rfl, rfl, rfl⟩⟩

/-- The caller of the two-parameter gate 0058, with room for exactly eight words on the inner stack. -/
def gateCaller : State := put 0x51002 [0x10, 0] (put 0x60200 [0xAA, 0xAA, 0xBB, 0xBB] user)

theorem witness_CallGateToInnerLevel :
    let s := gateCaller
    let g := s.descAt 0x10058
    let c := s.descAt 0x10008
    let d := s.descAt 0x10010
    let ps : List Word := [0xAAAA, 0xBBBB]
    let l := arDpl c.ar
    let nsp := (s.reading .innerStack).readPhys16 (s.tr.base + BitVec.ofNat 24 (4 * l.toNat + 2))
    let nss := (s.reading .innerStack).readPhys16 (s.tr.base + BitVec.ofNat 24 (4 * l.toNat + 4))
    s.prot = true ∧ 4 ≤ (0x5B : Word).toNat ∧ s.desc? 0x5B = some g ∧ arIsType g.ar 4 = true ∧ s.mayUse 0x5B g = true ∧
    arPresent g.ar = true ∧ 4 ≤ g.gateSel.toNat ∧ (s.reading .target).desc? g.gateSel = some c ∧ c.isCode = true ∧ c.isConforming = false ∧
    l.toNat < s.cpl.toNat ∧ arPresent c.ar = true ∧ s.tr.valid = true ∧ 4 * l.toNat + 5 ≤ s.tr.limit.toNat ∧
    4 ≤ nss.toNat ∧ (s.reading .stackSeg).desc? nss = some d ∧ rplOf nss = l ∧ arDpl d.ar = l ∧ d.isWritableData = true ∧
    arPresent d.ar = true ∧ (∀ k < 6, (d.loaded nss).inLimit (nsp - BitVec.ofNat 16 (2 * (k + 1))) 2 = true) ∧
    ([s.ss.sel, s.regs.sp] ++ ps.reverse ++ [s.cs.sel, s.nextIp]).length = 6 ∧ g.gateOffset.toNat ≤ c.limit.toNat ∧
    ps.length = g.wordCount ∧
    (∀ k < 2, s.canRead .ss (s.regs.sp + BitVec.ofNat 16 (2 * k)) 2 = true ∧
      ps[k]? = some ((s.reading .parameters).readPhys16 (s.stackAddr (BitVec.ofNat 16 (2 * k))))) := by decide

/-- What a far RET with `n` bytes of parameters to level 3 needs. -/
def returnsOut (s : State) (c d : Desc) (n : Word) : Bool :=
  let w (k : Word) : Word := s.readPhys16 (s.stackAddr k)
  let o (k : Word) : Word := (s.reading .outerStack).readPhys16 (s.stackAddr k)
  let l := rplOf (w 2)
  s.prot && decide (s.cpl.toNat < l.toNat) &&
    ((List.range (8 + n.toNat)).all fun k => s.canRead .ss (s.regs.sp + BitVec.ofNat 16 k) 1) &&
    ([0, 2, 4 + n, 6 + n].all fun k => s.canRead .ss (s.regs.sp + k) 2) &&
    decide (4 ≤ (w 2).toNat) && (s.reading .target).desc? (w 2) == some c && c.isCode &&
    (c.isConforming && decide ((arDpl c.ar).toNat ≤ l.toNat) || !c.isConforming && arDpl c.ar == l) &&
    arPresent c.ar && decide ((w 0).toNat ≤ c.limit.toNat) && decide (4 ≤ (o (6 + n)).toNat) &&
    (s.reading .stackSeg).desc? (o (6 + n)) == some d && rplOf (o (6 + n)) == l && arDpl d.ar == l && d.isWritableData &&
    arPresent d.ar

/-- With four bytes of parameters that end where the stack does, and with none, to conforming code. -/
theorem witness_CallGateToInnerLevel_return :
    (let s := put 0x30FF4 [0xFF, 0xFF, 0x1B, 0, 0xAA, 0xAA, 0xBB, 0xBB, 0x00, 0x02, 0x4B, 0] (prot.set16 .sp 0xFF4)
     returnsOut s (s.descAt 0x10018) (s.descAt 0x10048) 4 = true) ∧
    (let s := put 0x30FF8 [0xFF, 0x0F, 0x53, 0, 0x00, 0x02, 0x4B, 0] (prot.set16 .sp 0xFF8)
     returnsOut s (s.descAt 0x10050) (s.descAt 0x10048) 0 = true) := by decide

theorem witness_FarTransferExceptions :
    prot.prot = true ∧ (3 : Word).toNat < 4 ∧ (4 ≤ (0x78 : Word).toNat ∧ prot.desc? 0x78 = none) ∧
    (4 ≤ (4 : Word).toNat ∧ prot.desc? 4 = none) ∧
    (prot.desc? 0x18 = some (prot.descAt 0x10018) ∧ (prot.descAt 0x10018).isCode = true ∧
      (prot.descAt 0x10018).isConforming = false ∧ arDpl (prot.descAt 0x10018).ar ≠ prot.cpl) ∧
    (prot.desc? 0x09 = some (prot.descAt 0x10008) ∧ (rplOf 0x09).toNat > prot.cpl.toNat) ∧
    (let s := put 0x10055 [0xFE] prot
     s.desc? 0x50 = some (s.descAt 0x10050) ∧ (s.descAt 0x10050).isCode = true ∧
     (s.descAt 0x10050).isConforming = true ∧ (arDpl (s.descAt 0x10050).ar).toNat > s.cpl.toNat) ∧
    (prot.desc? 0x60 = some (prot.descAt 0x10060) ∧ (prot.descAt 0x10060).isCode = true ∧
      (prot.descAt 0x10060).isConforming = false ∧ (rplOf 0x60).toNat ≤ prot.cpl.toNat ∧
      arDpl (prot.descAt 0x10060).ar = prot.cpl ∧ arPresent (prot.descAt 0x10060).ar = false) ∧
    (let s := put 0x10055 [0x1E] prot
     s.desc? 0x50 = some (s.descAt 0x10050) ∧ (s.descAt 0x10050).isConforming = true ∧
     (arDpl (s.descAt 0x10050).ar).toNat ≤ s.cpl.toNat ∧ arPresent (s.descAt 0x10050).ar = false) ∧
    (prot.desc? 0x10 = some (prot.descAt 0x10010) ∧ (prot.descAt 0x10010).isCode = false ∧
      ∀ k ∈ [1, 3, 4, 5], arIsType (prot.descAt 0x10010).ar k = false) ∧
    (prot.desc? 0x28 = some (prot.descAt 0x10028) ∧ (prot.descAt 0x10028).isCode = false ∧
      ∀ k ∈ [1, 3, 4, 5], arIsType (prot.descAt 0x10028).ar k = false) := by decide

/-- By a far pointer in memory. -/
theorem witness_farTo :
    prot.farTo .jmp 5 0x58 (.jmpCd 5 0x58) ∧
    (put 0x30FFC [5, 0, 0x58, 0] prot).farTo .call 5 0x58 (.callEd (.mem (.direct 0xFFC))) :=
  ⟨⟨.inl rfl, by simp⟩, .inr ⟨_, rfl, rfl, rfl⟩, by
    intro m h
    simp only [List.mem_cons, reduceCtorEq, Instr.callEd.injEq, E16.mem.injEq, List.not_mem_nil, false_or, or_false] at h
    subst h
    rfl⟩

/-- Each test of a far JMP or CALL to a code segment fails: a null selector, one outside its table, the level, presence, room
for what CALL pushes, the offset; and no descriptor of a transfer. -/
theorem witness_FarTransferExceptions_tests :
    firstFailing (prot.farTests .jmp 0 3) = some (excGp 0) ∧
    firstFailing (prot.farTests .call 0 0x78) = some (excGp 0x78) ∧
    firstFailing (user.farTests .jmp 0 0x0B) = some (excGp 8) ∧
    firstFailing (prot.farTests .call 0 0x60) = some (excNp 0x60) ∧
    firstFailing ((prot.set16 .sp 2).farTests .call 0 8) = some (excSs 0) ∧
    firstFailing (prot.farTests .jmp 0x1000 8) = some (excGp 0) ∧
    firstFailing (prot.farTests .jmp 0 0x10) = some (excGp 0x10) := by decide

/-- The tests of a call gate. -/
theorem witness_FarTransferExceptions_call_gate :
    firstFailing ((put 0x1005D [0x84] user).farTests .call 0 0x5B) = some (excGp 0x58) ∧
    firstFailing ((put 0x1005D [0x64] user).farTests .jmp 0 0x5B) = some (excNp 0x58) ∧
    firstFailing ((put 0x1005A [0] user).farTests .call 0 0x5B) = some (excGp 0) ∧
    firstFailing ((put 0x1005A [0x78] user).farTests .call 0 0x5B) = some (excGp 0x78) ∧
    firstFailing (user.farTests .jmp 0 0x5B) = some (excGp 8) ∧
    firstFailing ((put 0x1005A [0x60] user).farTests .call 0 0x5B) = some (excNp 0x60) ∧
    firstFailing ((put 0x10058 [0, 0x10, 0x50] user).farTests .jmp 0 0x5B) = some (excGp 0) := by decide

/-- The tests of a call gate to an inner level: TR, the inner stack, room on it, the offset, the parameters. -/
theorem witness_FarTransferExceptions_inner :
    firstFailing (({ user with tr := { user.tr with limit := 4 } } : State).farTests .call 0 0x5B) =
      some (.refuse .trNotLoaded) ∧
    firstFailing ((put 0x51004 [0] user).farTests .call 0 0x5B) = some (excTs 0) ∧
    firstFailing ((put 0x51004 [0x78] user).farTests .call 0 0x5B) = some (excTs 0x78) ∧
    firstFailing ((put 0x51004 [0x11] user).farTests .call 0 0x5B) = some (excTs 0x10) ∧
    firstFailing ((put 0x10015 [0x12] user).farTests .call 0 0x5B) = some (excSs 0x10) ∧
    firstFailing ((put 0x51002 [0x0B, 0] user).farTests .call 0 0x5B) = some (excSs 0) ∧
    firstFailing ((put 0x10058 [0, 0x10] user).farTests .call 0 0x5B) = some (excGp 0) ∧
    firstFailing ((user.set16 .sp 0xFFD).farTests .call 0 0x5B) = some (excSs 0) := by decide

/-- The tests of a task gate and of a TSS descriptor. -/
theorem witness_FarTransferExceptions_tasks :
    firstFailing (user.farTests .jmp 0 0x38) = some (excGp 0x38) ∧
    firstFailing ((put 0x1003D [5] prot).farTests .call 0 0x38) = some (excNp 0x38) ∧
    firstFailing ((put 0x1003A [0x34] prot).farTests .jmp 0 0x38) = some (excGp 0x34) ∧
    firstFailing ((put 0x1003A [0x20] prot).farTests .call 0 0x38) = some (excGp 0x20) ∧
    firstFailing ((put 0x10035 [1] prot).farTests .jmp 0 0x38) = some (excNp 0x30) ∧
    firstFailing (({ prot with ldtr := { sel := 0x28, base := 0x10000, limit := 0x37, valid := true } } : State).farTests
      .jmp 0 0x34) = some (.refuse .tssInLdt) ∧
    firstFailing (user.farTests .call 0 0x30) = some (excGp 0x30) ∧
    firstFailing (prot.farTests .jmp 0 0x20) = some (excGp 0x20) ∧
    firstFailing ((put 0x10035 [1] prot).farTests .call 0 0x30) = some (excNp 0x30) := by decide

/-- The tests of far RET to its own level, at both ends of the stack, and to an outer one. -/
theorem witness_CallGateToInnerLevel_tests :
    firstFailing ((user.set16 .sp 0xFFD).retFarTests 0) = some (excSs 0) ∧
    firstFailing ((put 0x60202 [8] user).retFarTests 4) = some (excGp 8) ∧
    firstFailing ((put 0x60202 [3] user).retFarTests 0) = some (excGp 0) ∧
    firstFailing ((put 0x60202 [0x4B] user).retFarTests 0) = some (excGp 0x48) ∧
    firstFailing ((put 0x1001D [0x7A] (put 0x60202 [0x1B] user)).retFarTests 0) = some (excNp 0x18) ∧
    firstFailing ((put 0x60001 [0x1B] (user.set16 .sp 0xFFFF)).retFarTests 0) = some (excSs 0) ∧
    firstFailing ((put 0x10018 [0xFF, 0x0F] (put 0x60200 [0, 0x10, 0x1B] user)).retFarTests 0) = some (excGp 0) ∧
    firstFailing ((put 0x30FFA [0, 0, 0x1B] (prot.set16 .sp 0xFFA)).retFarTests 0) = some (excSs 0) ∧
    firstFailing ((put 0x30800 [0, 0, 0x1B, 0, 0, 2, 3] prot).retFarTests 0) = some (excGp 0) ∧
    firstFailing ((put 0x30800 [0, 0, 0x1B, 0, 0, 0, 0, 2, 0x10] prot).retFarTests 2) = some (excGp 0x10) ∧
    firstFailing ((put 0x1004D [0x72] (put 0x30800 [0, 0, 0x1B, 0, 0, 2, 0x4B] prot)).retFarTests 0) =
      some (excSs 0x48) := by decide

theorem witness_RealModeInterrupts :
    real.prot = false ∧ real.canEnterReal 0xFF = true ∧ real.canEnterReal 3 = true ∧
    (let s := (setf real fun f => { f with of := true }).set16 .sp 6
     s.flags.of = true ∧ s.canEnterReal 4 = true) ∧
    (let s : State := { real with idtr := { base := 0, limit := 0x13 } }
     s.flags.of = false ∧ s.canEnterReal 4 = true ∧ s.canEnterReal 5 = false) ∧
    (let s := real.set16 .sp 0xFFFC
     s.canRead .ss s.regs.sp 2 = true ∧ s.canRead .ss (s.regs.sp + 2) 2 = true ∧
     s.canRead .ss (s.regs.sp + 4) 2 = true) := by decide

theorem witness_IretUndoesRealModeEntry :
    real.prot = false ∧ real.ram (real.pushCells 3) ∧ real.cs = real.cs.real real.cs.sel ∧
    ∃ t, real.enter { vec := 0xFF, kind := .ext, ret := 0xFFFF, code := none } = .ok t :=
  ⟨rfl, ram_of_isRam _ _ (by decide), by decide, _, rfl⟩

theorem witness_ProtectedEntrySameLevel :
    (let s := prot
     let e : Event := { vec := 13, kind := .exc, ret := s.ip, code := some 0 }
     let g := (s.attempt 1).descAt (s.idtr.base + BitVec.ofNat 24 (8 * e.vec.toNat))
     let c := s.descAt 0x10008
     s.prot = true ∧ 8 * e.vec.toNat + 7 ≤ s.idtr.limit.toNat ∧ arIsType g.ar 6 = true ∧ arPresent g.ar = true ∧
       4 ≤ g.gateSel.toNat ∧ ((s.attempt 1).reading .target).desc? g.gateSel = some c ∧ c.isCode = true ∧ arDpl c.ar = s.cpl ∧ arPresent c.ar = true ∧
       s.canPush 4 = true ∧ g.gateOffset.toNat ≤ c.limit.toNat) ∧
    (let s := put 0x7010A [0x50] user
     let e : Event := { vec := 0x21, kind := .sw, ret := s.nextIp, code := none }
     let g := (s.attempt 1).descAt (s.idtr.base + BitVec.ofNat 24 (8 * e.vec.toNat))
     let c := s.descAt 0x10050
     s.prot = true ∧ 8 * e.vec.toNat + 7 ≤ s.idtr.limit.toNat ∧ arIsType g.ar 7 = true ∧
       s.cpl.toNat ≤ (arDpl g.ar).toNat ∧ arPresent g.ar = true ∧ 4 ≤ g.gateSel.toNat ∧ ((s.attempt 1).reading .target).desc? g.gateSel = some c ∧
       c.isCode = true ∧ c.isConforming = true ∧ (arDpl c.ar).toNat ≤ s.cpl.toNat ∧ arPresent c.ar = true ∧
       s.canPush 3 = true ∧ g.gateOffset.toNat ≤ c.limit.toNat) := by decide

/-- The tests of a delivery on the vector and the gate, with the EXT bit of an external event and of exception 7. -/
theorem witness_ProtectedEntrySameLevel_gate :
    let sw (vec : Byte) : Event := { vec, kind := .sw, ret := 0x125, code := none }
    let ext (vec : Byte) : Event := { vec, kind := .ext, ret := 0x123, code := none }
    let a : State := prot.attempt 1
    let b : State := user.attempt 1
    (a.goesInside (sw 0x22) = false ∧ firstFailing (a.entryTests (sw 0x22)) = some (excGp 0x112)) ∧
    (a.goesInside (ext 0x22) = false ∧ firstFailing (a.entryTests (ext 0x22)) = some (excGp 0x113)) ∧
    (a.goesInside (sw 0x1F) = false ∧ firstFailing (a.entryTests (sw 0x1F)) = some (excGp 0xFA)) ∧
    firstFailing (b.entryTests (sw 0x20)) = some (excGp 0x102) ∧
    firstFailing (a.entryTests { ext 7 with kind := .exc }) = some (excNp 0x3B) ∧
    firstFailing (a.entryTests (sw 7)) = some (excNp 0x3A) := by decide

/-- The tests of a delivery at its own level on the segment, room and the offset, and those of a task gate. -/
theorem witness_ProtectedEntrySameLevel_tests :
    let ext (vec : Byte) : Event := { vec, kind := .ext, ret := 0x123, code := none }
    let at' (a : Nat) (bs : List Byte) : State := (put a bs prot).attempt 1
    firstFailing ((at' 0x70102 [3]).entryTests (ext 0x20)) = some (excGp 1) ∧
    firstFailing ((at' 0x70102 [0x78]).entryTests (ext 0x20)) = some (excGp 0x79) ∧
    firstFailing ((at' 0x70102 [0x10]).entryTests (ext 0x20)) = some (excGp 0x11) ∧
    firstFailing ((at' 0x70102 [0x60]).entryTests (ext 0x20)) = some (excNp 0x61) ∧
    firstFailing ((at' 0x70102 [0x18]).entryTests (ext 0x20)) = some (excGp 0x19) ∧
    firstFailing (((prot.set16 .sp 4).attempt 1).entryTests (ext 0x20)) = some (excSs 1) ∧
    ((at' 0x70100 [0, 0x10]).goesInside (ext 0x20) = false ∧
      firstFailing ((at' 0x70100 [0, 0x10]).entryTests (ext 0x20)) = some (excGp 1)) ∧
    firstFailing ((at' 0x70042 [0x34]).entryTests (ext 8)) = some (excGp 0x35) ∧
    firstFailing ((at' 0x70042 [0x20]).entryTests (ext 8)) = some (excGp 0x21) ∧
    ((at' 0x10035 [1]).goesInside (ext 8) = false ∧
      firstFailing ((at' 0x10035 [1]).entryTests (ext 8)) = some (excNp 0x31)) := by decide

/-- INTO with OF set and clear. -/
theorem witness_ProtectedEntrySameLevel_into :
    prot.flags.of = false ∧ (setf prot fun f => { f with of := true }).flags.of = true := by decide

theorem witness_ProtectedEntryInnerLevel :
    let s := user
    let e : Event := { vec := 0x21, kind := .sw, ret := s.nextIp, code := none }
    let g := (s.attempt 1).descAt (s.idtr.base + BitVec.ofNat 24 (8 * e.vec.toNat))
    let c := s.descAt 0x10008
    let d := s.descAt 0x10010
    let l := arDpl c.ar
    let nsp := ((s.attempt 1).reading .innerStack).readPhys16 (s.tr.base + BitVec.ofNat 24 (4 * l.toNat + 2))
    let nss := ((s.attempt 1).reading .innerStack).readPhys16 (s.tr.base + BitVec.ofNat 24 (4 * l.toNat + 4))
    let words := [s.ss.sel, s.regs.sp, s.flags.toWord, s.cs.sel, e.ret] ++ e.code.toList
    s.prot = true ∧ 8 * e.vec.toNat + 7 ≤ s.idtr.limit.toNat ∧ arIsType g.ar 7 = true ∧
    s.cpl.toNat ≤ (arDpl g.ar).toNat ∧ arPresent g.ar = true ∧ 4 ≤ g.gateSel.toNat ∧ ((s.attempt 1).reading .target).desc? g.gateSel = some c ∧
    c.isCode = true ∧ c.isConforming = false ∧ l.toNat < s.cpl.toNat ∧ arPresent c.ar = true ∧ s.tr.valid = true ∧
    4 * l.toNat + 5 ≤ s.tr.limit.toNat ∧ 4 ≤ nss.toNat ∧ ((s.attempt 1).reading .stackSeg).desc? nss = some d ∧ rplOf nss = l ∧ arDpl d.ar = l ∧
    d.isWritableData = true ∧ arPresent d.ar = true ∧
    (∀ k < words.length, (d.loaded nss).inLimit (nsp - BitVec.ofNat 16 (2 * (k + 1))) 2 = true) ∧
    g.gateOffset.toNat ≤ c.limit.toNat := by decide

/-- The tests of a delivery to an inner level. -/
theorem witness_ProtectedEntryInnerLevel_tests :
    let e : Event := { vec := 0x21, kind := .sw, ret := 0x458, code := none }
    let stops (s : State) (x : Stop) : Prop :=
      (s.attempt 1).goesInside e = true ∧ firstFailing ((s.attempt 1).entryTests e) = some x
    stops { user with tr := { user.tr with limit := 4 } } (.refuse .trNotLoaded) ∧
    stops (put 0x51004 [3] user) (excTs 0) ∧ stops (put 0x51004 [0x78] user) (excTs 0x78) ∧
    stops (put 0x51004 [8] user) (excTs 8) ∧ stops (put 0x10015 [0x12] user) (excSs 0x10) ∧
    stops (put 0x51002 [9, 0] user) (excSs 0) ∧ stops (put 0x70108 [0, 0x10] user) (excGp 0) ∧
    stops (put 0x7010D [0x67] user) (excNp 0x10A) := by decide

theorem witness_DoubleFaultAndShutdown :
    (let s := put 0x7006D [6] prot
     let e : Event := { vec := 13, kind := .exc, ret := s.ip, code := some 0 }
     e.kind = .exc ∧ e.vec ∈ [0, 10, 11, 12, 13] ∧ (∃ v c, (s.attempt 1).enter e = .error (.exc v c none)) ∧
       ∃ t, (s.attempt 3).enter { vec := 8, kind := .exc, ret := s.ip, code := some 0 } = .ok t) ∧
    (let s : State := { prot with idtr := { base := 0, limit := 0 } }
     let e : Event := { vec := 0, kind := .exc, ret := s.ip, code := none }
     e.vec ∈ [0, 10, 11, 12, 13] ∧ (∃ v c, (s.attempt 1).enter e = .error (.exc v c none)) ∧
       ∃ v c, (s.attempt 3).enter { vec := 8, kind := .exc, ret := s.ip, code := some 0 } = .error (.exc v c none)) :=
  ⟨⟨rfl, by decide, ⟨_, _, rfl⟩, _, rfl⟩, by decide, ⟨_, _, rfl⟩, _, _, rfl⟩

/-- An event that is not contributory: its second exception is delivered, or is not and the double fault is, or neither. -/
theorem witness_DoubleFaultAndShutdown_second :
    let e : Event := { vec := 0x1F, kind := .sw, ret := 0x125, code := none }
    let second (s : State) (v : Byte) (c : Word) : Event := { vec := v, kind := .exc, ret := s.ip, code := some c }
    (let s := put 0x7006D [0x86] prot
     (s.attempt 1).enter e = .error (excGp 0xFA) ∧ ∃ r, (s.attempt 2).enter (second s 13 0xFA) = .ok r) ∧
    (let s := put 0x7006D [6] prot
     (s.attempt 1).enter e = .error (excGp 0xFA) ∧ (s.attempt 2).enter (second s 13 0xFA) = .error (excNp 0x6A) ∧
       ∃ r, (s.attempt 3).enter (second s 8 0) = .ok r) ∧
    (let s : State := { prot with idtr := { base := 0x70000, limit := 0x3F } }
     (s.attempt 1).enter e = .error (excGp 0xFA) ∧ (s.attempt 2).enter (second s 13 0xFA) = .error (excGp 0x6A) ∧
       (s.attempt 3).enter (second s 8 0) = .error (excGp 0x42)) :=
  ⟨⟨rfl, _, rfl⟩, ⟨rfl, rfl, _, rfl⟩, rfl, rfl, rfl⟩

/-- A delivery that fails in the task it has switched to, a double fault that is not delivered, and in real mode a failure
that is a double fault's own. -/
theorem witness_DoubleFaultAndShutdown_left :
    (let s := put 0x52024 [0] prot
     ∃ u, (s.attempt 1).enter { vec := 8, kind := .ext, ret := s.ip, code := none } = .error (.exc 10 (some 1) (some u))) ∧
    (let s : State := { prot with idtr := { base := 0x70000, limit := 0x3F } }
     (s.attempt 1).enter { vec := 8, kind := .exc, ret := s.ip, code := some 0 } = .error (excGp 0x42)) ∧
    (let s : State := { real with idtr := { base := 0, limit := 0x23 } }
     (s.attempt 1).enter { vec := 9, kind := .sw, ret := s.nextIp, code := none } = .error (.exc 8 none none) ∧
       ∃ r, (s.attempt 3).enter { vec := 8, kind := .exc, ret := s.ip, code := some 0 } = .ok r) :=
  ⟨⟨_, rfl⟩, rfl, rfl, _, rfl⟩

theorem witness_ProtectedIretSameLevel :
    let s := put 0x60200 [0xFF, 0xFF, 0x1B, 0, 0x02, 0x72] user
    let c := s.descAt 0x10018
    let off := s.readPhys16 (s.stackAddr 0)
    let sel := s.readPhys16 (s.stackAddr 2)
    s.prot = true ∧ s.flags.nt = false ∧ s.canRead .ss s.regs.sp 2 = true ∧ s.canRead .ss (s.regs.sp + 2) 2 = true ∧
    s.canRead .ss (s.regs.sp + 4) 2 = true ∧ 4 ≤ sel.toNat ∧ (s.reading .target).desc? sel = some c ∧ c.isCode = true ∧
    rplOf sel = s.cpl ∧ c.isConforming = false ∧ arDpl c.ar = s.cpl ∧ arPresent c.ar = true ∧
    off.toNat ≤ c.limit.toNat := by decide

/-- What an IRET to an outer level needs. -/
def iretsOut (s : State) (c d : Desc) : Bool :=
  let w (k : Word) : Word := s.readPhys16 (s.stackAddr k)
  let l := rplOf (w 2)
  s.prot && !s.flags.nt && decide (s.cpl.toNat < l.toNat) &&
    ([0, 2, 4, 6, 8].all fun k => s.canRead .ss (s.regs.sp + k) 2) &&
    decide (4 ≤ (w 2).toNat) && (s.reading .target).desc? (w 2) == some c && c.isCode && !c.isConforming &&
    arDpl c.ar == l && arPresent c.ar && decide ((w 0).toNat ≤ c.limit.toNat) && decide (4 ≤ (w 8).toNat) &&
    (s.reading .stackSeg).desc? (w 8) == some d && rplOf (w 8) == l && arDpl d.ar == l && d.isWritableData &&
    arPresent d.ar

theorem witness_ProtectedIretSameLevel_outer :
    (let s := put 0x30FF6 [0xFF, 0xFF, 0x1B, 0, 0x02, 0x72, 0x00, 0x02, 0x4B, 0] (prot.set16 .sp 0xFF6)
     iretsOut s (s.descAt 0x10018) (s.descAt 0x10048)) = true := by decide

/-- The tests of IRET to its own level and to an outer one. -/
theorem witness_ProtectedIretSameLevel_tests :
    prot.prot = true ∧ prot.flags.nt = false ∧ user.flags.nt = false ∧
    firstFailing ((user.set16 .sp 0xFFD).iretTests) = some (excSs 0) ∧
    firstFailing ((put 0x60202 [8] user).iretTests) = some (excGp 8) ∧
    firstFailing ((put 0x60FFE [0x1B] (user.set16 .sp 0xFFC)).iretTests) = some (excSs 0) ∧
    firstFailing ((put 0x60202 [0x7B] user).iretTests) = some (excGp 0x78) ∧
    firstFailing ((put 0x1001D [0x7A] (put 0x60202 [0x1B] user)).iretTests) = some (excNp 0x18) ∧
    firstFailing ((put 0x10018 [0xFF, 0x0F] (put 0x60200 [0, 0x10, 0x1B] user)).iretTests) = some (excGp 0) ∧
    firstFailing ((put 0x30FF9 [0x1B] (prot.set16 .sp 0xFF7)).iretTests) = some (excSs 0) ∧
    firstFailing ((put 0x30802 [0x1B, 0, 0, 0, 0, 2, 0] prot).iretTests) = some (excGp 0) ∧
    firstFailing ((put 0x1004D [0x72] (put 0x30802 [0x1B, 0, 0, 0, 0, 2, 0x4B] prot)).iretTests) =
      some (excSs 0x48) := by decide

theorem witness_TaskSwitchLoadsTheTask :
    (∃ t, prot.switchTasks 0x30 (prot.descAt 0x10030) true .call 0x105 0 = .ok t) ∧
    (∃ t, prot.switchTasks 0x30 (prot.descAt 0x10030) false .jmp 0x105 0 = .ok t) := ⟨⟨_, rfl⟩, _, rfl⟩

/-- A task switch completes, in a task whose offset and limit of CS pass the test. -/
def switches (s : State) (nd : Desc) (nesting : Bool) (cause : SwitchCause) (p : Nat → Nat → Bool) : Bool :=
  match s.switchTasks 0x30 nd nesting cause s.nextIp 0 with
  | .ok n => p n.ip.toNat n.cs.limit.toNat
  | .error _ => false

theorem switched {s : State} {nd : Desc} {nesting : Bool} {cause : SwitchCause} {p : Nat → Nat → Bool}
    (h : switches s nd nesting cause p = true) :
    ∃ n, s.switchTasks 0x30 nd nesting cause s.nextIp 0 = .ok n ∧ p n.ip.toNat n.cs.limit.toNat = true := by
  unfold switches at h
  split at h
  · exact ⟨_, ‹_›, h⟩
  · cases h

/-- By its own descriptor and through the task gate 0038, to an offset inside its code segment and one byte outside. -/
theorem witness_TaskSwitchLoadsTheTask_transfers :
    (prot.prot = true ∧ prot.desc? 0x30 = some (prot.descAt 0x10030) ∧ prot.mayUse 0x30 (prot.descAt 0x10030) = true ∧
      arPresent (prot.descAt 0x10030).ar = true ∧ (0x30 : Word).getLsbD 2 = false ∧
      arIsType (prot.descAt 0x10030).ar 1 = true) ∧
    (prot.desc? 0x38 = some (prot.descAt 0x10038) ∧ prot.mayUse 0x38 (prot.descAt 0x10038) = true ∧
      arIsType (prot.descAt 0x10038).ar 5 = true ∧ (prot.descAt 0x10038).gateSel = 0x30 ∧
      (0x30 : Word).toNat / 8 * 8 + 7 ≤ prot.gdtr.limit.toNat ∧
      (prot.reading .target).descAt (prot.gdtr.base + 0x30) = prot.descAt 0x10030) ∧
    switches prot (prot.descAt 0x10030) false .jmp (fun ip limit => ip ≤ limit) = true ∧
    (let s := put 0x5200E [0x00, 0x10] prot
     switches s (s.descAt 0x10030) true .call (fun ip limit => limit + 1 = ip) = true) := by decide

/-- An event passes every test of the task gate it finds in the IDT, and the switch completes in a state that passes `p`. -/
def switchesForEvent (s : State) (e : Event) (x : Word) (p : State → Bool) : Bool :=
  let a1 := s.attempt 1
  let g := a1.descAt (s.idtr.base + BitVec.ofNat 24 (8 * e.vec.toNat))
  let td := (a1.reading .target).descAt (s.gdtr.base + BitVec.ofNat 24 (g.gateSel.toNat / 8 * 8))
  s.prot && decide (8 * e.vec.toNat + 7 ≤ s.idtr.limit.toNat) && arIsType g.ar 5 &&
    (e.kind != .sw || decide (s.cpl.toNat ≤ (arDpl g.ar).toNat)) && arPresent g.ar && !g.gateSel.getLsbD 2 &&
    decide (g.gateSel.toNat / 8 * 8 + 7 ≤ s.gdtr.limit.toNat) && arIsType td.ar 1 && arPresent td.ar &&
    match a1.switchTasks g.gateSel td true .int e.ret x with
    | .ok n => decide (n.ip.toNat ≤ n.cs.limit.toNat) && p n
    | .error _ => false

/-- A software interrupt, an external one, an exception with an error code and exception 7, through task gates. -/
theorem witness_TaskSwitchLoadsTheTask_interrupts :
    (let s : State := { prot with idtr := { prot.idtr with limit := 0x47 } }
     switchesForEvent s { vec := 8, kind := .sw, ret := 0x125, code := none } 0 (fun _ => true) = true ∧
       switchesForEvent s { vec := 8, kind := .ext, ret := 0x123, code := none } 1 (fun _ => true) = true ∧
       switchesForEvent s { vec := 8, kind := .exc, ret := 0x123, code := some 0 } 0
         (fun n => n.canWrite .ss (n.regs.sp - 2) 2) = true) ∧
    switchesForEvent (put 0x7003A [0x30, 0, 0, 0x85] prot) { vec := 7, kind := .exc, ret := 0x123, code := none } 1
      (fun _ => true) = true := by decide

/-- The task of TSS 0020 was called by that of TSS 0030. -/
def nested : State := put 0x51000 [0x30, 0] (put 0x10035 [0x83] { prot with flags := { prot.flags with nt := true } })

theorem witness_TaskSwitchLoadsTheTask_iret :
    (nested.prot = true ∧ nested.flags.nt = true ∧ (nested.reading .backLink).readPhys16 nested.tr.base = 0x30 ∧
      arIsType ((nested.reading .target).descAt 0x10030).ar 3 = true ∧
      arPresent ((nested.reading .target).descAt 0x10030).ar = true ∧
      switches nested ((nested.reading .target).descAt 0x10030) false .iret (fun ip limit => ip ≤ limit) = true) ∧
    (let s := put 0x51000 [0x34] nested
     ((s.reading .backLink).readPhys16 s.tr.base).getLsbD 2 = true) ∧
    (let s := put 0x51000 [0x78] nested
     let bl := (s.reading .backLink).readPhys16 s.tr.base
     s.gdtr.limit.toNat + 1 = bl.toNat / 8 * 8) ∧
    (let s := put 0x10035 [0x81] nested
     arIsType ((s.reading .target).descAt 0x10030).ar 3 = false) ∧
    (let s := put 0x10035 [0x03] nested
     arIsType ((s.reading .target).descAt 0x10030).ar 3 = true ∧
       arPresent ((s.reading .target).descAt 0x10030).ar = false) ∧
    (let s := put 0x5200E [0x00, 0x10] nested
     switches s ((s.reading .target).descAt 0x10030) false .iret (fun ip limit => limit + 1 = ip) = true) := by decide

/-- The first test that fails raises exception `vec` with the code `c` in the task entered. -/
def firstFails (l : List Test) (vec : Byte) (c : Word) : Bool :=
  match firstFailing l with
  | some (.exc v k (some _)) => v == vec && k == some c
  | _ => false

/-- The task that JMP 0030 enters, in TSS 052000H, from a state with memory changed. -/
def entering (bs : List (Nat × List Byte)) : List Test :=
  let s := bs.foldl (fun s p => put p.1 p.2 s) prot
  s.switchTests 0x30 (s.descAt 0x10030) false .jmp 0x128 0

/-- No test fails, or one of them, of the outgoing TSS and the new one, of the LDT, and of SS, CS, DS and ES. -/
theorem witness_TaskSwitchLoadsTheTask_tests :
    firstFailing (entering []) = none ∧ firstFailing (entering [(0x5202A, [0x28])]) = none ∧
    (let s : State := { prot with tr := { prot.tr with limit := 0x28 } }
     (firstFailing (s.switchTests 0x30 (s.descAt 0x10030) true .call 0x128 0)).isSome = true) ∧
    firstFails (entering [(0x10030, [0x2A])]) 10 0x30 = true ∧
    firstFails (entering [(0x5202A, [0x2C])]) 10 0x2C = true ∧ firstFails (entering [(0x5202A, [0x10])]) 10 0x10 = true ∧
    firstFails (entering [(0x5202A, [0x28]), (0x1002D, [2])]) 10 0x28 = true ∧
    firstFails (entering [(0x52026, [0])]) 10 0 = true ∧ firstFails (entering [(0x52026, [0x78])]) 10 0x78 = true ∧
    firstFails (entering [(0x52026, [0x4B])]) 10 0x48 = true ∧ firstFails (entering [(0x52026, [0x68])]) 12 0x68 = true ∧
    firstFails (entering [(0x52024, [0])]) 10 0 = true ∧ firstFails (entering [(0x52024, [0x10])]) 10 0x10 = true ∧
    firstFails (entering [(0x52024, [0x60])]) 11 0x60 = true ∧
    firstFails (entering [(0x52028, [0x79])]) 10 0x78 = true ∧ firstFails (entering [(0x52022, [0x70])]) 10 0x70 = true ∧
    firstFails (entering [(0x52022, [0x68])]) 11 0x68 = true := by decide

/-- A JMP, an IRET and an interrupt whose switch comes to an exception in the task entered. -/
theorem witness_TaskSwitchLoadsTheTask_errors :
    (let s := put 0x52024 [0] prot
     ∃ e, s.switchTasks 0x30 (s.descAt 0x10030) false .jmp s.nextIp 0 = .error e) ∧
    (let s := put 0x52024 [0] nested
     ∃ e, s.switchTasks 0x30 (s.descAt 0x10030) false .iret s.nextIp 0 = .error e) ∧
    (let a1 := (put 0x52024 [0] prot).attempt 1
     ∃ e, a1.switchTasks 0x30 ((a1.reading .target).descAt 0x10030) true .int 0x123 1 = .error e) :=
  ⟨⟨_, rfl⟩, ⟨_, rfl⟩, _, rfl⟩

/-- An event whose switch completes, but not the test of the new offset or the push of its code. -/
theorem witness_TaskSwitchLoadsTheTask_after :
    let n (s : State) : Run State :=
      (s.attempt 1).switchTasks 0x30 (((s.attempt 1).reading .target).descAt 0x10030) true .int s.ip 0
    (let s := put 0x5200E [0x00, 0x10] prot
     ∃ t, n s = .ok t ∧ t.cs.limit.toNat < t.ip.toNat ∧ t.canWrite .ss (t.regs.sp - 2) 2 = true) ∧
    (let s := put 0x5201A [1, 0] prot
     ∃ t, n s = .ok t ∧ t.canWrite .ss (t.regs.sp - 2) 2 = false) :=
  ⟨⟨_, rfl, by decide, by decide⟩, _, rfl, by decide⟩

theorem witness_StringPrimitives :
    prot.dec.rep = none ∧
    (let s := (prot.set16 .si 0xFFE).set16 .di 0xFFE
     s.canRead (s.override .ds) s.regs.si 2 = true ∧ s.canWrite .es s.regs.di 2 = true ∧
       s.canRead .es s.regs.di 2 = true) ∧
    (let s := (prot.set16 .si 0xFFF).set16 .di 0xFFF
     s.canRead (s.override .ds) s.regs.si 1 = true ∧ s.canWrite .es s.regs.di 1 = true ∧
       s.canRead .es s.regs.di 1 = true) := by decide

theorem witness_RepeatedStrings :
    (let s : State := { real with dec := { rep := some .rep, len := 2 } }
     s.dec.rep = some .rep ∧ s.regs.cx = 0 ∧ (.stosw, true) ∈ s.stringElements) ∧
    (let s : State := { real.set16 .cx 1 with dec := { rep := some .repne, len := 2 } }
     s.dec.rep = some .repne ∧ Instr.scasb ∈ [Instr.cmpsb, .cmpsw, .scasb, .scasw] ∧ s.regs.cx ≠ 0 ∧
       (.scasb, true) ∈ s.stringElements) ∧
    ({ real with dec := { rep := some .repne } } : State).dec.rep = some .repne := by decide

theorem witness_PortInstructions :
    real.prot = false ∧ (user.prot = true ∧ user.cpl.toNat ≤ user.flags.iopl.toNat) ∧ user.dec.rep = none ∧
    (let s := (user.set16 .si 0xFFE).set16 .di 0xFFE
     s.canWrite .es s.regs.di 1 = true ∧ s.canWrite .es s.regs.di 2 = true ∧
       s.canRead (s.override .ds) s.regs.si 1 = true ∧ s.canRead (s.override .ds) s.regs.si 2 = true) := by decide

theorem witness_FlagAndProcessorControl :
    (user.prot = true ∧ user.cpl.toNat ≤ user.flags.iopl.toNat) ∧ prot.cpl = 0 ∧ real.cpl = 0 := by decide

/-- Two lists of addresses have none in common. -/
theorem apart (l m : List PAddr) (h : (l.all fun a => !m.contains a) = true) : ∀ a ∈ l, a ∉ m := by
  intro a ha hm
  have := List.all_eq_true.mp h a ha
  simp [hm] at this

theorem witness_EnterAndLeave :
    (let s := (prot.set16 .bp 0x900)
     let l := (3 : Byte).toNat % 32
     let n := if l = 0 then 1 else l + 1
     s.canPush n = true ∧
       (∀ k < l, 1 ≤ k → s.canRead .ss (s.regs.bp - BitVec.ofNat 16 (2 * k)) 2 = true) ∧
       s.ss.inLimit (s.regs.sp - BitVec.ofNat 16 (2 * n) - 0x7F8) 1 = true ∧
       ∃ t, exec (.enterDwDb 0x7F8 3) s = .next t) ∧
    (let s := prot.set16 .bp 0x900
     s.ram (s.pushCells 4) ∧
       ∀ k, 1 ≤ k → k < 3 → ∀ a ∈ wordCells (s.ss.lin (s.regs.bp - BitVec.ofNat 16 (2 * k))), a ∉ s.pushCells 4) ∧
    (let s := real.set16 .sp 0
     s.prot = false ∧ s.canPush 1 = true ∧ ∃ t, exec (.enterDwDb 0xFFFF 32) s = .next t) ∧
    (prot.set16 .bp 0xFFE).canRead .ss 0xFFE 2 = true := by
  refine ⟨⟨by decide, by decide, by decide, _, rfl⟩, ⟨ram_of_isRam _ _ (by decide), ?_⟩, ⟨rfl, by decide, _, rfl⟩,
    by decide⟩
  intro k h1 h3
  have : k = 1 ∨ k = 2 := by omega
  rcases this with rfl | rfl <;> exact apart _ _ (by decide)

theorem witness_BoundChecksBothLimits :
    (let s := put 0x30FFC [0x00, 0x80, 0xFF, 0x7F] prot
     s.canReadMem (.direct 0xFFC) 4 = true ∧
       (s.readPhys16 (s.addr (.direct 0xFFC))).toInt ≤ (s.get16 .ax).toInt ∧
       (s.get16 .ax).toInt ≤ (s.readPhys16 (s.addr (.direct 0xFFC) + 2)).toInt) ∧
    (let s := (put 0x30FFC [0, 0, 9, 0] prot).set16 .ax 10
     s.canReadMem (.direct 0xFFC) 4 = true ∧ (s.readPhys16 (s.addr (.direct 0xFFC) + 2)).toInt < (s.get16 .ax).toInt) ∧
    (let s := (put 0x30FFC [0, 0, 9, 0] prot).set16 .ax 0xFFFF
     (s.get16 .ax).toInt < (s.readPhys16 (s.addr (.direct 0xFFC))).toInt) ∧
    real.canReadMem (.direct 0xFFFD) 4 = false ∧
    (prot.prot = true ∧ prot.canReadMem (.disp16 .bp 0xFFFD) 4 = false ∧ prot.eaSeg (.disp16 .bp 0xFFFD) = .ss) := by decide

theorem witness_DescriptorTableRegisters :
    prot.cpl = 0 ∧ prot.canReadMem (.direct 0xFFA) 6 = true ∧
    user.canWrite (user.eaSeg (.direct 0xFFA)) (user.eaOff (.direct 0xFFA)) 6 = true := by decide

theorem witness_SystemSegmentLoads :
    (let s := prot.set16 .ax 3
     s.prot = true ∧ s.cpl = 0 ∧ s.canReadE16 (.reg .ax) = true ∧ (s.val16 (.reg .ax)).toNat < 4) ∧
    (let s := prot.set16 .ax 0x2B
     let v := s.val16 (.reg .ax)
     let d := s.descAt (s.gdtr.base + BitVec.ofNat 24 (v.toNat / 8 * 8))
     v.getLsbD 2 = false ∧ v.toNat / 8 * 8 + 7 ≤ s.gdtr.limit.toNat ∧ arPresent d.ar = true ∧ 4 ≤ v.toNat ∧
       arIsType d.ar 2 = true) ∧
    (let s : State := { prot.set16 .ax 0x40 with gdtr := { base := 0x10000, limit := 0x47 } }
     let v := s.val16 (.reg .ax)
     let d := s.descAt (s.gdtr.base + BitVec.ofNat 24 (v.toNat / 8 * 8))
     v.getLsbD 2 = false ∧ v.toNat / 8 * 8 + 7 ≤ s.gdtr.limit.toNat ∧ arPresent d.ar = true ∧
       arIsType d.ar 1 = true) := by decide

/-- Selectors that LLDT and LTR do not take: in the LDT, outside the GDT, of another type, not present. -/
theorem witness_SystemSegmentLoads_tests :
    prot.cpl = 0 ∧ 4 ≤ (0x2C : Word).toNat ∧
    firstFailing (prot.systemTests 2 0x2C 0) = some (excGp 0x2C) ∧
    firstFailing (prot.systemTests 2 0x78 0) = some (excGp 0x78) ∧
    firstFailing (prot.systemTests 2 0x31 0) = some (excGp 0x30) ∧
    firstFailing ((put 0x1002D [2] prot).systemTests 2 0x28 0) = some (excNp 0x28) ∧
    firstFailing (prot.systemTests 1 0x34 0) = some (excGp 0x34) ∧
    firstFailing (prot.systemTests 1 0x78 0) = some (excGp 0x78) ∧
    firstFailing (prot.systemTests 1 0x20 0) = some (excGp 0x20) ∧
    firstFailing ((put 0x10035 [1] prot).systemTests 1 0x30 0) = some (excNp 0x30) := by decide

theorem witness_StatusWordAndSelectors :
    prot.prot = true ∧ prot.cpl = 0 ∧ prot.canWriteE16 (.mem (.direct 0xFFE)) = true ∧
    prot.canReadE16 (.mem (.direct 0xFFE)) = true ∧ real.cpl = 0 ∧ user.cpl ≠ 0 := by decide

theorem witness_SelectorInstructions :
    (let s := (prot.set16 .bx 0x10).set16 .cx 0x1B
     s.prot = true ∧ s.canReadE16 (.reg .bx) = true ∧ (s.val16 (.reg .bx)).toNat % 4 < (s.get16 .cx).toNat % 4 ∧
       s.canWriteE16 (.reg .bx) = true) ∧
    (let s := (prot.set16 .bx 0x13).set16 .cx 0x1B
     (s.get16 .cx).toNat % 4 ≤ (s.val16 (.reg .bx)).toNat % 4) ∧
    ((prot.set16 .bx 3).val16 (.reg .bx)).toNat < 4 ∧ prot.desc? 0x78 = none ∧
    (user.desc? 0x10 = some (user.descAt 0x10010) ∧ (user.descAt 0x10010).isConforming = false ∧
      user.mayUse 0x10 (user.descAt 0x10010) = false) ∧
    (prot.desc? 0x38 = some (prot.descAt 0x10038) ∧ (prot.descAt 0x10038).hasLimit = false ∧
      (prot.descAt 0x10038).isDataOrReadable = false ∧ (prot.descAt 0x10038).isWritableData = false) ∧
    (prot.desc? 0x48 = some (prot.descAt 0x10048) ∧ prot.mayUse 0x48 (prot.descAt 0x10048) = true ∧
      (prot.descAt 0x10048).hasLimit = true ∧ (prot.descAt 0x10048).isDataOrReadable = true ∧
      (prot.descAt 0x10048).isWritableData = true) ∧
    (user.desc? 0x53 = some (user.descAt 0x10050) ∧ (user.descAt 0x10050).isConforming = true) := by decide

theorem witness_PrivilegeExceptions :
    (user.prot = true ∧ user.cpl ≠ 0) ∧ real.prot = false ∧
    (let s : State := { user with flags := { user.flags with iopl := 2 } }
     s.prot = true ∧ s.flags.iopl.toNat < s.cpl.toNat ∧ s.dec.rep = none) ∧
    (let s : State := { user.set16 .cx 1 with flags := { user.flags with iopl := 0 }, dec := { rep := some .rep } }
     s.flags.iopl.toNat < s.cpl.toNat ∧ s.dec.rep = some .rep ∧ s.regs.cx ≠ 0) := by decide

theorem witness_WaitAndEsc :
    (real.busy = false ∧ real.msw.mp = false ∧ real.mathError = false ∧ real.msw.em = false ∧ real.msw.ts = false ∧
      real.canWrite (real.eaSeg (.direct 0xFFFE)) (real.eaOff (.direct 0xFFFE)) 2 = true ∧
      encode (.esc 5 4 (.mem (.direct 0xFFFE))) = 0xDD :: 0x26 :: [0xFE, 0xFF] ∧
      encode (.esc 7 4 (.reg .ax)) = 0xDF :: 0xE0 :: [] ∧ encode (.esc 3 4 (.reg .bx)) = 0xDB :: 0xE3 :: []) ∧
    (let s : State := { user with ds := { user.ds with ar := 0xF1 } }
     s.busy = false ∧ s.canRead .ds 0xFFE 2 = true ∧ escWrites 5 4 = false) ∧
    (let s : State := { real with msw := { real.msw with mp := true, em := true }, npxError := true }
     s.busy = false ∧ s.msw.ts = false ∧ s.msw.em = true) ∧
    (let s : State := { real with msw := { real.msw with mp := true, ts := true } }
     s.msw.mp = true ∧ s.msw.ts = true) ∧
    (let s : State := { real with npxError := true }
     s.msw.em = false ∧ s.msw.ts = false ∧ s.mathError = true ∧ s.busy = false ∧ escNoWait 1 5 (.reg .ax) = false) ∧
    (let s : State := { real with npxBusy := true }
     s.busy = true ∧ s.msw.ts = false ∧ s.msw.em = false ∧ s.mathError = false) ∧
    (real.canRead (real.eaSeg (.direct 0xFFFF)) (real.eaOff (.direct 0xFFFF)) 2 = false) ∧
    (let s : State := { user with ds := { user.ds with ar := 0xF1 }, npxBusy := true, npxError := true }
     escNoWait 5 6 (.mem (.direct 0)) = true ∧ escWrites 5 6 = true ∧ s.canWrite .ds 0 2 = false ∧ s.busy = true ∧
       s.mathError = true) := by decide

/-- The forms that do not wait while BUSY and ERROR are active, and an overrun that FNINIT ends and another ESC does not. -/
theorem witness_WaitAndEsc_no_wait :
    (let s : State := { real with npxBusy := true, npxError := true }
     s.busy = true ∧ s.mathError = true ∧ s.msw.em = false ∧ s.msw.ts = false ∧
       escNoWait 5 6 (.mem (.direct 0)) = true ∧ encode (.esc 5 6 (.mem (.direct 0))) = 0xDD :: 0x36 :: [0, 0] ∧
       s.canWrite (s.eaSeg (.direct 0)) (s.eaOff (.direct 0)) 2 = true ∧
       escNoWait 7 4 (.reg .ax) = true ∧ escNoWait 3 4 (.reg .bx) = true ∧ escNoWait 3 4 (.reg .dx) = true) ∧
    (let s : State := { real with channel := .overrun }
     s.msw.em = false ∧ s.msw.ts = false ∧ s.channel = .overrun ∧
       (∃ t, exec (.esc 3 4 (.reg .bx)) s = .next t) ∧
       ((3, 4, E16.reg .dx) : BitVec 3 × BitVec 3 × E16) ≠ (3, 4, .reg .bx) ∧ ∃ t, exec (.esc 3 4 (.reg .dx)) s = .next t) :=
  ⟨by decide, rfl, rfl, rfl, ⟨_, rfl⟩, by decide, _, rfl⟩

/-- A busy NPX at the last word of its operand's segment, one byte beyond it, and at the end of a real-mode segment. -/
theorem witness_WaitAndEsc_channel :
    (let p : Transfer := { seg := seg 0x10 0x30000 0xFFF 0x93, prot := true, next := 0xFFE, store := true }
     let s : State := { prot with channel := .moving p, npxBusy := true }
     s.channel = .moving p ∧ s.busy = true ∧ p.store = true ∧ p.next + 1 ≤ 0xFFFF ∧
       p.seg.inLimit (BitVec.ofNat 16 p.next) 2 = true ∧
       ({ p with next := 0xFFF } : Transfer).seg.inLimit 0xFFF 2 = false) ∧
    (let p : Transfer := { seg := seg 0 0 0xFFFF 0x93, prot := false, next := 0xFFFE, store := false }
     let s : State := { real with channel := .moving p, npxBusy := true }
     s.channel = .moving p ∧ s.busy = true ∧ p.store = false ∧ p.next + 1 = 0xFFFF) ∧
    (let s : State := { real with channel := .overrun }
     s.channel = .overrun ∧ s.npxPresent = true ∧ s.npxBusy = false) ∧
    ({ real with npxPresent := false } : State).npxPresent = false := by decide

theorem witness_PrefixesAreRemembered :
    real.prot = false ∧ user.prot = true ∧ user.cpl.toNat ≤ user.flags.iopl.toNat := by decide

/-- Behind LOCK: MOVS, which heeds it, ADD, which does not, and MOV with a memory operand. -/
theorem witness_PrefixesAreRemembered_lock :
    let s (bs : List Byte) : State := { real.placeCode 0 (0xF0 :: bs) with dec := { lock := true, len := 1 } }
    decode (s [0xA4]).code = .ok (.movsb, (s [0xA4]).code.drop 1) ∧ Instr.movsb ∈ lockedByPrefix ∧
    decode (s [0x40]).code = .ok (.incRw .ax, (s [0x40]).code.drop 1) ∧ Instr.incRw .ax ∉ lockedByPrefix ∧
    ¬movOfMemory (.incRw .ax) ∧ movOfMemory (.movAlXb 0) ∧
    decode (s [0xA0, 0, 0]).code = .ok (.movAlXb 0, (s [0xA0, 0, 0]).code.drop 3) :=
  ⟨rfl, by decide, rfl, by decide, by simp [movOfMemory], .inr (.inr (.inr (.inr (.inl ⟨0, by simp⟩)))), rfl⟩

theorem witness_EncodingsWithoutInstruction :
    real.canEnterReal 6 = true ∧ real.canEnterReal 13 = true ∧ Instr.undef0F01n7 ∈ undefinedRows ∧
    Instr.undefFFn7 ∈ undefinedStackRows ∧ Instr.unlisted0F05 ∈ unlistedRows := by decide

end Sys2Proof.Tests
end

section
/-! The sign extensions, CBW and CWD (spec/41_arithmetic.md R366, R367). -/

namespace Sys2Proof.Machine

/-- CBW by value: the model's `BitVec.signExtend` of AL is by definition the word with AL's signed value (R366). -/
theorem exec_cbw (s : State) : exec .cbw s =
    .next { s with regs := { s.regs with ax := BitVec.ofInt 16 (s.get8 .al).toInt } }.advance := rfl

/-- CWD by value: the top bit of AX that it copies into DX is set exactly when AX, as a signed word, is negative
(R367). -/
theorem exec_cwd (s : State) : exec .cwd s =
    .next { s with regs := { s.regs with dx := if s.regs.ax.toInt < 0 then 0xFFFF else 0x0000 } }.advance := by
  have hsign : s.regs.ax.msb = true ↔ s.regs.ax.toInt < 0 := by simp [BitVec.msb_eq_toInt]
  calc exec .cwd s
    _ = .next { s with regs := { s.regs with dx := if s.regs.ax.msb then 0xFFFF else 0 } }.advance := rfl
    _ = _ := by simp only [hsign]

/-- Settles O28: both complete by the equations above, and neither next state changes what the bytes of memory are
read from (R366, R367). -/
theorem signExtension : Obligations.SignExtension := by
  unfold Obligations.SignExtension
  refine ⟨rfl, rfl, fun s => ⟨?cbw, ?cwd⟩⟩
  case cbw => exact Does.of_keep (exec_cbw s) rfl rfl rfl rfl
  case cwd => exact Does.of_keep (exec_cwd s) rfl rfl rfl rfl

end Sys2Proof.Machine
end

section
/-! The carry flag, CLC, STC and CMC (spec/45_flag_bcd_misc.md R601-R603). -/

namespace Sys2Proof.Machine

/-- The next instruction's state with CF set to `c`, field by field: the flags but CF, the registers and memory are those
of `s` (R300, R601-R603). -/
def State.withCarry (s : State) (c : Bool) : State :=
  { s with flags := { s.flags with cf := c }, ip := s.nextIp, dec := {} }

/-- An instruction that completes with only CF given a value leaves memory alone. -/
theorem Does.of_withCarry {i : Instr} {s : State} {c : Bool} (h : exec i s = .next (s.withCarry c)) :
    Does i s (s.withCarry c) [] :=
  Does.of_keep h rfl rfl rfl rfl

theorem exec_clc (s : State) : exec .clc s = .next (s.withCarry false) := rfl

theorem exec_stc (s : State) : exec .stc s = .next (s.withCarry true) := rfl

theorem exec_cmc (s : State) : exec .cmc s = .next (s.withCarry !s.flags.cf) := rfl

/-- Settles O49: each of the three completes with CF as its rule says, the rest as it was (R601-R603). -/
theorem carryFlagInstructions : Obligations.CarryFlagInstructions := by
  unfold Obligations.CarryFlagInstructions
  refine ⟨rfl, rfl, rfl, fun s => ⟨?clc, ?stc, ?cmc⟩⟩
  case clc => exact Does.of_withCarry (exec_clc s)
  case stc => exact Does.of_withCarry (exec_stc s)
  case cmc => exact Does.of_withCarry (exec_cmc s)

end Sys2Proof.Machine
end

section
/-! BOUND (spec/46_extended.md R654). -/

namespace Sys2Proof.Machine

/-- A pointer operand in memory that cannot be read whole raises what its reference does (R146, R147). -/
theorem State.readPointer_fault (s : State) (m : Mem) (h : s.canReadMem m 4 = false) :
    s.readPointer (.mem m) = .error (s.segFault (s.eaSeg m)) := by
  have hread : s.canRead (s.eaSeg m) (s.eaOff m) 4 = false := h
  simp only [State.readPointer, E16.memOnly, State.readSeg32, run_bind_ok, hread, check_false, run_bind_error]

/-- A failed reference in both modes at once: vector 12 in protected mode through SS and 13 otherwise, with code 0
(R146, R151). -/
theorem State.segFault_eq_exc (s : State) (x : SReg) :
    s.segFault x = .exc (if s.prot = true ∧ x = .ss then 12 else 13) (some 0) none := by
  simp only [State.segFault, Bool.and_eq_true, beq_iff_eq]
  split
  case isTrue => rfl
  case isFalse => rfl

theorem exec_boundRwMd (s : State) (r : Reg16) (e : E16) : exec (.boundRwMd r e) s = s.finish (s.bound r e) := rfl

/-- BOUND reads its bounds before it compares anything, so what stops that reading stops it. -/
theorem State.bound_error (s : State) (r : Reg16) (e : E16) (stop : Stop) (h : s.readPointer e = .error stop) :
    s.bound r e = .error stop := by
  rw [State.bound, h, run_bind_error]

/-- BOUND with the bounds `low` and `high` read: the one check it makes is of both, each included. -/
theorem State.bound_of_readPointer (s : State) (r : Reg16) (e : E16) (low high : Word)
    (h : s.readPointer e = .ok (low, high)) :
    s.bound r e =
      if low.toInt ≤ (s.get16 r).toInt ∧ (s.get16 r).toInt ≤ high.toInt then .ok s.advance
      else .error (.exc 5 none none) := by
  simp only [State.bound, h, run_bind_ok, ← Bool.decide_and]
  split
  case isTrue hin => rw [decide_eq_true hin, check_true, run_bind_ok, run_pure]
  case isFalse hout => rw [decide_eq_false hout, check_false, run_bind_error]

/-- Settles O52: a register operand and bounds that cannot be read stop BOUND where it reads its bounds; with these read
it completes, writing nothing, exactly when the register is not below the one nor above the other (R654). -/
theorem boundChecksBothLimits : Obligations.BoundChecksBothLimits := by
  unfold Obligations.BoundChecksBothLimits
  refine ⟨fun _ _ => rfl, ?register, ?unreadable, ?readable⟩
  case register =>
    intro s r q
    have hreg : s.readPointer (.reg q) = .error excUd := rfl
    rw [exec_boundRwMd, s.bound_error r _ _ hreg, excUd, State.finish_exc]
  case unreadable =>
    intro s r m hread
    rw [exec_boundRwMd, s.bound_error r _ _ (s.readPointer_fault m hread), s.segFault_eq_exc, State.finish_exc]
  case readable =>
    intro s r m hread low high v
    have hbound := s.bound_of_readPointer r _ _ _ (s.readPointer_ok m hread)
    refine ⟨fun hlow hhigh => ?inside, fun hout => ?outside⟩
    case inside =>
      have hnext : exec (.boundRwMd r (.mem m)) s = .next s.advance := by
        rw [exec_boundRwMd, hbound, if_pos ⟨hlow, hhigh⟩, State.finish_ok]
      exact Does.of_keep hnext rfl rfl rfl rfl
    case outside =>
      have hnot : ¬(low ≤ v ∧ v ≤ high) := by omega
      rw [exec_boundRwMd, hbound, if_neg hnot, State.finish_exc]

end Sys2Proof.Machine
end

section
/-!
The decoder undoes the encoder (spec/30_encoding.md R220-R254): first what each shape of an opcode's operands reads back,
then the constructors, sorted by their shape.
-/

namespace Sys2Proof

/-! What each shape of operands reads back -/

/-- `/r` with a byte operand (R232-R234). -/
theorem rmE8_encE8 (k : E8 → Reg8 → Instr) (e : E8) (r : Reg8) (h : e.wf = true) (rest : List Byte) :
    rmE8 k (encE8 r.code e ++ rest) = .ok (k e r, rest) :=
  modRM_encE8 r.code e h _ (fun e => one (k e r)) (fun _ _ => by rw [Reg8.ofCode_code]) rest

/-- `/r` with a word operand (R232-R234). -/
theorem rmE16_encE16 (k : E16 → Reg16 → Instr) (e : E16) (r : Reg16) (h : e.wf = true) (rest : List Byte) :
    rmE16 k (encE16 r.code e ++ rest) = .ok (k e r, rest) :=
  modRM_encE16 r.code e h _ (fun e => one (k e r)) (fun _ _ => by rw [Reg16.ofCode_code]) rest

/-- `/r` with the byte register first (R232-R234). -/
theorem rmE8_encE8_swap (k : Reg8 → E8 → Instr) (e : E8) (r : Reg8) (h : e.wf = true) (rest : List Byte) :
    rmE8 (fun e r => k r e) (encE8 r.code e ++ rest) = .ok (k r e, rest) :=
  rmE8_encE8 (fun e r => k r e) e r h rest

/-- `/r` with the word register first (R232-R234). -/
theorem rmE16_encE16_swap (k : Reg16 → E16 → Instr) (e : E16) (r : Reg16) (h : e.wf = true) (rest : List Byte) :
    rmE16 (fun e r => k r e) (encE16 r.code e ++ rest) = .ok (k r e, rest) :=
  rmE16_encE16 (fun e r => k r e) e r h rest

/-- `/r` with a word operand and what follows (R232-R234). -/
theorem rmE16Then_encE16 (k : E16 → Reg16 → Parse) (e : E16) (r : Reg16) (h : e.wf = true) (tail rest : List Byte) :
    rmE16Then k (encE16 r.code e ++ tail ++ rest) = k e r (tail ++ rest) := by
  rw [List.append_assoc]
  exact modRM_encE16 r.code e h _ (fun e => k e r) (fun _ _ => by rw [Reg16.ofCode_code]) _

/-- `/n` with a byte operand, where the group names that instruction (R251). -/
theorem group_encE8 {g : Group} (n : BitVec 3) {k : E8 → Instr} {e : E8} (h : e.wf = true) (rest : List Byte)
    (hg : ∀ m r, g n.toNat m r = opE8 k m r) : group g (encE8 n e ++ rest) = .ok (k e, rest) :=
  modRM_encE8 n e h _ (fun e => one (k e)) hg rest

/-- `/n` with a word operand (R251). -/
theorem group_encE16 {g : Group} (n : BitVec 3) {k : E16 → Instr} {e : E16} (h : e.wf = true) (rest : List Byte)
    (hg : ∀ m r, g n.toNat m r = opE16 k m r) : group g (encE16 n e ++ rest) = .ok (k e, rest) :=
  modRM_encE16 n e h _ (fun e => one (k e)) hg rest

/-- `/n db` with a byte operand (R251). -/
theorem group_encE8_imm8 {g : Group} (n : BitVec 3) {k : E8 → Byte → Instr} {e : E8} (h : e.wf = true) (i : Byte)
    (rest : List Byte) (hg : ∀ m r, g n.toNat m r = opE8Imm8 k m r) :
    group g (encE8 n e ++ [i] ++ rest) = .ok (k e i, rest) := by
  rw [List.append_assoc]
  exact modRM_encE8 n e h _ (fun e => imm8 (k e)) hg _

/-- `/n db` with a word operand (R251). -/
theorem group_encE16_imm8 {g : Group} (n : BitVec 3) {k : E16 → Byte → Instr} {e : E16} (h : e.wf = true) (i : Byte)
    (rest : List Byte) (hg : ∀ m r, g n.toNat m r = opE16Imm8 k m r) :
    group g (encE16 n e ++ [i] ++ rest) = .ok (k e i, rest) := by
  rw [List.append_assoc]
  exact modRM_encE16 n e h _ (fun e => imm8 (k e)) hg _

/-- A word immediate (R221). -/
theorem imm16_encW (k : Word → Instr) (w : Word) (rest : List Byte) : imm16 k (encW w ++ rest) = .ok (k w, rest) :=
  take16_encW _ w rest

/-- An offset and a selector (R239). -/
theorem imm32_encW (k : Word → Word → Instr) (off sel : Word) (rest : List Byte) :
    imm32 k (encW off ++ encW sel ++ rest) = .ok (k off sel, rest) := by
  rw [List.append_assoc]
  exact (take16_encW _ off _).trans (take16_encW _ sel rest)

/-- `/n dw` with a word operand (R251). -/
theorem group_encE16_imm16 {g : Group} (n : BitVec 3) {k : E16 → Word → Instr} {e : E16} (h : e.wf = true) (i : Word)
    (rest : List Byte) (hg : ∀ m r, g n.toNat m r = opE16Imm16 k m r) :
    group g (encE16 n e ++ encW i ++ rest) = .ok (k e i, rest) := by
  rw [List.append_assoc]
  exact (modRM_encE16 n e h _ (fun e => imm16 (k e)) hg _).trans (imm16_encW (k e) i rest)

/-- The eight ESC opcodes (R254). -/
theorem decode_esc (x y : BitVec 3) (e : E16) (h : e.wf = true) (rest : List Byte) :
    decode (encode (.esc x y e) ++ rest) = .ok (.esc x y e, rest) := by
  have hread (x : BitVec 3) : modRM (fun m n r => takeE16 m r fun e => one (.esc x n e)) (encE16 y e ++ rest) =
      .ok (.esc x y e, rest) := modRM_encE16 y e h _ (fun e => one (.esc x y e)) (fun _ _ => rfl) rest
  have hop : ∀ x : BitVec 3, decodeOp (0b11011#5 ++ x) = modRM fun m n r => takeE16 m r fun e => one (.esc x n e) := by
    have hx : ∀ x : BitVec 3, x = 0 ∨ x = 1 ∨ x = 2 ∨ x = 3 ∨ x = 4 ∨ x = 5 ∨ x = 6 ∨ x = 7 := by decide
    intro x
    rcases hx x with rfl | rfl | rfl | rfl | rfl | rfl | rfl | rfl <;> rfl
  calc decode (encode (.esc x y e) ++ rest)
    _ = decodeOp (0b11011#5 ++ x) (encE16 y e ++ rest) := rfl
    _ = .ok (.esc x y e, rest) := by rw [hop, hread]

/-- The two-byte opcodes that no row defines (R263). -/
theorem decode0F_undefined (b : Byte) (h : 7 ≤ b.toNat) (rest : List Byte) :
    decode0F (b :: rest) = .ok (.undef0Fxx b, rest) := by
  simp only [decode0F]
  split
  case h_8 => rfl
  all_goals omega

/-- THE DECODER READS BACK WHAT THE ENCODER WRITES, whatever follows (R220). -/
theorem decode_encode (i : Instr) (h : i.wf = true) (hi : i ≠ .twoByteEscape) (rest : List Byte) :
    decode (encode i ++ rest) = .ok (i, rest) := by
  cases i
  case addEbRb e r | orEbRb e r | adcEbRb e r | sbbEbRb e r | andEbRb e r | subEbRb e r | xorEbRb e r |
      cmpEbRb e r | testEbRb e r | xchgEbRb e r | movEbRb e r =>
    exact rmE8_encE8 _ e r h rest
  case addRbEb r e | orRbEb r e | adcRbEb r e | sbbRbEb r e | andRbEb r e | subRbEb r e | xorRbEb r e |
      cmpRbEb r e | movRbEb r e =>
    exact rmE8_encE8_swap _ e r h rest
  case addEwRw e r | orEwRw e r | adcEwRw e r | sbbEwRw e r | andEwRw e r | subEwRw e r | xorEwRw e r |
      cmpEwRw e r | arplEwRw e r | testEwRw e r | xchgEwRw e r | movEwRw e r =>
    exact rmE16_encE16 _ e r h rest
  case addRwEw r e | orRwEw r e | adcRwEw r e | sbbRwEw r e | andRwEw r e | subRwEw r e | xorRwEw r e |
      cmpRwEw r e | boundRwMd r e | movRwEw r e | leaRwM r e | lesRwEd r e | ldsRwEd r e | larRwEw r e |
      lslRwEw r e =>
    exact rmE16_encE16_swap _ e r h rest
  case rolEbOne e | rolEbCl e | incEb e | rorEbOne e | rorEbCl e | decEb e | rclEbOne e | rclEbCl e | notEb e |
      rcrEbOne e | rcrEbCl e | negEb e | salEbOne e | salEbCl e | mulEb e | shrEbOne e | shrEbCl e | imulEb e |
      sarEbOne e | sarEbCl e | idivEb e | divEb e =>
    exact group_encE8 _ h rest fun _ _ => rfl
  case movEwEs e | movEsEw e | popMw e | rolEwOne e | rolEwCl e | incEw e | movEwCs e | rorEwOne e | rorEwCl e |
      decEw e | movEwSs e | movSsEw e | rclEwOne e | rclEwCl e | notEw e | callEw e | movEwDs e | movDsEw e |
      rcrEwOne e | rcrEwCl e | negEw e | callEd e | salEwOne e | salEwCl e | mulEw e | jmpEw e | shrEwOne e |
      shrEwCl e | imulEw e | jmpEd e | sarEwOne e | sarEwCl e | idivEw e | divEw e | pushMw e | sldtEw e |
      sgdtM e | strEw e | sidtM e | lldtEw e | lgdtM e | ltrEw e | lidtM e | verrEw e | smswEw e | verwEw e |
      lmswEw e =>
    exact group_encE16 _ h rest fun _ _ => rfl
  case addEbDb e i | rolEbDb e i | movEbDb e i | testEbDb e i | orEbDb e i | rorEbDb e i | adcEbDb e i |
      rclEbDb e i | sbbEbDb e i | rcrEbDb e i | andEbDb e i | salEbDb e i | subEbDb e i | shrEbDb e i |
      xorEbDb e i | cmpEbDb e i | sarEbDb e i =>
    exact group_encE8_imm8 _ h i rest fun _ _ => rfl
  case addEwDb e i | rolEwDb e i | adcEwDb e i | rclEwDb e i | sbbEwDb e i | rcrEwDb e i | subEwDb e i |
      shrEwDb e i | cmpEwDb e i | sarEwDb e i | rorEwDb e i | salEwDb e i =>
    exact group_encE16_imm8 _ h i rest fun _ _ => rfl
  case addEwDw e i | movEwDw e i | testEwDw e i | orEwDw e i | adcEwDw e i | sbbEwDw e i | andEwDw e i |
      subEwDw e i | xorEwDw e i | cmpEwDw e i =>
    exact group_encE16_imm16 _ h i rest fun _ _ => rfl
  case addAxDw i | orAxDw i | adcAxDw i | sbbAxDw i | andAxDw i | subAxDw i | xorAxDw i | cmpAxDw i | pushDw i |
      testAxDw i | retNearDw i | retFarDw i | movAlXb a | movAxXw a | movXbAl a | movXwAx a | callCw d | jmpCw d =>
    exact imm16_encW _ _ rest
  case callCd off sel | jmpCd off sel =>
    exact imm32_encW _ off sel rest
  case imulRwEwDw r e i => exact (rmE16Then_encE16 (fun e r => imm16 (.imulRwEwDw r e)) e r h (encW i) rest).trans (imm16_encW _ i rest)
  case imulRwEwDb r e i => exact rmE16Then_encE16 (fun e r => imm8 (.imulRwEwDb r e)) e r h [i] rest
  case enterDwDb size level => exact take16_encW (fun d => imm8 (.enterDwDb d)) size (level :: rest)
  case esc x y e => exact decode_esc x y e h rest
  case incRw r | decRw r | pushRw r | popRw r | movRbDb r i => cases r <;> rfl
  case movRwDw r i =>
    have hr : decode (encode (.movRwDw r i) ++ rest) = imm16 (.movRwDw r) (encW i ++ rest) := by cases r <;> rfl
    exact hr.trans (imm16_encW _ i rest)
  case xchgAxRw r =>
    cases r
    case ax => cases h
    all_goals rfl
  case unlistedD4xx b | unlistedD5xx b =>
    have hb : b ≠ 0x0A := by simpa [Instr.wf] using h
    exact congrFun (if_neg hb) rest
  case undef0Fxx b => exact decode0F_undefined b (by simpa [Instr.wf] using h) rest
  case twoByteEscape => exact absurd rfl hi
  all_goals rfl

/-- Settles O1: all but the bare escape read back whatever follows, and the bare escape where nothing does (R230). -/
theorem decodeOfEncode : Obligations.DecodeOfEncode := by
  unfold Obligations.DecodeOfEncode
  intro i h
  refine ⟨decode_encode i h, ?alone⟩
  by_cases hi : i = .twoByteEscape
  · rw [hi]; rfl
  · simpa using decode_encode i h hi []

end Sys2Proof
end

section
/-!
# Encoding: what the decoder reads is what the encoder writes (O2)

`Reads op p` says of the reader `p`, behind the bytes `op`, all that O2 says of the decoder. A rule for each piece of the
decoder carries it from what follows the piece; the tables of `reads_row0` to `reads_rowF` then name, for each opcode byte,
the rule of its form.
-/

namespace Sys2Proof

open Sys2Proof.Machine

/-- A row that keeps neither mod nor r/m (R263). -/
abbrev KeepsNoOperand (i : Instr) : Prop := i ∈ undefinedRows ∨ i ∈ undefinedStackRows ∨ i ∈ unlistedRows

/-- WHAT A READER MAKES OF THE BYTES BEHIND `op`, which are read already: what it answers is well formed and, with `op`, at
most six bytes long and, but for the rows that keep neither mod nor r/m (R263), what the encoder writes; it answers where
six bytes are there (R222); and but for the bare escape (R230) the bytes behind what it has read do not matter to it. -/
structure Reads (op : List Byte) (p : Parse) : Prop where
  sound : ∀ bs i rest, p bs = .ok (i, rest) → i.wf = true ∧ ∃ pre, bs = pre ++ rest ∧ (op ++ pre).length ≤ 6 ∧
    (¬ KeepsNoOperand i → op ++ pre = encode i)
  answers : ∀ bs, 6 ≤ op.length + bs.length → ∃ i rest, p bs = .ok (i, rest)
  extends_ok : ∀ bs i rest, p bs = .ok (i, rest) → i ≠ .twoByteEscape → ∀ more, p (bs ++ more) = .ok (i, rest ++ more)

/-- The end of an element. -/
theorem Reads.last {op : List Byte} {i : Instr} (hop : op.length ≤ 6) (hwf : i.wf = true)
    (henc : ¬ KeepsNoOperand i → op = encode i) : Reads op (one i) where
  sound bs j rest hj := by
    cases hj
    exact ⟨hwf, [], rfl, by simpa using hop, fun h => by simpa using henc h⟩
  answers bs _ := ⟨i, bs, rfl⟩
  extends_ok bs j rest hj _ more := by
    cases hj
    rfl

/-- One more byte (R221). -/
theorem Reads.take8 {op : List Byte} {k : Byte → Parse} (hop : op.length ≤ 5) (h : ∀ b, Reads (op ++ [b]) (k b)) :
    Reads op (take8 k) where
  sound bs i rest hi := by
    cases bs with
    | nil => cases hi
    | cons b bs =>
      obtain ⟨hwf, pre, rfl, hlen, henc⟩ := (h b).sound bs i rest hi
      exact ⟨hwf, b :: pre, rfl, by simpa using hlen, fun hk => by simpa using henc hk⟩
  answers bs hbs := by
    cases bs with
    | nil => simp only [List.length_nil] at hbs; omega
    | cons b bs => exact (h b).answers bs (by simp only [List.length_append, List.length_cons, List.length_nil] at *; omega)
  extends_ok bs i rest hi := by
    cases bs with
    | nil => cases hi
    | cons b bs => exact (h b).extends_ok bs i rest hi

/-- The bytes of a word are the two it was put together from (R122). -/
theorem encW_ofBytes (lo hi : Byte) : encW (Word.ofBytes lo hi) = [lo, hi] := by
  have hlo : (Word.ofBytes lo hi).lo = lo := BitVec.extractLsb'_append_eq_right
  have hhi : (Word.ofBytes lo hi).hi = hi := BitVec.extractLsb'_append_eq_left
  rw [encW, hlo, hhi]

/-- One more word (R221). -/
theorem Reads.take16 {op : List Byte} {k : Word → Parse} (hop : op.length ≤ 4) (h : ∀ w, Reads (op ++ encW w) (k w)) :
    Reads op (take16 k) := by
  refine Reads.take8 (by omega) fun lo => Reads.take8 (by simp; omega) fun hi => ?_
  have hw := h (Word.ofBytes lo hi)
  rwa [encW_ofBytes, List.append_cons] at hw

/-- The ModRM byte (R231). -/
theorem Reads.modRM {op : List Byte} {k : BitVec 2 → BitVec 3 → BitVec 3 → Parse} (hop : op.length ≤ 5)
    (h : ∀ m n r, Reads (op ++ [encRaw m n r]) (k m n r)) : Reads op (modRM k) :=
  Reads.take8 hop fun b => by simpa only [encRaw_fields] using h (b.extractLsb' 6 2) (b.extractLsb' 3 3) (b.extractLsb' 0 3)

/-- A memory operand and its displacement (R233, R234). -/
theorem Reads.takeMem {op : List Byte} {k : Mem → Parse} (hop : op.length ≤ 3) {m : BitVec 2} (hm : m ≠ 3)
    (n r : BitVec 3) (h : ∀ e : Mem, e.wf = true → Reads (op ++ encMem n e) (k e)) :
    Reads (op ++ [encRaw m n r]) (takeMem m r k) := by
  have hcases : m = 0 ∨ m = 1 ∨ m = 2 := by revert m; decide
  have hlen : (op ++ [encRaw m n r]).length ≤ 4 := by simp; omega
  rcases hcases with rfl | rfl | rfl
  case inl =>
    by_cases hr : r = 6
    · subst hr
      exact Reads.take16 hlen fun d => by simpa [encMem] using h (.direct d) rfl
    · have hwf : (Mem.ind (Base.ofCode r)).wf = true := by
        clear h hlen
        revert hr; revert r; decide
      have hk := h (.ind (Base.ofCode r)) hwf
      simp only [encMem, Base.code_ofCode] at hk
      change Reads _ (if r = 6 then _ else _)
      rwa [if_neg hr]
  case inr.inl =>
    exact Reads.take8 (by omega) fun d => by simpa [encMem] using h (.disp8 (Base.ofCode r) d) rfl
  case inr.inr =>
    exact Reads.take16 hlen fun d => by simpa [encMem] using h (.disp16 (Base.ofCode r) d) rfl

/-- A byte operand (R232-R234). -/
theorem Reads.takeE8 {op : List Byte} {k : E8 → Parse} (hop : op.length ≤ 3) (m : BitVec 2) (n r : BitVec 3)
    (h : ∀ e : E8, e.wf = true → Reads (op ++ encE8 n e) (k e)) : Reads (op ++ [encRaw m n r]) (takeE8 m r k) := by
  by_cases hm : m = 3
  · simpa [Sys2Proof.takeE8, hm, encE8] using h (.reg (Reg8.ofCode r)) rfl
  · simpa only [Sys2Proof.takeE8, if_neg hm] using Reads.takeMem hop hm n r fun e he => h (.mem e) he

/-- A word operand (R232-R234). -/
theorem Reads.takeE16 {op : List Byte} {k : E16 → Parse} (hop : op.length ≤ 3) (m : BitVec 2) (n r : BitVec 3)
    (h : ∀ e : E16, e.wf = true → Reads (op ++ encE16 n e) (k e)) : Reads (op ++ [encRaw m n r]) (takeE16 m r k) := by
  by_cases hm : m = 3
  · simpa [Sys2Proof.takeE16, hm, encE16] using h (.reg (Reg16.ofCode r)) rfl
  · simpa only [Sys2Proof.takeE16, if_neg hm] using Reads.takeMem hop hm n r fun e he => h (.mem e) he

/-! The forms of the opcode maps, behind one opcode byte. What is said of each row's own instruction, that it is well
formed and what its bytes are, holds by the tables themselves. -/

section

variable {b : Byte}

/-- A row with nothing behind its opcode. -/
theorem Reads.one {i : Instr} (h : (i.wf, encode i) = (true, [b])) : Reads [b] (one i) :=
  have ⟨hwf, henc⟩ := Prod.mk.inj h
  .last (by simp) hwf fun _ => henc.symm

/-- A row with an immediate byte. -/
theorem Reads.imm8 {k : Byte → Instr} (h : ∀ i, ((k i).wf, encode (k i)) = (true, [b, i])) : Reads [b] (imm8 k) :=
  .take8 (by simp) fun i =>
    have ⟨hwf, henc⟩ := Prod.mk.inj (h i)
    .last (by simp) hwf fun _ => henc.symm

/-- A row with an immediate word. -/
theorem Reads.imm16 {k : Word → Instr} (h : ∀ w, ((k w).wf, encode (k w)) = (true, b :: encW w)) : Reads [b] (imm16 k) :=
  .take16 (by simp) fun w =>
    have ⟨hwf, henc⟩ := Prod.mk.inj (h w)
    .last (by simp [encW_length]) hwf fun _ => henc.symm

/-- A row with an offset and a selector (R239). -/
theorem Reads.imm32 {k : Word → Word → Instr}
    (h : ∀ o s, ((k o s).wf, encode (k o s)) = (true, b :: encW o ++ encW s)) : Reads [b] (imm32 k) :=
  .take16 (by simp) fun o => .take16 (by simp [encW_length]) fun s =>
    have ⟨hwf, henc⟩ := Prod.mk.inj (h o s)
    .last (by simp [encW_length]) hwf fun _ => henc.symm

end

theorem length_encE8_le {op : List Byte} {l : Nat} (hop : op.length ≤ l) (n : BitVec 3) (e : E8) :
    (op ++ encE8 n e).length ≤ l + 3 := by
  have := encE8_length n e
  simp only [List.length_append]; omega

theorem length_encE16_le {op : List Byte} {l : Nat} (hop : op.length ≤ l) (n : BitVec 3) (e : E16) :
    (op ++ encE16 n e).length ≤ l + 3 := by
  have := encE16_length n e
  simp only [List.length_append]; omega

/-- The end of an element whose operand is in memory or a register. -/
theorem Reads.lastOf {op : List Byte} {i : Instr} {wf : Bool} (hop : op.length ≤ 6) (h : (i.wf, encode i) = (wf, op))
    (hwf : wf = true) : Reads op (Sys2Proof.one i) :=
  have ⟨hi, henc⟩ := Prod.mk.inj h
  .last hop (hi.trans hwf) fun _ => henc.symm

/-- An immediate byte behind an operand. -/
theorem Reads.imm8Of {op : List Byte} {k : Byte → Instr} {wf : Bool} (hop : op.length ≤ 5)
    (h : ∀ i, ((k i).wf, encode (k i)) = (wf, op ++ [i])) (hwf : wf = true) : Reads op (Sys2Proof.imm8 k) :=
  .take8 hop fun i => .lastOf (by simp; omega) (h i) hwf

/-- An immediate word behind an operand. -/
theorem Reads.imm16Of {op : List Byte} {k : Word → Instr} {wf : Bool} (hop : op.length ≤ 4)
    (h : ∀ i, ((k i).wf, encode (k i)) = (wf, op ++ encW i)) (hwf : wf = true) : Reads op (Sys2Proof.imm16 k) :=
  .take16 hop fun i => .lastOf (by simp [encW_length]; omega) (h i) hwf

/-- A `/r` row with byte operands. -/
theorem Reads.rmE8 {op : List Byte} {k : E8 → Reg8 → Instr} (hop : op.length ≤ 2)
    (h : ∀ e r, ((k e r).wf, encode (k e r)) = (e.wf, op ++ encE8 r.code e)) : Reads op (rmE8 k) :=
  .modRM (by omega) fun m n r => .takeE8 (by omega) m n r fun e he =>
    .lastOf ((length_encE8_le hop n e).trans (by decide)) (by simpa using h e (Reg8.ofCode n)) he

/-- A `/r` row with word operands and what follows them. -/
theorem Reads.rmE16Then {op : List Byte} {k : E16 → Reg16 → Parse} (hop : op.length ≤ 3)
    (h : ∀ e r, e.wf = true → Reads (op ++ encE16 r.code e) (k e r)) : Reads op (rmE16Then k) :=
  .modRM (by omega) fun m n r => .takeE16 hop m n r fun e he => by simpa using h e (Reg16.ofCode n) he

/-- A `/r` row with word operands. -/
theorem Reads.rmE16 {op : List Byte} {k : E16 → Reg16 → Instr} (hop : op.length ≤ 2)
    (h : ∀ e r, ((k e r).wf, encode (k e r)) = (e.wf, op ++ encE16 r.code e)) : Reads op (rmE16 k) :=
  .rmE16Then (by omega) fun e r he => .lastOf ((length_encE16_le hop _ e).trans (by decide)) (h e r) he

/-- A `/r` row with word operands and an immediate byte. -/
theorem Reads.rmE16Imm8 {b : Byte} {k : E16 → Reg16 → Byte → Instr}
    (h : ∀ e r i, ((k e r i).wf, encode (k e r i)) = (e.wf, b :: encE16 r.code e ++ [i])) :
    Reads [b] (Sys2Proof.rmE16Then fun e r => Sys2Proof.imm8 (k e r)) :=
  .rmE16Then (by simp) fun e r he => .imm8Of (length_encE16_le (l := 2) (by simp) _ e) (h e r) he

/-- A `/r` row with word operands and an immediate word. -/
theorem Reads.rmE16Imm16 {b : Byte} {k : E16 → Reg16 → Word → Instr}
    (h : ∀ e r i, ((k e r i).wf, encode (k e r i)) = (e.wf, b :: encE16 r.code e ++ encW i)) :
    Reads [b] (Sys2Proof.rmE16Then fun e r => Sys2Proof.imm16 (k e r)) :=
  .rmE16Then (by simp) fun e r he => .imm16Of (length_encE16_le (l := 1) (by simp) _ e) (h e r) he

/-- ENTER's word and byte. -/
theorem Reads.enter : Reads [0xC8] (Sys2Proof.take16 fun d => Sys2Proof.imm8 (.enterDwDb d)) :=
  .take16 (by simp) fun d => .imm8Of (wf := true) (by simp [encW_length]) (fun _ => rfl) rfl

/-- AAM and AAD: the byte 0AH and the other ones (R264). -/
theorem Reads.unlessTen {b : Byte} {i : Instr} {k : Byte → Instr} (hi : (i.wf, encode i) = (true, [b, 0x0A]))
    (h : ∀ x, ((k x).wf, encode (k x)) = (x != 0x0A, [b, x])) :
    Reads [b] (Sys2Proof.take8 fun x => if x = 0x0A then Sys2Proof.one i else Sys2Proof.one (k x)) := by
  refine .take8 (by simp) fun x => ?_
  by_cases hx : x = 0x0A
  · rw [if_pos hx]
    exact .lastOf (by simp) (hx ▸ hi) rfl
  · rw [if_neg hx]
    exact .lastOf (by simp) (h x) (by simpa using hx)

/-- ESC (R750). -/
theorem Reads.esc {b : Byte} {x : BitVec 3} (h : ∀ n e, encode (.esc x n e) = b :: encE16 n e) :
    Reads [b] (Sys2Proof.modRM fun m n r => Sys2Proof.takeE16 m r fun e => Sys2Proof.one (.esc x n e)) :=
  .modRM (by simp) fun m n r => .takeE16 (by simp) m n r fun e he =>
    .last (length_encE16_le (l := 3) (by simp) n e) he fun _ => (h n e).symm

/-! The `/n` opcodes: what is said of the reader behind a ModRM byte with reg field `n`. -/

/-- What the reader that a `/n` opcode chooses makes of the bytes behind the ModRM byte. -/
def ReadsNth (op : List Byte) (n : BitVec 3) (p : BitVec 2 → BitVec 3 → Parse) : Prop :=
  op.length ≤ 2 → ∀ m r, Reads (op ++ [encRaw m n r]) (p m r)

section

variable {op : List Byte} {n : BitVec 3}

theorem ReadsNth.opE8 {k : E8 → Instr} (h : ∀ e, ((k e).wf, encode (k e)) = (e.wf, op ++ encE8 n e)) :
    ReadsNth op n (opE8 k) := fun hop m r =>
  .takeE8 (by omega) m n r fun e he => .lastOf ((length_encE8_le hop n e).trans (by decide)) (h e) he

theorem ReadsNth.opE16 {k : E16 → Instr} (h : ∀ e, ((k e).wf, encode (k e)) = (e.wf, op ++ encE16 n e)) :
    ReadsNth op n (opE16 k) := fun hop m r =>
  .takeE16 (by omega) m n r fun e he => .lastOf ((length_encE16_le hop n e).trans (by decide)) (h e) he

theorem ReadsNth.opE8Imm8 {k : E8 → Byte → Instr}
    (h : ∀ e i, ((k e i).wf, encode (k e i)) = (e.wf, op ++ encE8 n e ++ [i])) : ReadsNth op n (opE8Imm8 k) :=
  fun hop m r => .takeE8 (by omega) m n r fun e he => .imm8Of (length_encE8_le hop n e) (h e) he

theorem ReadsNth.opE16Imm8 {k : E16 → Byte → Instr}
    (h : ∀ e i, ((k e i).wf, encode (k e i)) = (e.wf, op ++ encE16 n e ++ [i])) : ReadsNth op n (opE16Imm8 k) :=
  fun hop m r => .takeE16 (by omega) m n r fun e he => .imm8Of (length_encE16_le hop n e) (h e) he

theorem ReadsNth.opE16Imm16 {b : Byte} {k : E16 → Word → Instr}
    (h : ∀ e i, ((k e i).wf, encode (k e i)) = (e.wf, b :: encE16 n e ++ encW i)) : ReadsNth [b] n (opE16Imm16 k) :=
  fun _ m r => .takeE16 (by simp) m n r fun e he => .imm16Of (length_encE16_le (l := 1) (by simp) n e) (h e) he

/-- A reg field that names no instruction keeps neither mod nor r/m (R263). -/
theorem ReadsNth.bad {i : Instr} (h : (i.wf && decide (KeepsNoOperand i)) = true) : ReadsNth op n (bad i) :=
  fun hop _ _ =>
    have ⟨hwf, hi⟩ := Bool.and_eq_true_iff.1 h
    .last (by simp; omega) hwf fun h => absurd (of_decide_eq_true hi) h

theorem Reads.group {g : Group} (hop : op.length ≤ 2) (h : ∀ n : BitVec 3, ReadsNth op n (g n.toNat)) :
    Reads op (group g) :=
  .modRM (by omega) fun m n r => h n hop m r

end

theorem forall_bitVec3 {P : BitVec 3 → Prop} (h0 : P 0) (h1 : P 1) (h2 : P 2) (h3 : P 3) (h4 : P 4) (h5 : P 5)
    (h6 : P 6) (h7 : P 7) (n : BitVec 3) : P n := by
  have hn : n = 0 ∨ n = 1 ∨ n = 2 ∨ n = 3 ∨ n = 4 ∨ n = 5 ∨ n = 6 ∨ n = 7 := by revert n; decide
  rcases hn with rfl | rfl | rfl | rfl | rfl | rfl | rfl | rfl <;> assumption

theorem forall_bitVec4 {P : BitVec 4 → Prop} (h0 : P 0) (h1 : P 1) (h2 : P 2) (h3 : P 3) (h4 : P 4) (h5 : P 5)
    (h6 : P 6) (h7 : P 7) (h8 : P 8) (h9 : P 9) (h10 : P 10) (h11 : P 11) (h12 : P 12) (h13 : P 13) (h14 : P 14)
    (h15 : P 15) (n : BitVec 4) : P n := by
  have hn : n = 0 ∨ n = 1 ∨ n = 2 ∨ n = 3 ∨ n = 4 ∨ n = 5 ∨ n = 6 ∨ n = 7 ∨ n = 8 ∨ n = 9 ∨ n = 10 ∨ n = 11 ∨ n = 12 ∨
      n = 13 ∨ n = 14 ∨ n = 15 := by revert n; decide
  rcases hn with rfl | rfl | rfl | rfl | rfl | rfl | rfl | rfl | rfl | rfl | rfl | rfl | rfl | rfl | rfl | rfl <;> assumption

theorem reads_group80 (n : BitVec 3) : ReadsNth [0x80#8] n (group80 n.toNat) :=
  forall_bitVec3 (P := fun n => ReadsNth [0x80#8] n (group80 n.toNat))
    (.opE8Imm8 fun _ _ => rfl) (.opE8Imm8 fun _ _ => rfl) (.opE8Imm8 fun _ _ => rfl) (.opE8Imm8 fun _ _ => rfl)
    (.opE8Imm8 fun _ _ => rfl) (.opE8Imm8 fun _ _ => rfl) (.opE8Imm8 fun _ _ => rfl) (.opE8Imm8 fun _ _ => rfl) n

theorem reads_group81 (n : BitVec 3) : ReadsNth [0x81#8] n (group81 n.toNat) :=
  forall_bitVec3 (P := fun n => ReadsNth [0x81#8] n (group81 n.toNat))
    (.opE16Imm16 fun _ _ => rfl) (.opE16Imm16 fun _ _ => rfl) (.opE16Imm16 fun _ _ => rfl)
    (.opE16Imm16 fun _ _ => rfl) (.opE16Imm16 fun _ _ => rfl) (.opE16Imm16 fun _ _ => rfl)
    (.opE16Imm16 fun _ _ => rfl) (.opE16Imm16 fun _ _ => rfl) n

theorem reads_group83 (n : BitVec 3) : ReadsNth [0x83#8] n (group83 n.toNat) :=
  forall_bitVec3 (P := fun n => ReadsNth [0x83#8] n (group83 n.toNat))
    (.opE16Imm8 fun _ _ => rfl) (.bad rfl) (.opE16Imm8 fun _ _ => rfl) (.opE16Imm8 fun _ _ => rfl) (.bad rfl)
    (.opE16Imm8 fun _ _ => rfl) (.bad rfl) (.opE16Imm8 fun _ _ => rfl) n

theorem reads_group8C (n : BitVec 3) : ReadsNth [0x8C#8] n (group8C n.toNat) :=
  forall_bitVec3 (P := fun n => ReadsNth [0x8C#8] n (group8C n.toNat))
    (.opE16 fun _ => rfl) (.opE16 fun _ => rfl) (.opE16 fun _ => rfl) (.opE16 fun _ => rfl) (.bad rfl)
    (.bad rfl) (.bad rfl) (.bad rfl) n

theorem reads_group8E (n : BitVec 3) : ReadsNth [0x8E#8] n (group8E n.toNat) :=
  forall_bitVec3 (P := fun n => ReadsNth [0x8E#8] n (group8E n.toNat))
    (.opE16 fun _ => rfl) (.bad rfl) (.opE16 fun _ => rfl) (.opE16 fun _ => rfl) (.bad rfl) (.bad rfl)
    (.bad rfl) (.bad rfl) n

theorem reads_group8F (n : BitVec 3) : ReadsNth [0x8F#8] n (group8F n.toNat) :=
  forall_bitVec3 (P := fun n => ReadsNth [0x8F#8] n (group8F n.toNat))
    (.opE16 fun _ => rfl) (.bad rfl) (.bad rfl) (.bad rfl) (.bad rfl) (.bad rfl) (.bad rfl) (.bad rfl) n

theorem reads_groupC0 (n : BitVec 3) : ReadsNth [0xC0#8] n (groupC0 n.toNat) :=
  forall_bitVec3 (P := fun n => ReadsNth [0xC0#8] n (groupC0 n.toNat))
    (.opE8Imm8 fun _ _ => rfl) (.opE8Imm8 fun _ _ => rfl) (.opE8Imm8 fun _ _ => rfl) (.opE8Imm8 fun _ _ => rfl)
    (.opE8Imm8 fun _ _ => rfl) (.opE8Imm8 fun _ _ => rfl) (.bad rfl) (.opE8Imm8 fun _ _ => rfl) n

theorem reads_groupC1 (n : BitVec 3) : ReadsNth [0xC1#8] n (groupC1 n.toNat) :=
  forall_bitVec3 (P := fun n => ReadsNth [0xC1#8] n (groupC1 n.toNat))
    (.opE16Imm8 fun _ _ => rfl) (.opE16Imm8 fun _ _ => rfl) (.opE16Imm8 fun _ _ => rfl)
    (.opE16Imm8 fun _ _ => rfl) (.opE16Imm8 fun _ _ => rfl) (.opE16Imm8 fun _ _ => rfl) (.bad rfl)
    (.opE16Imm8 fun _ _ => rfl) n

theorem reads_groupC6 (n : BitVec 3) : ReadsNth [0xC6#8] n (groupC6 n.toNat) :=
  forall_bitVec3 (P := fun n => ReadsNth [0xC6#8] n (groupC6 n.toNat))
    (.opE8Imm8 fun _ _ => rfl) (.bad rfl) (.bad rfl) (.bad rfl) (.bad rfl) (.bad rfl) (.bad rfl) (.bad rfl) n

theorem reads_groupC7 (n : BitVec 3) : ReadsNth [0xC7#8] n (groupC7 n.toNat) :=
  forall_bitVec3 (P := fun n => ReadsNth [0xC7#8] n (groupC7 n.toNat))
    (.opE16Imm16 fun _ _ => rfl) (.bad rfl) (.bad rfl) (.bad rfl) (.bad rfl) (.bad rfl) (.bad rfl) (.bad rfl) n

theorem reads_groupD0 (n : BitVec 3) : ReadsNth [0xD0#8] n (groupD0 n.toNat) :=
  forall_bitVec3 (P := fun n => ReadsNth [0xD0#8] n (groupD0 n.toNat))
    (.opE8 fun _ => rfl) (.opE8 fun _ => rfl) (.opE8 fun _ => rfl) (.opE8 fun _ => rfl) (.opE8 fun _ => rfl)
    (.opE8 fun _ => rfl) (.bad rfl) (.opE8 fun _ => rfl) n

theorem reads_groupD1 (n : BitVec 3) : ReadsNth [0xD1#8] n (groupD1 n.toNat) :=
  forall_bitVec3 (P := fun n => ReadsNth [0xD1#8] n (groupD1 n.toNat))
    (.opE16 fun _ => rfl) (.opE16 fun _ => rfl) (.opE16 fun _ => rfl) (.opE16 fun _ => rfl)
    (.opE16 fun _ => rfl) (.opE16 fun _ => rfl) (.bad rfl) (.opE16 fun _ => rfl) n

theorem reads_groupD2 (n : BitVec 3) : ReadsNth [0xD2#8] n (groupD2 n.toNat) :=
  forall_bitVec3 (P := fun n => ReadsNth [0xD2#8] n (groupD2 n.toNat))
    (.opE8 fun _ => rfl) (.opE8 fun _ => rfl) (.opE8 fun _ => rfl) (.opE8 fun _ => rfl) (.opE8 fun _ => rfl)
    (.opE8 fun _ => rfl) (.bad rfl) (.opE8 fun _ => rfl) n

theorem reads_groupD3 (n : BitVec 3) : ReadsNth [0xD3#8] n (groupD3 n.toNat) :=
  forall_bitVec3 (P := fun n => ReadsNth [0xD3#8] n (groupD3 n.toNat))
    (.opE16 fun _ => rfl) (.opE16 fun _ => rfl) (.opE16 fun _ => rfl) (.opE16 fun _ => rfl)
    (.opE16 fun _ => rfl) (.opE16 fun _ => rfl) (.bad rfl) (.opE16 fun _ => rfl) n

theorem reads_groupF6 (n : BitVec 3) : ReadsNth [0xF6#8] n (groupF6 n.toNat) :=
  forall_bitVec3 (P := fun n => ReadsNth [0xF6#8] n (groupF6 n.toNat))
    (.opE8Imm8 fun _ _ => rfl) (.bad rfl) (.opE8 fun _ => rfl) (.opE8 fun _ => rfl) (.opE8 fun _ => rfl)
    (.opE8 fun _ => rfl) (.opE8 fun _ => rfl) (.opE8 fun _ => rfl) n

theorem reads_groupF7 (n : BitVec 3) : ReadsNth [0xF7#8] n (groupF7 n.toNat) :=
  forall_bitVec3 (P := fun n => ReadsNth [0xF7#8] n (groupF7 n.toNat))
    (.opE16Imm16 fun _ _ => rfl) (.bad rfl) (.opE16 fun _ => rfl) (.opE16 fun _ => rfl) (.opE16 fun _ => rfl)
    (.opE16 fun _ => rfl) (.opE16 fun _ => rfl) (.opE16 fun _ => rfl) n

theorem reads_groupFE (n : BitVec 3) : ReadsNth [0xFE#8] n (groupFE n.toNat) :=
  forall_bitVec3 (P := fun n => ReadsNth [0xFE#8] n (groupFE n.toNat))
    (.opE8 fun _ => rfl) (.opE8 fun _ => rfl) (.bad rfl) (.bad rfl) (.bad rfl) (.bad rfl) (.bad rfl) (.bad rfl) n

theorem reads_groupFF (n : BitVec 3) : ReadsNth [0xFF#8] n (groupFF n.toNat) :=
  forall_bitVec3 (P := fun n => ReadsNth [0xFF#8] n (groupFF n.toNat))
    (.opE16 fun _ => rfl) (.opE16 fun _ => rfl) (.opE16 fun _ => rfl) (.opE16 fun _ => rfl)
    (.opE16 fun _ => rfl) (.opE16 fun _ => rfl) (.opE16 fun _ => rfl) (.bad rfl) n

theorem reads_group0F00 (n : BitVec 3) : ReadsNth [0x0F#8, 0x00#8] n (group0F00 n.toNat) :=
  forall_bitVec3 (P := fun n => ReadsNth [0x0F#8, 0x00#8] n (group0F00 n.toNat))
    (.opE16 fun _ => rfl) (.opE16 fun _ => rfl) (.opE16 fun _ => rfl) (.opE16 fun _ => rfl)
    (.opE16 fun _ => rfl) (.opE16 fun _ => rfl) (.bad rfl) (.bad rfl) n

theorem reads_group0F01 (n : BitVec 3) : ReadsNth [0x0F#8, 0x01#8] n (group0F01 n.toNat) :=
  forall_bitVec3 (P := fun n => ReadsNth [0x0F#8, 0x01#8] n (group0F01 n.toNat))
    (.opE16 fun _ => rfl) (.opE16 fun _ => rfl) (.opE16 fun _ => rfl) (.opE16 fun _ => rfl)
    (.opE16 fun _ => rfl) (.bad rfl) (.opE16 fun _ => rfl) (.bad rfl) n

/-- A reader to which the bare escape is an element where the bytes end (R230). -/
theorem Reads.orEnd {op : List Byte} {p : Parse} (hop : op.length ≤ 5) (hend : p [] = .ok (.twoByteEscape, []))
    (hi : Instr.twoByteEscape.wf = true ∧ op = encode .twoByteEscape) (h : ∀ b, Reads (op ++ [b]) fun bs => p (b :: bs)) : Reads op p where
  sound bs j rest hj := by
    cases bs with
    | nil =>
      obtain ⟨rfl, rfl⟩ : .twoByteEscape = j ∧ [] = rest := by simpa using hend.symm.trans hj
      exact ⟨hi.1, [], rfl, by simp; omega, fun _ => by simpa using hi.2⟩
    | cons b bs =>
      obtain ⟨hwf, pre, rfl, hlen, henc⟩ := (h b).sound bs j rest hj
      exact ⟨hwf, b :: pre, rfl, by simpa using hlen, fun hk => by simpa using henc hk⟩
  answers bs hbs := by
    cases bs with
    | nil => exact ⟨_, [], hend⟩
    | cons b bs => exact (h b).answers bs (by simp only [List.length_append, List.length_cons, List.length_nil] at *; omega)
  extends_ok bs j rest hj hne := by
    cases bs with
    | nil =>
      obtain ⟨rfl, -⟩ : .twoByteEscape = j ∧ [] = rest := by simpa using hend.symm.trans hj
      exact absurd rfl hne
    | cons b bs => exact (h b).extends_ok bs j rest hj hne

/-- The second opcode bytes from 07H up are undefined (R263). -/
theorem decode0F_undef (b : Byte) (bs : List Byte) (h : 7 ≤ b.toNat) : decode0F (b :: bs) = .ok (.undef0Fxx b, bs) := by
  simp only [decode0F]
  split <;> first | omega | rfl

/-- The two-byte opcodes (R253). -/
theorem reads_second (b : Byte) : Reads [0x0F, b] fun bs => decode0F (b :: bs) := by
  have hb : b = 0 ∨ b = 1 ∨ b = 2 ∨ b = 3 ∨ b = 4 ∨ b = 5 ∨ b = 6 ∨ 7 ≤ b.toNat := by revert b; decide
  rcases hb with rfl | rfl | rfl | rfl | rfl | rfl | rfl | hb
  · exact .group (by simp) reads_group0F00
  · exact .group (by simp) reads_group0F01
  · exact .rmE16 (k := fun e r => .larRwEw r e) (by simp) fun _ _ => rfl
  · exact .rmE16 (k := fun e r => .lslRwEw r e) (by simp) fun _ _ => rfl
  · exact .last (i := .unlisted0F04) (by simp) rfl fun _ => rfl
  · exact .last (i := .unlisted0F05) (by simp) rfl fun _ => rfl
  · exact .last (i := .clts) (by simp) rfl fun _ => rfl
  · simp only [decode0F_undef b _ hb]
    exact .last (i := .undef0Fxx b) (by simp) (decide_eq_true hb) fun _ => rfl

/-- Behind the escape: the bare escape, at the end of the bytes, is an element of its own (R230). -/
theorem reads_decode0F : Reads [0x0F] decode0F := .orEnd (by decide) rfl ⟨rfl, rfl⟩ reads_second

theorem reads_row0 : ∀ lo : BitVec 4, Reads [0x0#4 ++ lo] (row0 lo.toNat) :=
  have le {b : Byte} : [b].length ≤ 2 := by simp
  forall_bitVec4 (P := fun lo => Reads [0x0#4 ++ lo] (row0 lo.toNat))
    (.rmE8 (k := .addEbRb) le fun _ _ => rfl) (.rmE16 (k := .addEwRw) le fun _ _ => rfl)
    (.rmE8 (k := fun e r => .addRbEb r e) le fun _ _ => rfl)
    (.rmE16 (k := fun e r => .addRwEw r e) le fun _ _ => rfl) (.imm8 fun _ => rfl) (.imm16 fun _ => rfl)
    (.one rfl) (.one rfl) (.rmE8 (k := .orEbRb) le fun _ _ => rfl) (.rmE16 (k := .orEwRw) le fun _ _ => rfl)
    (.rmE8 (k := fun e r => .orRbEb r e) le fun _ _ => rfl)
    (.rmE16 (k := fun e r => .orRwEw r e) le fun _ _ => rfl) (.imm8 fun _ => rfl) (.imm16 fun _ => rfl)
    (.one rfl) reads_decode0F

theorem reads_row1 : ∀ lo : BitVec 4, Reads [0x1#4 ++ lo] (row1 lo.toNat) :=
  have le {b : Byte} : [b].length ≤ 2 := by simp
  forall_bitVec4 (P := fun lo => Reads [0x1#4 ++ lo] (row1 lo.toNat))
    (.rmE8 (k := .adcEbRb) le fun _ _ => rfl) (.rmE16 (k := .adcEwRw) le fun _ _ => rfl)
    (.rmE8 (k := fun e r => .adcRbEb r e) le fun _ _ => rfl)
    (.rmE16 (k := fun e r => .adcRwEw r e) le fun _ _ => rfl) (.imm8 fun _ => rfl) (.imm16 fun _ => rfl)
    (.one rfl) (.one rfl) (.rmE8 (k := .sbbEbRb) le fun _ _ => rfl) (.rmE16 (k := .sbbEwRw) le fun _ _ => rfl)
    (.rmE8 (k := fun e r => .sbbRbEb r e) le fun _ _ => rfl)
    (.rmE16 (k := fun e r => .sbbRwEw r e) le fun _ _ => rfl) (.imm8 fun _ => rfl) (.imm16 fun _ => rfl)
    (.one rfl) (.one rfl)

theorem reads_row2 : ∀ lo : BitVec 4, Reads [0x2#4 ++ lo] (row2 lo.toNat) :=
  have le {b : Byte} : [b].length ≤ 2 := by simp
  forall_bitVec4 (P := fun lo => Reads [0x2#4 ++ lo] (row2 lo.toNat))
    (.rmE8 (k := .andEbRb) le fun _ _ => rfl) (.rmE16 (k := .andEwRw) le fun _ _ => rfl)
    (.rmE8 (k := fun e r => .andRbEb r e) le fun _ _ => rfl)
    (.rmE16 (k := fun e r => .andRwEw r e) le fun _ _ => rfl) (.imm8 fun _ => rfl) (.imm16 fun _ => rfl)
    (.one rfl) (.one rfl) (.rmE8 (k := .subEbRb) le fun _ _ => rfl) (.rmE16 (k := .subEwRw) le fun _ _ => rfl)
    (.rmE8 (k := fun e r => .subRbEb r e) le fun _ _ => rfl)
    (.rmE16 (k := fun e r => .subRwEw r e) le fun _ _ => rfl) (.imm8 fun _ => rfl) (.imm16 fun _ => rfl)
    (.one rfl) (.one rfl)

theorem reads_row3 : ∀ lo : BitVec 4, Reads [0x3#4 ++ lo] (row3 lo.toNat) :=
  have le {b : Byte} : [b].length ≤ 2 := by simp
  forall_bitVec4 (P := fun lo => Reads [0x3#4 ++ lo] (row3 lo.toNat))
    (.rmE8 (k := .xorEbRb) le fun _ _ => rfl) (.rmE16 (k := .xorEwRw) le fun _ _ => rfl)
    (.rmE8 (k := fun e r => .xorRbEb r e) le fun _ _ => rfl)
    (.rmE16 (k := fun e r => .xorRwEw r e) le fun _ _ => rfl) (.imm8 fun _ => rfl) (.imm16 fun _ => rfl)
    (.one rfl) (.one rfl) (.rmE8 (k := .cmpEbRb) le fun _ _ => rfl) (.rmE16 (k := .cmpEwRw) le fun _ _ => rfl)
    (.rmE8 (k := fun e r => .cmpRbEb r e) le fun _ _ => rfl)
    (.rmE16 (k := fun e r => .cmpRwEw r e) le fun _ _ => rfl) (.imm8 fun _ => rfl) (.imm16 fun _ => rfl)
    (.one rfl) (.one rfl)

theorem reads_row4 : ∀ lo : BitVec 4, Reads [0x4#4 ++ lo] (row4 lo.toNat) :=
  forall_bitVec4 (P := fun lo => Reads [0x4#4 ++ lo] (row4 lo.toNat))
    (.one rfl) (.one rfl) (.one rfl) (.one rfl) (.one rfl) (.one rfl) (.one rfl) (.one rfl) (.one rfl)
    (.one rfl) (.one rfl) (.one rfl) (.one rfl) (.one rfl) (.one rfl) (.one rfl)

theorem reads_row5 : ∀ lo : BitVec 4, Reads [0x5#4 ++ lo] (row5 lo.toNat) :=
  forall_bitVec4 (P := fun lo => Reads [0x5#4 ++ lo] (row5 lo.toNat))
    (.one rfl) (.one rfl) (.one rfl) (.one rfl) (.one rfl) (.one rfl) (.one rfl) (.one rfl) (.one rfl)
    (.one rfl) (.one rfl) (.one rfl) (.one rfl) (.one rfl) (.one rfl) (.one rfl)

theorem reads_row6 : ∀ lo : BitVec 4, Reads [0x6#4 ++ lo] (row6 lo.toNat) :=
  have le {b : Byte} : [b].length ≤ 2 := by simp
  forall_bitVec4 (P := fun lo => Reads [0x6#4 ++ lo] (row6 lo.toNat))
    (.one rfl) (.one rfl) (.rmE16 (k := fun e r => .boundRwMd r e) le fun _ _ => rfl)
    (.rmE16 (k := .arplEwRw) le fun _ _ => rfl) (.one rfl) (.one rfl) (.one rfl) (.one rfl)
    (.imm16 fun _ => rfl) (.rmE16Imm16 (k := fun e r => .imulRwEwDw r e) fun _ _ _ => rfl) (.imm8 fun _ => rfl)
    (.rmE16Imm8 (k := fun e r => .imulRwEwDb r e) fun _ _ _ => rfl) (.one rfl) (.one rfl) (.one rfl) (.one rfl)

theorem reads_row7 : ∀ lo : BitVec 4, Reads [0x7#4 ++ lo] (row7 lo.toNat) :=
  forall_bitVec4 (P := fun lo => Reads [0x7#4 ++ lo] (row7 lo.toNat))
    (.imm8 fun _ => rfl) (.imm8 fun _ => rfl) (.imm8 fun _ => rfl) (.imm8 fun _ => rfl) (.imm8 fun _ => rfl)
    (.imm8 fun _ => rfl) (.imm8 fun _ => rfl) (.imm8 fun _ => rfl) (.imm8 fun _ => rfl) (.imm8 fun _ => rfl)
    (.imm8 fun _ => rfl) (.imm8 fun _ => rfl) (.imm8 fun _ => rfl) (.imm8 fun _ => rfl) (.imm8 fun _ => rfl)
    (.imm8 fun _ => rfl)

theorem reads_row8 : ∀ lo : BitVec 4, Reads [0x8#4 ++ lo] (row8 lo.toNat) :=
  have le {b : Byte} : [b].length ≤ 2 := by simp
  forall_bitVec4 (P := fun lo => Reads [0x8#4 ++ lo] (row8 lo.toNat))
    (.group le reads_group80) (.group le reads_group81) (.one rfl) (.group le reads_group83)
    (.rmE8 (k := .testEbRb) le fun _ _ => rfl) (.rmE16 (k := .testEwRw) le fun _ _ => rfl)
    (.rmE8 (k := .xchgEbRb) le fun _ _ => rfl) (.rmE16 (k := .xchgEwRw) le fun _ _ => rfl)
    (.rmE8 (k := .movEbRb) le fun _ _ => rfl) (.rmE16 (k := .movEwRw) le fun _ _ => rfl)
    (.rmE8 (k := fun e r => .movRbEb r e) le fun _ _ => rfl)
    (.rmE16 (k := fun e r => .movRwEw r e) le fun _ _ => rfl) (.group le reads_group8C)
    (.rmE16 (k := fun e r => .leaRwM r e) le fun _ _ => rfl) (.group le reads_group8E) (.group le reads_group8F)

theorem reads_row9 : ∀ lo : BitVec 4, Reads [0x9#4 ++ lo] (row9 lo.toNat) :=
  forall_bitVec4 (P := fun lo => Reads [0x9#4 ++ lo] (row9 lo.toNat))
    (.one rfl) (.one rfl) (.one rfl) (.one rfl) (.one rfl) (.one rfl) (.one rfl) (.one rfl) (.one rfl)
    (.one rfl) (.imm32 fun _ _ => rfl) (.one rfl) (.one rfl) (.one rfl) (.one rfl) (.one rfl)

theorem reads_rowA : ∀ lo : BitVec 4, Reads [0xA#4 ++ lo] (rowA lo.toNat) :=
  forall_bitVec4 (P := fun lo => Reads [0xA#4 ++ lo] (rowA lo.toNat))
    (.imm16 fun _ => rfl) (.imm16 fun _ => rfl) (.imm16 fun _ => rfl) (.imm16 fun _ => rfl) (.one rfl)
    (.one rfl) (.one rfl) (.one rfl) (.imm8 fun _ => rfl) (.imm16 fun _ => rfl) (.one rfl) (.one rfl) (.one rfl)
    (.one rfl) (.one rfl) (.one rfl)

theorem reads_rowB : ∀ lo : BitVec 4, Reads [0xB#4 ++ lo] (rowB lo.toNat) :=
  forall_bitVec4 (P := fun lo => Reads [0xB#4 ++ lo] (rowB lo.toNat))
    (.imm8 fun _ => rfl) (.imm8 fun _ => rfl) (.imm8 fun _ => rfl) (.imm8 fun _ => rfl) (.imm8 fun _ => rfl)
    (.imm8 fun _ => rfl) (.imm8 fun _ => rfl) (.imm8 fun _ => rfl) (.imm16 fun _ => rfl) (.imm16 fun _ => rfl)
    (.imm16 fun _ => rfl) (.imm16 fun _ => rfl) (.imm16 fun _ => rfl) (.imm16 fun _ => rfl)
    (.imm16 fun _ => rfl) (.imm16 fun _ => rfl)

theorem reads_rowC : ∀ lo : BitVec 4, Reads [0xC#4 ++ lo] (rowC lo.toNat) :=
  have le {b : Byte} : [b].length ≤ 2 := by simp
  forall_bitVec4 (P := fun lo => Reads [0xC#4 ++ lo] (rowC lo.toNat))
    (.group le reads_groupC0) (.group le reads_groupC1) (.imm16 fun _ => rfl) (.one rfl)
    (.rmE16 (k := fun e r => .lesRwEd r e) le fun _ _ => rfl)
    (.rmE16 (k := fun e r => .ldsRwEd r e) le fun _ _ => rfl) (.group le reads_groupC6)
    (.group le reads_groupC7) .enter (.one rfl) (.imm16 fun _ => rfl) (.one rfl) (.one rfl) (.imm8 fun _ => rfl)
    (.one rfl) (.one rfl)

theorem reads_rowD : ∀ lo : BitVec 4, Reads [0xD#4 ++ lo] (rowD lo.toNat) :=
  have le {b : Byte} : [b].length ≤ 2 := by simp
  forall_bitVec4 (P := fun lo => Reads [0xD#4 ++ lo] (rowD lo.toNat))
    (.group le reads_groupD0) (.group le reads_groupD1) (.group le reads_groupD2) (.group le reads_groupD3)
    (.unlessTen rfl fun _ => rfl) (.unlessTen rfl fun _ => rfl) (.one rfl) (.one rfl) (.esc fun _ _ => rfl)
    (.esc fun _ _ => rfl) (.esc fun _ _ => rfl) (.esc fun _ _ => rfl) (.esc fun _ _ => rfl)
    (.esc fun _ _ => rfl) (.esc fun _ _ => rfl) (.esc fun _ _ => rfl)

theorem reads_rowE : ∀ lo : BitVec 4, Reads [0xE#4 ++ lo] (rowE lo.toNat) :=
  forall_bitVec4 (P := fun lo => Reads [0xE#4 ++ lo] (rowE lo.toNat))
    (.imm8 fun _ => rfl) (.imm8 fun _ => rfl) (.imm8 fun _ => rfl) (.imm8 fun _ => rfl) (.imm8 fun _ => rfl)
    (.imm8 fun _ => rfl) (.imm8 fun _ => rfl) (.imm8 fun _ => rfl) (.imm16 fun _ => rfl) (.imm16 fun _ => rfl)
    (.imm32 fun _ _ => rfl) (.imm8 fun _ => rfl) (.one rfl) (.one rfl) (.one rfl) (.one rfl)

theorem reads_rowF : ∀ lo : BitVec 4, Reads [0xF#4 ++ lo] (rowF lo.toNat) :=
  have le {b : Byte} : [b].length ≤ 2 := by simp
  forall_bitVec4 (P := fun lo => Reads [0xF#4 ++ lo] (rowF lo.toNat))
    (.one rfl) (.one rfl) (.one rfl) (.one rfl) (.one rfl) (.one rfl) (.group le reads_groupF6)
    (.group le reads_groupF7) (.one rfl) (.one rfl) (.one rfl) (.one rfl) (.one rfl) (.one rfl)
    (.group le reads_groupFE) (.group le reads_groupFF)

/-- The one-byte opcode map, by its two digits (R250). -/
theorem reads_decodeOp (b : Byte) : Reads [b] (decodeOp b) := by
  have hb : [b] = [b.extractLsb' 4 4 ++ b.extractLsb' 0 4] := by congr 1; revert b; decide
  rw [hb, decodeOp]
  generalize b.extractLsb' 0 4 = lo
  generalize b.extractLsb' 4 4 = hi
  revert hi
  exact forall_bitVec4 (reads_row0 lo) (reads_row1 lo) (reads_row2 lo) (reads_row3 lo) (reads_row4 lo) (reads_row5 lo)
    (reads_row6 lo) (reads_row7 lo) (reads_row8 lo) (reads_row9 lo) (reads_rowA lo) (reads_rowB lo) (reads_rowC lo)
    (reads_rowD lo) (reads_rowE lo) (reads_rowF lo)

theorem reads_decode : Reads [] decode := .take8 (by decide) reads_decodeOp

/-- An element has a first byte. -/
theorem length_pos_of_decode {pre rest : List Byte} {i : Instr} (h : decode (pre ++ rest) = .ok (i, rest)) :
    1 ≤ pre.length := by
  cases pre with
  | cons b pre => simp
  | nil =>
    exfalso
    cases rest with
    | nil => cases h
    | cons b bs =>
      obtain ⟨-, pre, hpre, -, -⟩ := (reads_decodeOp b).sound bs i (b :: bs) h
      have hlen := congrArg List.length hpre
      simp only [List.length_append, List.length_cons] at hlen
      omega

/-- Settles O2, by a rule for each piece of the decoder (`Reads`). -/
theorem encodeOfDecode : Obligations.EncodeOfDecode := by
  refine ⟨fun bs i rest h => ?_, fun bs hbs => reads_decode.answers bs (by simpa using hbs)⟩
  obtain ⟨hwf, pre, rfl, hlen, henc⟩ := reads_decode.sound bs i rest h
  refine ⟨hwf, pre, rfl, length_pos_of_decode h, by simpa using hlen, fun hu hs hl => ?_⟩
  exact henc fun hk => hk.elim hu fun hk => hk.elim hs hl

end Sys2Proof
end

section
/-!
# What every meaning keeps: the vocabulary

O5, O7, O8 and O9 say of every instruction what it leaves alone. `Keeps o s t` collects what they need, of a computation
that has led from `s` to `t` within an instruction that began in `o`; `Run.All` says that a computation keeps it, whether it
completes or stops with a state of its own. Each shared operation gets one lemma, and the instructions are read off.
-/

namespace Sys2Proof.Machine

/-- What a stop leaves behind, if it leaves a state of its own, satisfies `Q`. -/
def Stop.Leaves (Q : State → Prop) : Stop → Prop
  | .exc _ _ (some l) => Q l
  | .exc _ _ none => True
  | .refuse _ => True

/-- The answer of a computation satisfies `P`, and what a stop of it leaves behind `Q`. -/
def Run.All {α : Type} (Q : State → Prop) (P : α → Prop) : Run α → Prop
  | .ok a => P a
  | .error e => e.Leaves Q

/-- The next state of an instruction satisfies `P`. -/
def Out.All (P : State → Prop) : Out → Prop
  | .next t => P t
  | .fault _ => True
  | .refused _ => True

section RunAll

variable {α β : Type} {Q : State → Prop} {P : α → Prop}

@[simp] theorem Stop.leaves_none (v : Byte) (c : Option Word) : Stop.Leaves Q (.exc v c none) := trivial
@[simp] theorem Stop.leaves_some (v : Byte) (c : Option Word) (l : State) : Stop.Leaves Q (.exc v c (some l)) ↔ Q l := .rfl
@[simp] theorem Stop.leaves_refuse (q : Refusal) : Stop.Leaves Q (.refuse q) := trivial
@[simp] theorem Stop.leaves_ud : Stop.Leaves Q excUd := trivial
@[simp] theorem Stop.leaves_gp (c : Word) : Stop.Leaves Q (excGp c) := trivial
@[simp] theorem Stop.leaves_np (c : Word) : Stop.Leaves Q (excNp c) := trivial
@[simp] theorem Stop.leaves_ss (c : Word) : Stop.Leaves Q (excSs c) := trivial
@[simp] theorem Stop.leaves_ts (c : Word) : Stop.Leaves Q (excTs c) := trivial
@[simp] theorem Stop.leaves_leaving (v : Byte) (c : Word) (l : State) : Stop.Leaves Q (excLeaving v c l) ↔ Q l := .rfl
@[simp] theorem Stop.leaves_segFault (s : State) (x : SReg) : Stop.Leaves Q (s.segFault x) := by
  unfold State.segFault; split <;> trivial
@[simp] theorem Stop.leaves_divideError (s : State) :
    Stop.Leaves Q s.divideError ↔ Q (s.setFlags (s.flags.free s.free)) := .rfl

@[simp] theorem Run.all_ok (a : α) : Run.All Q P (.ok a) ↔ P a := .rfl

@[simp] theorem Run.all_error (e : Stop) : Run.All Q P (.error e) ↔ e.Leaves Q := .rfl

@[simp] theorem Run.all_pure (a : α) : Run.All Q P (pure a) ↔ P a := .rfl

@[simp] theorem Run.all_bind {P : β → Prop} (x : Run α) (f : α → Run β) :
    Run.All Q P (x >>= f) ↔ Run.All Q (fun a => Run.All Q P (f a)) x := by cases x <;> rfl

@[simp] theorem Run.all_check {P : Unit → Prop} (b : Bool) (e : Stop) :
    Run.All Q P (check b e) ↔ (b = true → P ()) ∧ (b = false → e.Leaves Q) := by cases b <;> simp [check]

@[simp] theorem Run.all_ite (c : Prop) [Decidable c] (x y : Run α) :
    Run.All Q P (if c then x else y) ↔ (c → Run.All Q P x) ∧ (¬c → Run.All Q P y) := by split <;> simp_all

theorem Run.All.imp {P' : α → Prop} {r : Run α} (h : Run.All Q P r) (hP : ∀ a, P a → P' a) : Run.All Q P' r := by
  cases r with
  | ok a => exact hP a h
  | error e => exact h

/-- A computation that stops with a state of its own only where `leaving` gives it one (R149). -/
theorem Run.all_leaving {t : State} {r : Run α} (ht : Q t) (h : Run.All (fun _ => True) P r) :
    Run.All Q P (leaving t r) := by
  match r with
  | .ok a => exact h
  | .error (.exc _ _ _) => exact ht
  | .error (.refuse _) => trivial

/-! What only reads, or writes one operand, leaves no state of its own. -/

variable (s : State)

@[simp] theorem Run.all_readSeg8 {P : Byte → Prop} (x : SReg) (off : Word) :
    Run.All Q P (s.readSeg8 x off) ↔ (s.canRead x off 1 = true → P (s.readPhys ((s.seg x).lin off))) := by
  simp [State.readSeg8]

@[simp] theorem Run.all_readSeg16 {P : Word → Prop} (x : SReg) (off : Word) :
    Run.All Q P (s.readSeg16 x off) ↔ (s.canRead x off 2 = true → P (s.readPhys16 ((s.seg x).lin off))) := by
  simp [State.readSeg16]

@[simp] theorem Run.all_writeSeg8 {P : State → Prop} (x : SReg) (off : Word) (v : Byte) :
    Run.All Q P (s.writeSeg8 x off v) ↔ (s.canWrite x off 1 = true → P (s.writePhys ((s.seg x).lin off) v)) := by
  simp [State.writeSeg8]

@[simp] theorem Run.all_writeSeg16 {P : State → Prop} (x : SReg) (off : Word) (v : Word) :
    Run.All Q P (s.writeSeg16 x off v) ↔ (s.canWrite x off 2 = true → P (s.writePhys16 ((s.seg x).lin off) v)) := by
  simp [State.writeSeg16]

@[simp] theorem Run.all_readE8 {P : Byte → Prop} (e : E8) :
    Run.All Q P (s.readE8 e) ↔ (s.canReadE8 e = true → P (s.val8 e)) := by
  cases e with
  | reg r => simp [State.readE8, State.canReadE8, State.val8]
  | mem m => simp [State.readE8, State.canReadE8, State.val8, State.addr]

@[simp] theorem Run.all_readE16 {P : Word → Prop} (e : E16) :
    Run.All Q P (s.readE16 e) ↔ (s.canReadE16 e = true → P (s.val16 e)) := by
  cases e with
  | reg r => simp [State.readE16, State.canReadE16, State.val16]
  | mem m => simp [State.readE16, State.canReadE16, State.val16, State.addr]

@[simp] theorem Run.all_writeE8 {P : State → Prop} (e : E8) (v : Byte) :
    Run.All Q P (s.writeE8 e v) ↔ (s.canWriteE8 e = true → P (s.put8 e v)) := by
  cases e with
  | reg r => simp [State.writeE8, State.canWriteE8, State.put8]
  | mem m => simp [State.writeE8, State.canWriteE8, State.put8, State.addr]

@[simp] theorem Run.all_writeE16 {P : State → Prop} (e : E16) (v : Word) :
    Run.All Q P (s.writeE16 e v) ↔ (s.canWriteE16 e = true → P (s.put16 e v)) := by
  cases e with
  | reg r => simp [State.writeE16, State.canWriteE16, State.put16]
  | mem m => simp [State.writeE16, State.canWriteE16, State.put16, State.addr]

theorem Run.all_readPointer {P : Word × Word → Prop} (e : E16) (h : ∀ p, P p) : Run.All Q P (s.readPointer e) := by
  cases e with
  | reg r => simp [State.readPointer, E16.memOnly]
  | mem m => simp [State.readPointer, E16.memOnly, State.readSeg32, h]

@[simp] theorem Run.all_push {P : State → Prop} (v : Word) :
    Run.All Q P (s.push v) ↔ (s.canWrite .ss (s.regs.sp - 2) 2 = true → P (s.pushRaw v)) := by
  simp [State.push, State.pushRaw, State.seg]

@[simp] theorem Run.all_pop {P : Word × State → Prop} :
    Run.All Q P s.pop ↔ (s.canRead .ss s.regs.sp 2 = true →
      P (s.readPhys16 (s.ss.lin s.regs.sp), s.setSp (s.regs.sp + 2))) := by
  simp [State.pop, State.seg]

theorem Run.all_desc {P : Desc → Prop} (sel : Word) (e : Stop) (he : e.Leaves Q) (h : ∀ d, P d) :
    Run.All Q P (s.desc sel e) := by
  unfold State.desc; split
  · exact h _
  · exact he

theorem Run.all_stackWord {P : Word → Prop} (k : Word) (h : ∀ v, P v) : Run.All Q P (s.stackWord k) := by
  simp [State.stackWord, h]

end RunAll

/-- In real mode every segment register is valid with the limit FFFFH (R60, R141). -/
def State.RealSegments (s : State) : Prop :=
  s.prot = false → ∀ x : SReg, (s.seg x).valid = true ∧ (s.seg x).limit = 0xFFFF

/-- The current TSS cannot be left (R710, D24). -/
def State.stuck (s : State) : Prop := s.tr.valid = false ∨ s.tr.limit.toNat < 41

/-- What an instruction that began in `o`, outside privilege level 0, keeps of the system state from `s` to `t`: all of it
but for a task switch, which sets TS (R67-R70, R171, R670, R720). -/
structure KeepsSystem (o s t : State) : Prop where
  gdtr : t.gdtr = s.gdtr
  idtr : t.idtr = s.idtr
  mp : t.msw.mp = s.msw.mp
  em : t.msw.em = s.msw.em
  ts : s.msw.ts = true → t.msw.ts = true
  halted : t.runState = .halted → s.runState = .halted
  task : t.msw.ts = false → t.ldtr = s.ldtr ∧ t.flags.iopl = s.flags.iopl
  ie : o.flags.iopl < o.cpl → t.msw.ts = false → t.flags.ie = true → s.flags.ie = true
  stuck : s.stuck → t.ldtr = s.ldtr ∧ t.tr = s.tr ∧ t.flags.iopl = s.flags.iopl ∧ t.msw.ts = s.msw.ts ∧
    (o.flags.iopl < o.cpl → t.flags.ie = true → s.flags.ie = true)

/-- WHAT A COMPUTATION OF AN INSTRUCTION THAT BEGAN IN `o` KEEPS FROM `s` TO `t`: protected mode, the canonical form of
memory, the real-mode form of the segment registers, and, in protected mode outside level 0, the system state. -/
structure Keeps (o s t : State) : Prop where
  pe : s.msw.pe = true → t.msw.pe = true
  mem : Memory.wf s.mem → Memory.wf t.mem
  real : s.RealSegments → t.RealSegments
  system : o.prot = true → o.cpl ≠ 0 → KeepsSystem o s t

theorem KeepsSystem.refl (o s : State) : KeepsSystem o s s :=
  ⟨rfl, rfl, rfl, rfl, id, id, fun _ => ⟨rfl, rfl⟩, fun _ _ => id, fun _ => ⟨rfl, rfl, rfl, rfl, fun _ => id⟩⟩

@[simp] theorem Keeps.refl (o s : State) : Keeps o s s := ⟨id, id, id, fun _ _ => .refl o s⟩

theorem KeepsSystem.trans {o s t u : State} (h : KeepsSystem o s t) (k : KeepsSystem o t u) : KeepsSystem o s u where
  gdtr := k.gdtr.trans h.gdtr
  idtr := k.idtr.trans h.idtr
  mp := k.mp.trans h.mp
  em := k.em.trans h.em
  ts := k.ts ∘ h.ts
  halted := h.halted ∘ k.halted
  task hu := by
    have ht : t.msw.ts = false := by
      cases ht : t.msw.ts
      · rfl
      · rw [k.ts ht] at hu; cases hu
    exact ⟨(k.task hu).1.trans (h.task ht).1, (k.task hu).2.trans (h.task ht).2⟩
  ie hl hu := by
    have ht : t.msw.ts = false := by
      cases ht : t.msw.ts
      · rfl
      · rw [k.ts ht] at hu; cases hu
    exact h.ie hl ht ∘ k.ie hl hu
  stuck hs := by
    obtain ⟨hldtr, htr, hiopl, hts, hie⟩ := h.stuck hs
    have ht : t.stuck := by unfold State.stuck; rw [htr]; exact hs
    obtain ⟨kldtr, ktr, kiopl, kts, kie⟩ := k.stuck ht
    exact ⟨kldtr.trans hldtr, ktr.trans htr, kiopl.trans hiopl, kts.trans hts, fun hl => hie hl ∘ kie hl⟩

theorem Keeps.trans {o s t u : State} (h : Keeps o s t) (k : Keeps o t u) : Keeps o s u :=
  ⟨k.pe ∘ h.pe, k.mem ∘ h.mem, k.real ∘ h.real, fun hp hc => (h.system hp hc).trans (k.system hp hc)⟩

/-- The registers that `Keeps` speaks of. -/
def State.system (s : State) :
    Msw × TableReg × TableReg × SysReg × SysReg × BitVec 2 × SegReg × SegReg × SegReg × SegReg :=
  (s.msw, s.gdtr, s.idtr, s.ldtr, s.tr, s.flags.iopl, s.es, s.cs, s.ss, s.ds)

/-- A change that leaves the system state alone, but for IF and a halt, which may end. -/
theorem KeepsSystem.of_eq {o s t : State} (hmsw : t.msw = s.msw) (hgdtr : t.gdtr = s.gdtr) (hidtr : t.idtr = s.idtr)
    (hldtr : t.ldtr = s.ldtr) (htr : t.tr = s.tr) (hiopl : t.flags.iopl = s.flags.iopl)
    (hie : t.flags.ie = true → s.flags.ie = true) (hrun : t.runState = .halted → s.runState = .halted) :
    KeepsSystem o s t :=
  ⟨hgdtr, hidtr, by rw [hmsw], by rw [hmsw], fun h => hmsw ▸ h, hrun, fun _ => ⟨hldtr, hiopl⟩,
    fun _ _ => hie, fun _ => ⟨hldtr, htr, hiopl, by rw [hmsw], fun _ => hie⟩⟩

/-- A change to neither the system state nor the segment registers, but that IF and a halt may end. -/
theorem Keeps.of_eq {o s t : State} (h : t.system = s.system) (hmem : Memory.wf s.mem → Memory.wf t.mem)
    (hie : t.flags.ie = true → s.flags.ie = true) (hrun : t.runState = .halted → s.runState = .halted) :
    Keeps o s t := by
  simp only [State.system, Prod.mk.injEq] at h
  obtain ⟨hmsw, hgdtr, hidtr, hldtr, htr, hiopl, hes, hcs, hss, hds⟩ := h
  refine ⟨fun h => hmsw ▸ h, hmem, fun hr hp x => ?_, fun _ _ => .of_eq hmsw hgdtr hidtr hldtr htr hiopl hie hrun⟩
  have hs := hr ((congrArg Msw.pe hmsw).symm.trans hp) x
  cases x <;> simp only [State.seg, hes, hcs, hss, hds] at hs ⊢ <;> exact hs

/-- A change to nothing that `Keeps` speaks of. -/
theorem Keeps.of_same {o s t : State} (h : t.system = s.system) (hmem : t.mem = s.mem) (hie : t.flags.ie = s.flags.ie)
    (hrun : t.runState = s.runState) : Keeps o s t :=
  .of_eq h (fun hm => hmem ▸ hm) (fun hf => hie ▸ hf) fun hr => hrun ▸ hr

/-! The operations on the state, one rule each. -/

section

variable {o s t : State}

@[simp] theorem keeps_set16 (r : Reg16) (v : Word) : Keeps o s (t.set16 r v) ↔ Keeps o s t :=
  ⟨fun h => h.trans (.of_same (s := t.set16 r v) rfl rfl rfl rfl), fun h => h.trans (.of_same rfl rfl rfl rfl)⟩

@[simp] theorem keeps_set8 (r : Reg8) (v : Byte) : Keeps o s (t.set8 r v) ↔ Keeps o s t :=
  ⟨fun h => h.trans (.of_same (s := t.set8 r v) rfl rfl rfl rfl), fun h => h.trans (.of_same rfl rfl rfl rfl)⟩

@[simp] theorem keeps_setSp (v : Word) : Keeps o s (t.setSp v) ↔ Keeps o s t :=
  ⟨fun h => h.trans (.of_same (s := t.setSp v) rfl rfl rfl rfl), fun h => h.trans (.of_same rfl rfl rfl rfl)⟩

@[simp] theorem keeps_setAx (v : Word) : Keeps o s (t.setAx v) ↔ Keeps o s t := keeps_set16 _ _

@[simp] theorem keeps_setDxAx (v w : Word) : Keeps o s (t.setDxAx v w) ↔ Keeps o s t := by simp [State.setDxAx]

@[simp] theorem keeps_decCx : Keeps o s t.decCx ↔ Keeps o s t := by simp [State.decCx]

@[simp] theorem keeps_goto (v : Word) : Keeps o s (t.goto v) ↔ Keeps o s t :=
  ⟨fun h => h.trans (.of_same (s := t.goto v) rfl rfl rfl rfl), fun h => h.trans (.of_same rfl rfl rfl rfl)⟩

@[simp] theorem keeps_advance : Keeps o s t.advance ↔ Keeps o s t := keeps_goto _

@[simp] theorem keeps_lockBus : Keeps o s t.lockBus ↔ Keeps o s t :=
  ⟨fun h => h.trans (.of_same (s := t.lockBus) rfl rfl rfl rfl), fun h => h.trans (.of_same rfl rfl rfl rfl)⟩

@[simp] theorem keeps_portOut8 (p : Word) (v : Byte) : Keeps o s (t.portOut8 p v) ↔ Keeps o s t :=
  ⟨fun h => h.trans (.of_same (s := t.portOut8 p v) rfl rfl rfl rfl), fun h => h.trans (.of_same rfl rfl rfl rfl)⟩

@[simp] theorem keeps_portOut16 (p v : Word) : Keeps o s (t.portOut16 p v) ↔ Keeps o s t := by simp [State.portOut16]

@[simp] theorem keeps_nmiDone : Keeps o s t.nmiDone ↔ Keeps o s t :=
  ⟨fun h => h.trans (.of_same (s := t.nmiDone) rfl rfl rfl rfl), fun h => h.trans (.of_same rfl rfl rfl rfl)⟩

@[simp] theorem keeps_attempt (n : Nat) : Keeps o s (t.attempt n) ↔ Keeps o s t :=
  ⟨fun h => h.trans (.of_same (s := t.attempt n) rfl rfl rfl rfl), fun h => h.trans (.of_same rfl rfl rfl rfl)⟩

@[simp] theorem keeps_inhibit (b : Bool) : Keeps o s { t with inhibit := b } ↔ Keeps o s t :=
  ⟨fun h => h.trans (.of_same (s := { t with inhibit := b }) rfl rfl rfl rfl), fun h => h.trans (.of_same rfl rfl rfl rfl)⟩

@[simp] theorem keeps_dec (d : Dec) : Keeps o s { t with dec := d } ↔ Keeps o s t :=
  ⟨fun h => h.trans (.of_same (s := { t with dec := d }) rfl rfl rfl rfl), fun h => h.trans (.of_same rfl rfl rfl rfl)⟩

@[simp] theorem keeps_use (u : Use) : Keeps o s { t with use := u } ↔ Keeps o s t :=
  ⟨fun h => h.trans (.of_same (s := { t with use := u }) rfl rfl rfl rfl), fun h => h.trans (.of_same rfl rfl rfl rfl)⟩

/-- Flags replaced by flags with the same IOPL and IF. -/
theorem Keeps.setFlags (h : Keeps o s t) {f : Flags} (hi : f.iopl = t.flags.iopl) (he : f.ie = t.flags.ie) :
    Keeps o s (t.setFlags f) :=
  h.trans (.of_same (by simp [State.system, hi]) rfl he rfl)

@[simp] theorem keeps_setFlags {f : Flags} (hi : f.iopl = t.flags.iopl) (he : f.ie = t.flags.ie) :
    Keeps o s (t.setFlags f) ↔ Keeps o s t :=
  ⟨fun h => h.trans (.of_same (s := t.setFlags f) (t := t) (by simp [State.system, hi]) rfl he.symm rfl),
    fun h => h.setFlags hi he⟩

@[simp] theorem Keeps.writePhys (h : Keeps o s t) (a : PAddr) (v : Byte) : Keeps o s (t.writePhys a v) := by
  refine h.trans (.of_eq ?_ (t.wf_writePhys a v) ?_ ?_) <;> simp [State.system]

@[simp] theorem Keeps.writePhys16 (h : Keeps o s t) (a : PAddr) (v : Word) : Keeps o s (t.writePhys16 a v) :=
  (h.writePhys a v.lo).writePhys (a + 1) v.hi

@[simp] theorem Keeps.put8 (h : Keeps o s t) (e : E8) (v : Byte) : Keeps o s (t.put8 e v) := by
  cases e with
  | reg r => exact (keeps_set8 r v).2 h
  | mem m => exact h.writePhys _ _

@[simp] theorem Keeps.put16 (h : Keeps o s t) (e : E16) (v : Word) : Keeps o s (t.put16 e v) := by
  cases e with
  | reg r => exact (keeps_set16 r v).2 h
  | mem m => exact h.writePhys16 _ _

@[simp] theorem Keeps.pushRaw (h : Keeps o s t) (v : Word) : Keeps o s (t.pushRaw v) :=
  (keeps_setSp _).2 (h.writePhys16 _ _)

/-- A segment register replaced, in real mode by one of the real-mode form. -/
theorem Keeps.setSeg (h : Keeps o s t) (x : SReg) {g : SegReg}
    (hg : t.prot = true ∨ g.valid = true ∧ g.limit = 0xFFFF) : Keeps o s (t.setSeg x g) := by
  have hmsw : (t.setSeg x g).msw = t.msw := by cases x <;> rfl
  refine h.trans ⟨fun h => hmsw ▸ h, ?_, fun hr hp y => ?_, fun _ _ => ?_⟩
  case refine_1 => cases x <;> exact id
  case refine_2 =>
    have hp' : t.prot = false := (congrArg Msw.pe hmsw).symm.trans hp
    have hg' : g.valid = true ∧ g.limit = 0xFFFF := hg.resolve_left (by simp [hp'])
    rw [State.seg_setSeg]
    split
    · exact hg'
    · exact hr hp' y
  case refine_3 => cases x <;> exact .of_eq rfl rfl rfl rfl rfl rfl id id

theorem Keeps.realLoad (h : Keeps o s t) (x : SReg) (g : SegReg) (sel : Word) :
    Keeps o s (t.setSeg x (g.realLoad sel)) := h.setSeg x (.inr ⟨rfl, rfl⟩)

@[simp] theorem Keeps.farReal (h : Keeps o s t) (sel off : Word) : Keeps o s (t.farReal sel off) :=
  (h.realLoad .cs t.cs sel).trans (.of_same rfl rfl rfl rfl)

theorem Keeps.loadCache (h : Keeps o s t) (hp : t.prot = true) (x : SReg) (sel : Word) (d : Desc) :
    Keeps o s (t.loadCache x sel d) :=
  (((keeps_lockBus).2 h).writePhys _ _).setSeg x (.inl (by simpa using hp))

end

end Sys2Proof.Machine
end

section
/-!
# What every meaning keeps: task switches and deliveries
-/

namespace Sys2Proof.Machine

variable {o s t : State}

/-! The task switch -/

/-- A STATE INSIDE A TASK SWITCH from `s`: TS is set, so the system state may be that of another task. -/
structure InTask (o s t : State) : Prop where
  keeps : Keeps o s t
  pe : t.msw.pe = true
  ts : t.msw.ts = true
  dec : t.dec = {}

/-- Once TS is set, the selectors, the LDT and the registers may change. -/
theorem Keeps.inTask {u : State} (h : Keeps o s t) (hs : ¬ s.stuck) (hpe : u.msw.pe = true) (hts : u.msw.ts = true)
    (hmem : Memory.wf t.mem → Memory.wf u.mem) (hgdtr : u.gdtr = t.gdtr) (hidtr : u.idtr = t.idtr)
    (hmp : u.msw.mp = t.msw.mp) (hem : u.msw.em = t.msw.em) (hrun : u.runState = t.runState) : Keeps o s u where
  pe _ := hpe
  mem := hmem ∘ h.mem
  real _ hp := absurd hpe (by simpa [State.prot] using hp)
  system hp hc :=
    have k := h.system hp hc
    { gdtr := hgdtr.trans k.gdtr, idtr := hidtr.trans k.idtr, mp := hmp.trans k.mp, em := hem.trans k.em
      ts := fun _ => hts, halted := fun hh => k.halted (hrun ▸ hh), task := fun ht => absurd hts (by simp [ht])
      ie := fun _ ht => absurd hts (by simp [ht]), stuck := fun h => absurd h hs }

/-- A descriptor loaded into a cache inside a task switch. -/
theorem InTask.loadCache (h : InTask o s t) (x : SReg) (sel : Word) (d : Desc) : InTask o s (t.loadCache x sel d) where
  keeps := h.keeps.loadCache h.pe x sel d
  pe := by simpa [State.loadCache, State.markAccessed] using h.pe
  ts := by simpa [State.loadCache, State.markAccessed] using h.ts
  dec := by simpa [State.loadCache, State.markAccessed] using h.dec

theorem InTask.pushRaw (h : InTask o s t) (v : Word) : InTask o s (t.pushRaw v) where
  keeps := h.keeps.pushRaw v
  pe := by simpa [State.pushRaw] using h.pe
  ts := by simpa [State.pushRaw] using h.ts
  dec := by simpa [State.pushRaw] using h.dec

theorem State.loadTaskLdt_keeps (h : InTask o s t) (hs : ¬ s.stuck) (x : Word) :
    Run.All (Keeps o s) (InTask o s) (t.loadTaskLdt x) := by
  have hload (l : SysReg) : InTask o s { t.lockBus with ldtr := l } :=
    ⟨h.keeps.inTask hs h.pe h.ts id rfl rfl rfl rfl rfl, h.pe, h.ts, h.dec⟩
  simp only [State.loadTaskLdt, Run.all_ite, Run.all_ok, Run.all_bind, Run.all_check, Run.all_pure,
    Stop.leaves_leaving, h.keeps, implies_true, and_true]
  exact ⟨fun _ => h, fun _ _ _ _ => hload _⟩

theorem State.loadTaskSs_keeps (h : InTask o s t) (x : Word) : Run.All (Keeps o s) (InTask o s) (t.loadTaskSs x) := by
  simp only [State.loadTaskSs, Run.all_bind, Run.all_check, Stop.leaves_leaving]
  refine ⟨fun _ => Run.all_desc _ _ _ h.keeps fun d => ?_, fun _ => h.keeps⟩
  simp [h.keeps, h.loadCache]

theorem State.loadTaskCs_keeps (h : InTask o s t) (x : Word) : Run.All (Keeps o s) (InTask o s) (t.loadTaskCs x) := by
  simp only [State.loadTaskCs, Run.all_bind, Run.all_check, Stop.leaves_leaving]
  refine ⟨fun _ => Run.all_desc _ _ _ h.keeps fun d => ?_, fun _ => h.keeps⟩
  simp [h.keeps, h.loadCache]

theorem State.loadTaskData_keeps (h : InTask o s t) (r : SReg) (p : Part) (x : Word) :
    Run.All (Keeps o s) (InTask o s) (t.loadTaskData r p x) := by
  simp only [State.loadTaskData, Run.all_ite, Run.all_ok, Run.all_bind]
  refine ⟨fun _ => h, fun _ => Run.all_desc _ _ _ h.keeps fun d => ?_⟩
  simp [h.keeps, h.loadCache]

@[simp] theorem Keeps.saveTask (h : Keeps o s t) (ip : Word) (f : Flags) : Keeps o s (t.saveTask ip f) := by
  unfold State.saveTask
  iterate 14 refine Keeps.writePhys16 ?_ _ _
  exact h

/-- Leaving a task that can be left changes no more of the system state than TR. -/
theorem State.leaveTask_keeps (hs : ¬ s.stuck) (h : Keeps o s t) (nsel : Word) (nd : Desc)
    (nesting : Bool) (cause : SwitchCause) (ip : Word) : Keeps o s (t.leaveTask nsel nd nesting cause ip) := by
  have htrOnly (u : State) (r : SysReg) (hu : Keeps o s u) : Keeps o s { u with tr := r } :=
    ⟨hu.pe, hu.mem, hu.real, fun hp hc =>
      { hu.system hp hc with stuck := fun h => absurd h hs }⟩
  unfold State.leaveTask
  refine htrOnly _ _ ?_
  split
  · exact (h.saveTask _ _).writePhys16 _ _
  · exact (h.saveTask _ _).writePhys _ _

theorem State.leaveTask_msw (nsel : Word) (nd : Desc) (nesting : Bool) (cause : SwitchCause) (ip : Word) :
    (s.leaveTask nsel nd nesting cause ip).msw = s.msw := by
  unfold State.leaveTask
  cases nesting <;> simp [State.saveTask]

/-- A TASK SWITCH keeps what it must, completed or not (R720, R723). -/
theorem State.switchTasks_keeps (hp : s.prot = true) (nsel : Word) (nd : Desc) (nesting : Bool) (cause : SwitchCause)
    (ip x : Word) : Run.All (Keeps o s) (InTask o s) (s.switchTasks nsel nd nesting cause ip x) := by
  have h1 : Keeps o s (s.lockBus.writePhys (nd.addr + 5) (nd.ar ||| 2)) := by simp
  simp only [State.switchTasks, Run.all_bind, Run.all_check, Stop.leaves_leaving]
  refine ⟨fun hc => ?_, fun _ => h1⟩
  have hs : ¬ s.stuck := by
    simp only [State.writePhys_tr, State.lockBus_tr, Bool.and_eq_true, decide_eq_true_eq] at hc
    simp [State.stuck, hc]
  have h5 : Keeps o s ((s.lockBus.writePhys (nd.addr + 5) (nd.ar ||| 2)).leaveTask nsel nd nesting cause ip) :=
    State.leaveTask_keeps hs h1 _ _ _ _ _
  refine ⟨fun _ => ?_, fun _ => h5⟩
  have hpe : ((s.lockBus.writePhys (nd.addr + 5) (nd.ar ||| 2)).leaveTask nsel nd nesting cause ip).msw.pe = true := by
    rw [State.leaveTask_msw]; simpa [State.prot] using hp
  have h9 : InTask o s (((s.lockBus.writePhys (nd.addr + 5) (nd.ar ||| 2)).leaveTask nsel nd nesting cause ip).loadTask
      nesting cause) := ⟨h5.inTask hs hpe rfl id rfl rfl rfl rfl rfl, hpe, rfl, rfl⟩
  refine (State.loadTaskLdt_keeps h9 hs x).imp fun a ha => ?_
  refine (State.loadTaskSs_keeps ha x).imp fun b hb => ?_
  refine (State.loadTaskCs_keeps hb x).imp fun c hc => ?_
  exact (State.loadTaskData_keeps hc .ds .dsSeg x).imp fun d hd => State.loadTaskData_keeps hd .es .esSeg x

theorem State.checkTaskIp_keeps (h : InTask o s t) (x : Word) :
    Run.All (Keeps o s) (InTask o s) (t.checkTaskIp x) := by
  simp [State.checkTaskIp, h, h.keeps]

/-! Deliveries -/

theorem State.taskGateEntry_keeps (hp : s.prot = true) (tsel : Word) (e : Event) :
    Run.All (Keeps o s) (Keeps o s) (s.taskGateEntry tsel e) := by
  simp only [State.taskGateEntry, Run.all_bind, Run.all_check, Stop.leaves_gp, Stop.leaves_np, implies_true, and_true]
  refine fun _ _ _ => (State.switchTasks_keeps hp _ _ _ _ _ _).imp fun n hn => ?_
  split
  case h_1 => exact (State.checkTaskIp_keeps hn _).imp fun _ h => h.keeps
  case h_2 c _ =>
    simp only [Run.all_bind, Run.all_check, Stop.leaves_leaving]
    exact ⟨fun _ => (State.checkTaskIp_keeps (hn.pushRaw c) _).imp fun _ h => h.keeps, fun _ => hn.keeps⟩

theorem State.enterReal_keeps (e : Event) : Run.All (Keeps o s) (Keeps o s) (s.enterReal e) := by
  have hoff (t : State) : Keeps o t { t with flags := { t.flags with ie := false, tf := false } } :=
    .of_eq rfl id (fun h => nomatch h) id
  simp only [State.enterReal, Run.all_bind, Run.all_check, Run.all_pure, Stop.leaves_none, Stop.leaves_gp, implies_true,
    and_true]
  exact fun _ _ => (((((Keeps.refl o s).pushRaw _).pushRaw _).pushRaw _).trans (hoff _)).farReal _ _

theorem Run.all_innerStack {Q : State → Prop} {P : Word × Word → Prop} (l : BitVec 2) (h : ∀ v, P v) :
    Run.All Q P (s.innerStack l) := by
  simp [State.innerStack, h]

theorem Run.all_innerStackDesc {Q : State → Prop} {P : Desc → Prop} (nss : Word) (l : BitVec 2) (x : Word)
    (h : ∀ d, P d) : Run.All Q P (s.innerStackDesc nss l x) := by
  simp only [State.innerStackDesc, Run.all_bind, Run.all_check, Stop.leaves_ts, implies_true, and_true]
  exact fun _ => Run.all_desc _ _ _ trivial fun d => by simp [h]

theorem Keeps.loadCs (h : Keeps o s t) (hp : t.prot = true) (sel : Word) (d : Desc) (p : BitVec 2) :
    Keeps o s (t.loadCs sel d p) := h.loadCache hp _ _ _

/-- The stack of an inner level and a code segment loaded. -/
theorem Keeps.loadInner (h : Keeps o s t) (hp : t.prot = true) (nss nsp sel : Word) (d c : Desc) (l : BitVec 2) :
    Keeps o s ((t.loadInnerStack nss nsp d).loadCs sel c l) := by
  refine Keeps.loadCs ((keeps_setSp _).2 (h.loadCache hp _ _ _)) ?_ _ _ _
  simpa [State.prot, State.loadInnerStack, State.loadCache, State.markAccessed] using hp

theorem Keeps.pushFrame (h : Keeps o s t) (f cs ip : Word) : Keeps o s (t.pushFrame f cs ip) :=
  ((h.pushRaw _).pushRaw _).pushRaw _

theorem Keeps.pushCode (h : Keeps o s t) (c : Option Word) : Keeps o s (t.pushCode c) := by
  cases c with
  | none => exact h
  | some c => exact h.pushRaw c

theorem State.enterInner_keeps (hp : s.prot = true) (e : Event) (g c : Desc) (n : Nat) :
    Run.All (Keeps o s) (Keeps o s) (s.enterInner e g c n) := by
  simp only [State.enterInner, Run.all_bind]
  refine Run.all_innerStack _ fun stk => Run.all_innerStackDesc _ _ _ fun d => ?_
  simp only [Run.all_check, Run.all_pure, Stop.leaves_ss, Stop.leaves_gp, implies_true, and_true]
  exact fun _ _ => (((((Keeps.refl o s).loadInner hp _ _ _ _ _ _).pushRaw _).pushRaw _).pushFrame _ _ _).pushCode _

theorem State.enterSame_keeps (hp : s.prot = true) (e : Event) (g c : Desc) (n : Nat) :
    Run.All (Keeps o s) (Keeps o s) (s.enterSame e g c n) := by
  simp only [State.enterSame, Run.all_bind, Run.all_check, Run.all_pure, Stop.leaves_ss, Stop.leaves_gp, implies_true,
    and_true]
  refine fun _ _ => (((Keeps.refl o s).pushFrame _ _ _).loadCs ?_ _ _ _).pushCode _
  simpa [State.prot, State.pushFrame, State.pushRaw] using hp

theorem Keeps.enterHandler (h : Keeps o s t) (off : Word) (b : Bool) : Keeps o s (t.enterHandler off b) :=
  h.trans (.of_eq rfl id (fun h => by cases b; exact h; cases h) id)

theorem State.enterProt_keeps (hp : s.prot = true) (e : Event) : Run.All (Keeps o s) (Keeps o s) (s.enterProt e) := by
  simp only [State.enterProt, Run.all_bind, Run.all_check, Run.all_ite, Stop.leaves_gp, Stop.leaves_np, implies_true,
    and_true]
  refine fun _ _ _ _ => ⟨fun _ => State.taskGateEntry_keeps hp _ _, fun _ _ => Run.all_desc _ _ _ trivial fun c _ _ _ => ?_⟩
  exact ⟨fun _ => (State.enterInner_keeps hp _ _ _ _).imp fun t h => h.enterHandler _ _,
    fun _ => (State.enterSame_keeps hp _ _ _ _).imp fun t h => h.enterHandler _ _⟩

/-- One attempt at an entry. -/
theorem State.enter_keeps (e : Event) : Run.All (Keeps o s) (Keeps o s) (s.enter e) := by
  unfold State.enter
  split
  case isTrue h => exact State.enterProt_keeps h e
  case isFalse => exact State.enterReal_keeps e

/-- What an attempt leaves behind. -/
theorem State.attempt_left {n : Nat} {e : Event} {v : Byte} {c : Option Word} {left : Option State}
    (h : (s.attempt n).enter e = .error (.exc v c left)) : Keeps o s (left.getD s) := by
  have hk := State.enter_keeps (o := o) (s := s.attempt n) e
  rw [h] at hk
  cases left with
  | none => exact .refl o s
  | some l => exact ((keeps_attempt n).2 (.refl o s)).trans hk

theorem State.attempt_ok {n : Nat} {e : Event} (h : (s.attempt n).enter e = .ok t) : Keeps o s t := by
  have hk := State.enter_keeps (o := o) (s := s.attempt n) e
  rw [h] at hk
  exact ((keeps_attempt n).2 (.refl o s)).trans hk

theorem Keeps.shutdown (h : Keeps o s t) : Keeps o s t.shutdown := h.trans (.of_eq rfl id id fun h => nomatch h)

theorem State.doubleFault_keeps (h : s.doubleFault = .ok t) : Keeps o s t := by
  unfold State.doubleFault at h
  split at h
  case h_1 => cases h; exact State.attempt_ok ‹_›
  case h_2 => cases h; exact (State.attempt_left ‹_›).shutdown
  case h_3 => cases h

theorem State.deliverFailure_keeps {v : Byte} {c : Option Word} (h : s.deliverFailure v c = .ok t) : Keeps o s t := by
  unfold State.deliverFailure at h
  split at h
  case isTrue => exact State.doubleFault_keeps h
  case isFalse =>
    split at h
    case h_1 => cases h; exact State.attempt_ok ‹_›
    case h_2 => exact (State.attempt_left ‹_›).trans (State.doubleFault_keeps h)
    case h_3 => cases h

theorem State.escalate_keeps {e : Event} (h : s.escalate e = .ok t) : Keeps o s t := by
  unfold State.escalate at h
  split at h
  case h_1 => cases h; exact State.attempt_ok ‹_›
  case h_2 => cases h
  case h_3 =>
    refine (State.attempt_left ‹_›).trans ?_
    simp only at h
    split at h
    case isTrue => cases h; exact (Keeps.refl o _).shutdown
    case isFalse =>
      split at h
      · exact State.doubleFault_keeps h
      · exact State.deliverFailure_keeps h

/-- TAKING AN INTERRUPT OR EXCEPTION keeps what it must, whichever entry comes of it (R845, R880). -/
theorem State.deliver_keeps {e : Event} (h : s.deliver e = .ok t) : Keeps o s t := by
  unfold State.deliver at h
  split at h
  case h_1 => cases h; exact (keeps_use _).2 (State.escalate_keeps ‹_›)
  case h_2 => cases h

/-! How a meaning becomes an outcome -/

/-- Nothing is remembered of the instruction but that it is executed again (R552, R752). -/
def State.Ended (t : State) : Prop := t.dec = {} ∨ t.dec = { phase := .repeating } ∨ t.dec = { phase := .waiting }

/-- AN INSTRUCTION THAT IS NO PREFIX GOES FROM `s` TO `t`. -/
structure Good (s t : State) : Prop where
  keeps : Keeps s s t
  ended : t.Ended

/-- A meaning that completes well, or stops in a state that keeps what it must. -/
abbrev Run.Good (s : State) (r : Run State) : Prop := Run.All (Keeps s s) (Machine.Good s) r

theorem State.ended_of_dec (h : t.dec = {}) : t.Ended := .inl h

theorem Run.Good.finish {r : Run State} (h : Run.Good s r) : Out.All (Machine.Good s) (s.finish r) := by
  have hexc (u : State) (hu : Keeps s s u) (v : Byte) (c : Option Word) (t : State) (ht : u.takeException v c = .ok t) :
      Machine.Good s t := ⟨hu.trans (State.deliver_keeps ht), .inl (u.deliver_dec _ t ht)⟩
  cases hf : s.finish r with
  | fault f => trivial
  | refused q => trivial
  | next t =>
    rcases s.finish_next r t hf with rfl | ⟨v, c, left, rfl, ht⟩
    · exact h
    · cases left with
      | none => exact hexc s (.refl s s) v c t ht
      | some l => exact hexc l h v c t ht

theorem State.softInt_good (v : Byte) : Out.All (Good s) (s.softInt v) := by
  unfold State.softInt
  split
  case h_1 h => exact ⟨State.deliver_keeps h, .inl (s.deliver_dec _ _ h)⟩
  case h_2 => trivial

end Sys2Proof.Machine
end

section
/-!
# What every meaning keeps: the operations the instructions share
-/

namespace Sys2Proof.Machine

variable {o s t : State}

/-! Completions -/

@[simp] theorem good_advance : Good s t.advance ↔ Keeps s s t :=
  ⟨fun h => keeps_advance.1 h.keeps, fun h => ⟨keeps_advance.2 h, .inl rfl⟩⟩

@[simp] theorem good_goto (v : Word) : Good s (t.goto v) ↔ Keeps s s t :=
  ⟨fun h => (keeps_goto v).1 h.keeps, fun h => ⟨(keeps_goto v).2 h, .inl rfl⟩⟩

@[simp] theorem good_setSp (v : Word) : Good s (t.setSp v) ↔ Good s t :=
  ⟨fun h => ⟨(keeps_setSp v).1 h.keeps, h.ended⟩, fun h => ⟨(keeps_setSp v).2 h.keeps, h.ended⟩⟩

@[simp] theorem good_nmiDone : Good s t.nmiDone ↔ Good s t :=
  ⟨fun h => ⟨keeps_nmiDone.1 h.keeps, h.ended⟩, fun h => ⟨keeps_nmiDone.2 h.keeps, h.ended⟩⟩

theorem InTask.good (h : InTask s s t) : Good s t := ⟨h.keeps, .inl h.dec⟩

/-- Completion with new flags, IOPL and IF kept. -/
theorem Keeps.completeWith (h : Keeps s s t) {f : Flags} (hi : f.iopl = t.flags.iopl) (he : f.ie = t.flags.ie) :
    Good s (t.setFlags f).advance := good_advance.2 (h.setFlags hi he)

/-! Flags: no computation touches IOPL or IF. -/

section

variable {w : Nat} (f : Flags)

@[simp] theorem Flags.iopl_add (a b : BitVec w) (c : Bool) : (f.add a b c).iopl = f.iopl := by cases f; rfl
@[simp] theorem Flags.ie_add (a b : BitVec w) (c : Bool) : (f.add a b c).ie = f.ie := by cases f; rfl
@[simp] theorem Flags.iopl_sub (a b : BitVec w) (c : Bool) : (f.sub a b c).iopl = f.iopl := by cases f; rfl
@[simp] theorem Flags.ie_sub (a b : BitVec w) (c : Bool) : (f.sub a b c).ie = f.ie := by cases f; rfl
@[simp] theorem Flags.iopl_logic (n : Nat) (a : BitVec w) : (f.logic n a).iopl = f.iopl := by cases f; rfl
@[simp] theorem Flags.ie_logic (n : Nat) (a : BitVec w) : (f.logic n a).ie = f.ie := by cases f; rfl
@[simp] theorem Flags.iopl_inc (a : BitVec w) : (f.inc a).iopl = f.iopl := by cases f; rfl
@[simp] theorem Flags.ie_inc (a : BitVec w) : (f.inc a).ie = f.ie := by cases f; rfl
@[simp] theorem Flags.iopl_dec (a : BitVec w) : (f.dec a).iopl = f.iopl := by cases f; rfl
@[simp] theorem Flags.ie_dec (a : BitVec w) : (f.dec a).ie = f.ie := by cases f; rfl
@[simp] theorem Flags.iopl_free (n : Nat) : (f.free n).iopl = f.iopl := by cases f; rfl
@[simp] theorem Flags.ie_free (n : Nat) : (f.free n).ie = f.ie := by cases f; rfl
@[simp] theorem Flags.iopl_mul (n : Nat) (b : Bool) : (f.mul n b).iopl = f.iopl := by cases f; rfl
@[simp] theorem Flags.ie_mul (n : Nat) (b : Bool) : (f.mul n b).ie = f.ie := by cases f; rfl

@[simp] theorem AluOp.iopl_flags (op : AluOp) (n : Nat) (a b : BitVec w) : (op.flags f n a b).iopl = f.iopl := by
  cases op <;> cases f <;> rfl
@[simp] theorem AluOp.ie_flags (op : AluOp) (n : Nat) (a b : BitVec w) : (op.flags f n a b).ie = f.ie := by
  cases op <;> cases f <;> rfl

@[simp] theorem Flags.iopl_shift (n : Nat) (op : ShiftOp) (k : Nat) (x : BitVec w) : (f.shift n op k x).iopl = f.iopl := by
  cases op <;> cases k <;> cases f <;> rfl
@[simp] theorem Flags.ie_shift (n : Nat) (op : ShiftOp) (k : Nat) (x : BitVec w) : (f.shift n op k x).ie = f.ie := by
  cases op <;> cases k <;> cases f <;> rfl

end

/-! Arithmetic -/

theorem State.undefinedFlags_keeps : Keeps s s (s.setFlags (s.flags.free s.free)) :=
  (Keeps.refl s s).setFlags rfl rfl

theorem State.aluRefused_keeps (op : AluOp) : Keeps s s (s.aluRefused op) := by
  unfold State.aluRefused
  split
  · exact s.undefinedFlags_keeps
  · exact .refl s s

theorem State.aluE8_good (op : AluOp) (e : E8) (b : Byte) : Run.Good s (s.aluE8 op e b) := by
  simp only [State.aluE8, Run.all_bind, Run.all_readE8]
  exact fun _ => Run.all_leaving (s.aluRefused_keeps op) (by simp)

theorem State.aluE16_good (op : AluOp) (e : E16) (b : Word) : Run.Good s (s.aluE16 op e b) := by
  simp only [State.aluE16, Run.all_bind, Run.all_readE16]
  exact fun _ => Run.all_leaving (s.aluRefused_keeps op) (by simp)

theorem State.aluR8_good (op : AluOp) (r : Reg8) (e : E8) : Run.Good s (s.aluR8 op r e) := by
  simp only [State.aluR8, Run.all_bind, Run.all_readE8, Run.all_pure]
  exact fun _ => Keeps.completeWith (by simp) (by simp) (by simp)

theorem State.aluR16_good (op : AluOp) (r : Reg16) (e : E16) : Run.Good s (s.aluR16 op r e) := by
  simp only [State.aluR16, Run.all_bind, Run.all_readE16, Run.all_pure]
  exact fun _ => Keeps.completeWith (by simp) (by simp) (by simp)

theorem State.cmpE8_good (e : E8) (b : Byte) : Run.Good s (s.cmpE8 e b) := by
  simp only [State.cmpE8, Run.all_bind, Run.all_readE8, Run.all_pure]
  exact fun _ => Keeps.completeWith (by simp) (by simp) (by simp)

theorem State.cmpE16_good (e : E16) (b : Word) : Run.Good s (s.cmpE16 e b) := by
  simp only [State.cmpE16, Run.all_bind, Run.all_readE16, Run.all_pure]
  exact fun _ => Keeps.completeWith (by simp) (by simp) (by simp)

theorem State.cmpR8_good (r : Reg8) (e : E8) : Run.Good s (s.cmpR8 r e) := by
  simp only [State.cmpR8, Run.all_bind, Run.all_readE8, Run.all_pure]
  exact fun _ => Keeps.completeWith (by simp) (by simp) (by simp)

theorem State.cmpR16_good (r : Reg16) (e : E16) : Run.Good s (s.cmpR16 r e) := by
  simp only [State.cmpR16, Run.all_bind, Run.all_readE16, Run.all_pure]
  exact fun _ => Keeps.completeWith (by simp) (by simp) (by simp)

theorem State.testE8_good (e : E8) (b : Byte) : Run.Good s (s.testE8 e b) := by
  simp only [State.testE8, Run.all_bind, Run.all_readE8, Run.all_pure]
  exact fun _ => Keeps.completeWith (by simp) (by simp) (by simp)

theorem State.testE16_good (e : E16) (b : Word) : Run.Good s (s.testE16 e b) := by
  simp only [State.testE16, Run.all_bind, Run.all_readE16, Run.all_pure]
  exact fun _ => Keeps.completeWith (by simp) (by simp) (by simp)


theorem State.updateE8_good (e : E8) (g : Byte → Byte) (fl : Byte → Flags) (hi : ∀ a, (fl a).iopl = s.flags.iopl)
    (he : ∀ a, (fl a).ie = s.flags.ie) : Run.Good s (s.updateE8 e g fl) := by
  simp only [State.updateE8, Run.all_bind, Run.all_readE8, Run.all_writeE8, Run.all_pure]
  exact fun _ _ => Keeps.completeWith (by simp) (by simp [hi]) (by simp [he])

theorem State.updateE16_good (e : E16) (g : Word → Word) (fl : Word → Flags) (hi : ∀ a, (fl a).iopl = s.flags.iopl)
    (he : ∀ a, (fl a).ie = s.flags.ie) : Run.Good s (s.updateE16 e g fl) := by
  simp only [State.updateE16, Run.all_bind, Run.all_readE16, Run.all_writeE16, Run.all_pure]
  exact fun _ _ => Keeps.completeWith (by simp) (by simp [hi]) (by simp [he])

theorem State.mul8_good (e : E8) : Run.Good s (s.mul8 e) := by
  simp only [State.mul8, Run.all_bind, Run.all_readE8, Run.all_pure]
  exact fun _ => Keeps.completeWith (by simp) rfl rfl

theorem State.mul16_good (e : E16) : Run.Good s (s.mul16 e) := by
  simp only [State.mul16, Run.all_bind, Run.all_readE16, Run.all_pure]
  exact fun _ => Keeps.completeWith (by simp) rfl rfl

theorem State.imul8_good (e : E8) : Run.Good s (s.imul8 e) := by
  simp only [State.imul8, Run.all_bind, Run.all_readE8, Run.all_pure]
  exact fun _ => Keeps.completeWith (by simp) rfl rfl

theorem State.imul16_good (e : E16) : Run.Good s (s.imul16 e) := by
  simp only [State.imul16, Run.all_bind, Run.all_readE16, Run.all_pure]
  exact fun _ => Keeps.completeWith (by simp) rfl rfl

theorem State.imulImm_good (r : Reg16) (e : E16) (i : Word) : Run.Good s (s.imulImm r e i) := by
  simp only [State.imulImm, Run.all_bind, Run.all_readE16, Run.all_pure]
  exact fun _ => Keeps.completeWith (by simp) rfl rfl

theorem State.div8_good (e : E8) : Run.Good s (s.div8 e) := by
  simp only [State.div8, Run.all_bind, Run.all_readE8, Run.all_check, Run.all_pure, Stop.leaves_divideError, s.undefinedFlags_keeps,
    implies_true, and_true]
  exact fun _ _ _ => Keeps.completeWith (by simp) rfl rfl

theorem State.div16_good (e : E16) : Run.Good s (s.div16 e) := by
  simp only [State.div16, Run.all_bind, Run.all_readE16, Run.all_check, Run.all_pure, Stop.leaves_divideError, s.undefinedFlags_keeps,
    implies_true, and_true]
  exact fun _ _ _ => Keeps.completeWith (by simp) rfl rfl

theorem State.idiv8_good (e : E8) : Run.Good s (s.idiv8 e) := by
  simp only [State.idiv8, Run.all_bind, Run.all_readE8, Run.all_check, Run.all_pure, Stop.leaves_divideError, s.undefinedFlags_keeps,
    implies_true, and_true]
  exact fun _ _ _ => Keeps.completeWith (by simp) rfl rfl

theorem State.idiv16_good (e : E16) : Run.Good s (s.idiv16 e) := by
  simp only [State.idiv16, Run.all_bind, Run.all_readE16, Run.all_check, Run.all_pure, Stop.leaves_divideError, s.undefinedFlags_keeps,
    implies_true, and_true]
  exact fun _ _ _ => Keeps.completeWith (by simp) rfl rfl


theorem State.shiftRefused_keeps (op : ShiftOp) : Keeps s s (s.shiftRefused op) := by
  unfold State.shiftRefused
  split
  · exact (Keeps.refl s s).setFlags rfl rfl
  · exact .refl s s

theorem State.shift8_good (op : ShiftOp) (e : E8) (n : Byte) : Run.Good s (s.shift8 op e n) := by
  simp only [State.shift8, Run.all_bind, Run.all_readE8]
  exact fun _ => Run.all_leaving (s.shiftRefused_keeps op) (by simp)

theorem State.shift16_good (op : ShiftOp) (e : E16) (n : Byte) : Run.Good s (s.shift16 op e n) := by
  simp only [State.shift16, Run.all_bind, Run.all_readE16]
  exact fun _ => Run.all_leaving (s.shiftRefused_keeps op) (by simp)

theorem State.decimal_good (f : Byte → Byte → Byte) : Good s (s.decimal f) :=
  Keeps.completeWith ((keeps_set8 _ _).2 (.refl s s)) rfl rfl

theorem State.ascii_good (f : Byte → Byte → Byte) : Good s (s.ascii f) :=
  Keeps.completeWith ((keeps_setAx _).2 (.refl s s)) rfl rfl

theorem State.aam_good : Good s s.aam := Keeps.completeWith ((keeps_setAx _).2 (.refl s s)) rfl rfl

theorem State.aad_good : Good s s.aad := Keeps.completeWith ((keeps_setAx _).2 (.refl s s)) rfl rfl

/-! Data movement -/

theorem State.storeE8_good (e : E8) (v : Byte) : Run.Good s (s.storeE8 e v) := by simp [State.storeE8]
theorem State.storeE16_good (e : E16) (v : Word) : Run.Good s (s.storeE16 e v) := by simp [State.storeE16]
theorem State.pushOp_good (v : Word) : Run.Good s (s.pushOp v) := by simp [State.pushOp]

theorem State.popMem_good (m : Mem) : Run.Good s (s.popMem m) := by simp [State.popMem]

theorem State.loadData_keeps (x : SReg) (sel : Word) : Run.All (Keeps s s) (Keeps s s) (s.loadData x sel) := by
  cases hp : s.prot with
  | false => simpa [State.loadData, hp] using (Keeps.refl s s).realLoad x _ sel
  | true =>
    have hnull : Keeps s s (s.loadNull x sel) := (Keeps.refl s s).setSeg x (.inl hp)
    simp only [State.loadData, hp, if_true, Run.all_ite, Run.all_ok, hnull, implies_true, true_and]
    refine fun _ => ?_
    simp only [State.loadDataProt, Run.all_bind]
    exact Run.all_desc _ _ _ trivial fun d => by simp [(Keeps.refl s s).loadCache hp]

theorem State.loadSs_keeps (sel : Word) : Run.All (Keeps s s) (Keeps s s) (s.loadSs sel) := by
  cases hp : s.prot with
  | false => simpa [State.loadSs, hp] using (Keeps.refl s s).realLoad .ss _ sel
  | true =>
    simp only [State.loadSs, hp, if_true, State.loadSsProt, Run.all_bind, Run.all_check, Stop.leaves_gp, implies_true,
      and_true]
    exact fun _ => Run.all_desc _ _ _ trivial fun d => by simp [(Keeps.refl s s).loadCache hp]

theorem State.loadPointer_good (x : SReg) (r : Reg16) (e : E16) : Run.Good s (s.loadPointer x r e) := by
  simp only [State.loadPointer, Run.all_bind]
  refine Run.all_readPointer s e fun p => (s.loadData_keeps x p.2).imp fun t h => ?_
  simpa using h

theorem State.lockE8_keeps (e : E8) : Keeps s s (s.lockE8 e) := by cases e <;> simp [State.lockE8]
theorem State.lockE16_keeps (e : E16) : Keeps s s (s.lockE16 e) := by cases e <;> simp [State.lockE16]

theorem Keeps.pushWords (h : Keeps o s t) (vs : List Word) : Keeps o s (t.pushWords vs) := by
  induction vs generalizing t with
  | nil => exact h
  | cons v vs ih => exact ih (h.pushRaw v)

theorem Keeps.pushaWrap (h : Keeps o s t) (sp : Word) (k : Nat) (vs : List Word) : Keeps o s (t.pushaWrap sp k vs) := by
  induction vs generalizing t k with
  | nil => exact h
  | cons v vs ih =>
    refine ih ?_ (k + 1)
    split
    · exact h.writePhys16 _ _
    · exact h

theorem Keeps.popWords (h : Keeps o s t) (sp : Word) (rs : List (Nat × Reg16)) : Keeps o s (t.popWords sp rs) := by
  induction rs generalizing t with
  | nil => exact h
  | cons r rs ih => exact ih ((keeps_set16 _ _).2 h)

theorem Keeps.popaWrap (h : Keeps o s t) (sp : Word) (rs : List (Nat × Reg16)) : Keeps o s (t.popaWrap sp rs) := by
  induction rs generalizing t with
  | nil => exact h
  | cons r rs ih =>
    refine ih ?_
    split
    · exact (keeps_set16 _ _).2 h
    · exact h

theorem State.pusha_good : Run.Good s s.pusha := by
  have hpush := (Keeps.refl s s).pushWords s.pushaWords
  have hwrap := (Keeps.refl s s).pushaWrap s.regs.sp 0 s.pushaWords
  simp [State.pusha, hpush, hwrap]

theorem State.popa_good : Run.Good s s.popa := by
  have hpop := (Keeps.refl s s).popWords s.regs.sp popaRegs
  have hwrap := (Keeps.refl s s).popaWrap s.regs.sp popaRegs
  simp [State.popa, hpop, hwrap]

/-- POPF and IRET load no more of the flags than the privilege level allows (R323, R500). -/
theorem State.loadFlags_keeps (w : Word) : Keeps s s (s.setFlags (s.loadFlags w)) where
  pe := id
  mem := id
  real := id
  system _ hc :=
    have hiopl : (s.loadFlags w).iopl = s.flags.iopl := if_neg fun h => hc h.2
    have hie (hl : s.flags.iopl < s.cpl) (h : (s.loadFlags w).ie = true) : s.flags.ie = true := by
      rwa [State.loadFlags, if_neg (BitVec.not_le.2 hl)] at h
    { KeepsSystem.refl s s with
      task := fun _ => ⟨rfl, hiopl⟩, ie := fun hl _ => hie hl, stuck := fun _ => ⟨rfl, rfl, hiopl, rfl, hie⟩ }

/-! Control transfers -/

theorem State.nearJump_good (h : Keeps s s t) (v : Word) : Run.Good s (t.nearJump v) := by simp [State.nearJump, h]

theorem State.jumpIf_good (h : Keeps s s t) (c : Bool) (d : Byte) : Run.Good s (t.jumpIf c d) := by
  simp [State.jumpIf, h, State.nearJump_good]

theorem State.loopIf_good (c : Bool) (d : Byte) : Run.Good s (s.loopIf c d) := State.jumpIf_good (by simp) _ _

theorem State.nearCall_good (v : Word) : Run.Good s (s.nearCall v) := by simp [State.nearCall]

theorem State.retNear_good (n : Word) : Run.Good s (s.retNear n) := by
  simp only [State.retNear, Run.all_bind]
  exact Run.all_stackWord s _ fun v => by simp

/-- A state in protected mode reached from `s`. -/
structure InProt (s t : State) : Prop where
  keeps : Keeps s s t
  prot : t.prot = true

theorem InProt.refl (hp : s.prot = true) : InProt s s := ⟨.refl s s, hp⟩

theorem InProt.loadCache (h : InProt s t) (x : SReg) (sel : Word) (d : Desc) : InProt s (t.loadCache x sel d) :=
  ⟨h.keeps.loadCache h.prot x sel d, by simpa [State.prot, State.loadCache, State.markAccessed] using h.prot⟩

theorem InProt.loadCs (h : InProt s t) (sel : Word) (d : Desc) (p : BitVec 2) : InProt s (t.loadCs sel d p) :=
  h.loadCache _ _ _

theorem InProt.goto (h : InProt s t) (v : Word) : InProt s (t.goto v) := ⟨(keeps_goto v).2 h.keeps, h.prot⟩

theorem InProt.setSp (h : InProt s t) (v : Word) : InProt s (t.setSp v) := ⟨(keeps_setSp v).2 h.keeps, h.prot⟩

theorem InProt.pushRaw (h : InProt s t) (v : Word) : InProt s (t.pushRaw v) :=
  ⟨h.keeps.pushRaw v, by simpa [State.prot, State.pushRaw] using h.prot⟩

theorem InProt.pushReversed (h : InProt s t) (vs : List Word) : InProt s (t.pushReversed vs) := by
  induction vs with
  | nil => exact h
  | cons v vs ih => exact ih.pushRaw v

/-- `NullIfInvalid` makes the register null or does nothing (R492). -/
theorem State.nullIfInvalid_cases (t : State) (x : SReg) :
    t.nullIfInvalid x = t.setSeg x { t.seg x with sel := 0, ar := 0, valid := false } ∨ t.nullIfInvalid x = t :=
  ite_eq_or_eq ..

theorem InProt.nullIfInvalid (h : InProt s t) (x : SReg) : InProt s (t.nullIfInvalid x) := by
  rcases t.nullIfInvalid_cases x with e | e
  · rw [e]
    exact ⟨h.keeps.setSeg x (.inl h.prot), by simpa [State.prot] using h.prot⟩
  · rwa [e]

theorem InProt.good (h : InProt s t) (hd : t.dec = {}) : Good s t := ⟨h.keeps, .inl hd⟩

/-- Making DS or ES null leaves nothing else changed. -/
theorem State.nullIfInvalid_dec (x : SReg) : (t.nullIfInvalid x).dec = t.dec := by
  rcases t.nullIfInvalid_cases x with e | e <;> simp [e]

theorem State.farReal_good (h : Keeps s s t) (sel off : Word) : Good s (t.farReal sel off) :=
  ⟨h.farReal sel off, .inl rfl⟩

theorem State.farSame_good (hp : s.prot = true) (k : FarKind) (sel off : Word) (c : Desc) :
    Run.Good s (s.farSame k sel off c) := by
  have h := InProt.refl hp
  simp only [State.farSame, Run.all_bind, Run.all_check, Run.all_pure, Stop.leaves_ss, Stop.leaves_gp, implies_true,
    and_true, good_goto]
  refine fun _ _ => ?_
  cases k with
  | jmp => exact (h.loadCs _ _ _).keeps
  | call => exact (((h.pushRaw _).pushRaw _).loadCs _ _ _).keeps

theorem State.farCode_good (hp : s.prot = true) (k : FarKind) (sel off : Word) (d : Desc) :
    Run.Good s (s.farCode k sel off d) := by
  simp only [State.farCode, Run.all_bind, Run.all_check, Stop.leaves_gp, Stop.leaves_np, implies_true, and_true]
  exact fun _ _ => State.farSame_good hp _ _ _ _

theorem Run.all_parameters {Q : State → Prop} {P : List Word → Prop} (n : Nat) (h : ∀ vs, P vs) :
    Run.All Q P (s.parameters n) := by
  induction n generalizing P with
  | zero => exact h []
  | succ n ih =>
    simp only [State.parameters, Run.all_bind]
    exact ih fun vs => by simp [h]

theorem State.callInner_good (hp : s.prot = true) (g c : Desc) : Run.Good s (s.callInner g c) := by
  simp only [State.callInner, Run.all_bind]
  refine Run.all_innerStack _ fun stk => Run.all_innerStackDesc _ _ _ fun d => ?_
  simp only [Run.all_check, Stop.leaves_ss, Stop.leaves_gp, implies_true, and_true]
  refine fun _ _ => Run.all_parameters _ fun ps => ?_
  have hstack : InProt s ((s.loadInnerStack stk.2 stk.1 d).loadCs g.gateSel c (arDpl c.ar)) :=
    (((InProt.refl hp).loadCache _ _ _).setSp _).loadCs _ _ _
  exact (good_goto _).2 (((((hstack.pushRaw _).pushRaw _).pushReversed ps).pushRaw _).pushRaw _).keeps

theorem State.farGate_good (hp : s.prot = true) (k : FarKind) (sel : Word) (g : Desc) :
    Run.Good s (s.farGate k sel g) := by
  simp only [State.farGate, Run.all_bind, Run.all_check, Stop.leaves_gp, Stop.leaves_np, implies_true, and_true]
  refine fun _ _ _ => Run.all_desc _ _ _ trivial fun c => ?_
  simp only [Run.all_ite]
  exact fun _ _ _ => ⟨fun _ => State.callInner_good hp g c, fun _ => State.farSame_good hp _ _ _ _⟩

theorem State.farSwitch_good (hp : s.prot = true) (k : FarKind) (sel : Word) (d : Desc) :
    Run.Good s (s.farSwitch k sel d) := by
  cases k with
  | jmp =>
    simp only [State.farSwitch, Run.all_bind]
    exact (State.switchTasks_keeps hp _ _ _ _ _ _).imp fun n hn => (State.checkTaskIp_keeps hn _).imp fun _ h => h.good
  | call =>
    simp only [State.farSwitch, Run.all_bind]
    exact (State.switchTasks_keeps hp _ _ _ _ _ _).imp fun n hn => (State.checkTaskIp_keeps hn _).imp fun _ h => h.good

theorem State.farTransfer_good (k : FarKind) (sel off : Word) : Run.Good s (s.farTransfer k sel off) := by
  unfold State.farTransfer
  split
  case isTrue hp =>
    simp only [State.farTransferProt, Run.all_bind, Run.all_check, Stop.leaves_gp, implies_true, and_true]
    refine fun _ => Run.all_desc _ _ _ trivial fun d => ?_
    simp only [Run.all_ite, Run.all_error, Stop.leaves_gp, implies_true, and_true, State.farTaskGate, State.farTss,
      Run.all_bind, Run.all_check, Stop.leaves_np, Stop.leaves_refuse]
    exact ⟨fun _ => State.farCode_good hp _ _ _ _, fun _ => ⟨fun _ => State.farGate_good hp _ _ _,
      fun _ => ⟨fun _ _ _ _ _ _ => State.farSwitch_good hp _ _ _, fun _ _ _ _ _ _ => State.farSwitch_good hp _ _ _⟩⟩⟩
  case isFalse =>
    cases k with
    | jmp => exact State.farReal_good (.refl s s) _ _
    | call =>
      simp only [State.farTransferReal, Run.all_bind, Run.all_check, Run.all_pure, Stop.leaves_segFault, implies_true,
        and_true]
      exact fun _ => State.farReal_good (((Keeps.refl s s).pushRaw _).pushRaw _) _ _

theorem Run.all_returnCode {Q : State → Prop} {P : Desc → Prop} (sel : Word) (h : ∀ d, P d) :
    Run.All Q P (s.returnCode sel) := by
  simp only [State.returnCode, Run.all_bind, Run.all_check, Stop.leaves_gp, implies_true, and_true]
  exact fun _ => Run.all_desc _ _ _ trivial fun d => by simp [h]

theorem Run.all_returnStack {Q : State → Prop} {P : Desc → Prop} (sel : Word) (l : BitVec 2) (h : ∀ d, P d) :
    Run.All Q P (s.returnStack sel l) := by
  simp only [State.returnStack, Run.all_bind, Run.all_check, Stop.leaves_gp, implies_true, and_true]
  exact fun _ => Run.all_desc _ _ _ trivial fun d => by simp [h]

/-- CS:IP and SS:SP of an outer level loaded, DS and ES made null where that level may not use them. -/
theorem InProt.outer (h : InProt s t) (rs ns : Word) (c d : Desc) (p : BitVec 2) (ip sp : Word) :
    Good s ((((((t.loadCs rs c p).goto ip).loadCache .ss ns d).setSp sp).nullIfInvalid .ds).nullIfInvalid .es) := by
  refine InProt.good (((((((h.loadCs _ _ _).goto _).loadCache _ _ _).setSp _).nullIfInvalid _).nullIfInvalid _)) ?_
  rw [State.nullIfInvalid_dec, State.nullIfInvalid_dec]
  simp [State.loadCache, State.markAccessed]

theorem State.retFar_good (n : Word) : Run.Good s (s.retFar n) := by
  unfold State.retFar
  cases hp : s.prot with
  | false =>
    simp only [Bool.not_false, if_true, State.retFarReal, Run.all_bind]
    refine Run.all_stackWord s _ fun ip => Run.all_stackWord s _ fun cs => ?_
    simpa using State.farReal_good (.refl s s) cs ip
  | true =>
    have h := InProt.refl hp
    simp only [Bool.not_true, Bool.false_eq_true, if_false, Run.all_bind, Run.all_check, Run.all_ite, Stop.leaves_gp,
      implies_true, and_true, State.retFarSame, State.retFarOuter, Run.all_pure, Stop.leaves_ss]
    refine Run.all_stackWord s _ fun rs _ => ⟨fun _ => ?_, fun _ _ => ?_⟩
    · refine Run.all_returnCode _ fun c => Run.all_stackWord s _ fun ip _ => ?_
      simpa using (h.loadCs rs c (rplOf rs)).keeps
    · refine Run.all_stackWord s _ fun ip => Run.all_stackWord _ _ fun sp => Run.all_stackWord _ _ fun ns => ?_
      refine Run.all_returnCode _ fun c => Run.all_returnStack _ _ fun d _ => ?_
      exact h.outer _ _ _ _ _ _ _

theorem State.iret_good : Run.Good s s.iret := by
  have hf (w : Word) : Keeps s s { s with flags := s.loadFlags w } := s.loadFlags_keeps w
  unfold State.iret
  cases hp : s.prot with
  | false =>
    simp only [Bool.not_false, if_true, State.iretReal, Run.all_bind]
    refine Run.all_stackWord s _ fun ip => Run.all_stackWord s _ fun cs => Run.all_stackWord s _ fun f => ?_
    simpa using State.farReal_good (hf f) cs ip
  | true =>
    have h (w : Word) : InProt s { s with flags := s.loadFlags w } := ⟨hf w, hp⟩
    simp only [Bool.not_true, Bool.false_eq_true, if_false, Run.all_ite]
    refine ⟨fun _ => ?task, fun _ => ?_⟩
    case task =>
      simp only [State.iretTask, Run.all_bind, Run.all_check, Stop.leaves_ts, Stop.leaves_np, implies_true, and_true]
      refine fun _ _ _ => (State.switchTasks_keeps hp _ _ _ _ _ _).imp fun n hn => ?_
      refine (State.checkTaskIp_keeps hn _).imp fun m hm => ?_
      simpa using hm.good
    simp only [Run.all_bind, Run.all_check, Run.all_ite, Stop.leaves_gp, implies_true, and_true]
    refine Run.all_stackWord s _ fun rs _ => ⟨fun _ => ?same, fun _ => ?outer⟩
    case same =>
      simp only [State.iretSame, Run.all_bind]
      refine Run.all_stackWord s _ fun ip => Run.all_stackWord s _ fun f => Run.all_returnCode _ fun c => ?_
      simpa using fun _ => ((h f).loadCs rs c (rplOf rs)).keeps
    case outer =>
      simp only [State.iretOuter, Run.all_bind]
      refine Run.all_stackWord s _ fun ip => Run.all_stackWord s _ fun f => Run.all_stackWord s _ fun sp => ?_
      refine Run.all_stackWord s _ fun ns => Run.all_returnCode _ fun c => Run.all_returnStack _ _ fun d => ?_
      simpa using fun _ => (h f).outer rs ns c d (rplOf rs) ip sp

/-! ENTER, LEAVE, BOUND -/

theorem Keeps.copyDisplay (h : Keeps o s t) (u : State) (n : Nat) : Keeps o s (u.copyDisplay t n) := by
  induction n with
  | zero => exact h
  | succ n ih => exact ih.writePhys16 _ _

theorem State.enterWrites_keeps (l : Nat) : Keeps s s (s.enterWrites l) := by
  have h := ((Keeps.refl s s).writePhys16 (s.ss.lin (s.regs.sp - 2)) s.regs.bp).copyDisplay s (l - 1)
  unfold State.enterWrites
  simp only
  split
  · exact h
  · exact h.writePhys16 _ _

theorem State.enterFrame_good (size : Word) (level : Byte) : Run.Good s (s.enterFrame size level) := by
  simp [State.enterFrame, State.enterWrites_keeps]

theorem State.leaveFrame_good : Run.Good s s.leaveFrame := by simp [State.leaveFrame]

theorem State.bound_good (r : Reg16) (e : E16) : Run.Good s (s.bound r e) := by
  simp only [State.bound, Run.all_bind]
  exact Run.all_readPointer s e fun p => by simp

/-! Strings and ports -/

theorem State.iterated_good (h : Keeps s s t) (b : Bool) : Good s (t.iterated b) := by
  unfold State.iterated
  split
  · exact good_advance.2 h
  · exact ⟨(keeps_dec _).2 h, .inr (.inl rfl)⟩

theorem State.moving_good {op : Run State} (h : Run.All (Keeps s s) (Keeps s s) op) : Run.Good s (s.moving op) := by
  unfold State.moving
  split
  case h_1 => simpa using h
  case h_2 => trivial
  case h_3 =>
    simp only [Run.all_ite, Run.all_ok, good_advance, Keeps.refl, implies_true, true_and, Run.all_bind, Run.all_pure]
    exact fun _ => h.imp fun t ht => State.iterated_good (keeps_decCx.2 ht) _

theorem State.comparing_good {op : Run State} (h : Run.All (Keeps s s) (Keeps s s) op) :
    Run.Good s (s.comparing op) := by
  unfold State.comparing
  split
  case h_1 => simpa using h
  case h_2 =>
    simp only [Run.all_ite, Run.all_ok, good_advance, Keeps.refl, implies_true, true_and, Run.all_bind, Run.all_pure]
    exact fun _ => h.imp fun t ht => State.iterated_good (keeps_decCx.2 ht) _

@[simp] theorem keeps_advSi (n : Word) : Keeps o s (t.advSi n) ↔ Keeps o s t := keeps_set16 _ _
@[simp] theorem keeps_advDi (n : Word) : Keeps o s (t.advDi n) ↔ Keeps o s t := keeps_set16 _ _

theorem State.movs8_keeps : Run.All (Keeps s s) (Keeps s s) s.movs8 := by simp [State.movs8]
theorem State.movs16_keeps : Run.All (Keeps s s) (Keeps s s) s.movs16 := by simp [State.movs16]
theorem State.cmps8_keeps : Run.All (Keeps s s) (Keeps s s) s.cmps8 := by simp [State.cmps8]
theorem State.cmps16_keeps : Run.All (Keeps s s) (Keeps s s) s.cmps16 := by simp [State.cmps16]
theorem State.scas8_keeps : Run.All (Keeps s s) (Keeps s s) s.scas8 := by simp [State.scas8]
theorem State.scas16_keeps : Run.All (Keeps s s) (Keeps s s) s.scas16 := by simp [State.scas16]
theorem State.lods8_keeps : Run.All (Keeps s s) (Keeps s s) s.lods8 := by simp [State.lods8]
theorem State.lods16_keeps : Run.All (Keeps s s) (Keeps s s) s.lods16 := by simp [State.lods16]
theorem State.stos8_keeps : Run.All (Keeps s s) (Keeps s s) s.stos8 := by simp [State.stos8]
theorem State.stos16_keeps : Run.All (Keeps s s) (Keeps s s) s.stos16 := by simp [State.stos16]
theorem State.ins8_keeps : Run.All (Keeps s s) (Keeps s s) s.ins8 := by simp [State.ins8]
theorem State.ins16_keeps : Run.All (Keeps s s) (Keeps s s) s.ins16 := by simp [State.ins16]
theorem State.outs8_keeps : Run.All (Keeps s s) (Keeps s s) s.outs8 := by simp [State.outs8]
theorem State.outs16_keeps : Run.All (Keeps s s) (Keeps s s) s.outs16 := by simp [State.outs16]

theorem State.in8_good (p : Word) : Run.Good s (s.in8 p) := by simp [State.in8]
theorem State.in16_good (p : Word) : Run.Good s (s.in16 p) := by simp [State.in16]
theorem State.out8_good (p : Word) : Run.Good s (s.out8 p) := by simp [State.out8]
theorem State.out16_good (p : Word) : Run.Good s (s.out16 p) := by simp [State.out16]

/-! The processor extension -/

theorem State.stall_good : Good s s.stall := ⟨(keeps_dec _).2 (.refl s s), .inr (.inr rfl)⟩

theorem State.handOver_keeps (x y : BitVec 3) (e : E16) : Keeps s s (s.handOver x y e) := by
  unfold State.handOver
  simp only
  split
  · exact (keeps_set16 _ _).2 (.of_same rfl rfl rfl rfl)
  · exact .of_same rfl rfl rfl rfl

theorem State.escape_good (x y : BitVec 3) (e : E16) : Run.Good s (s.escape x y e) := by
  have hover := s.handOver_keeps x y e
  simp only [State.escape, Run.all_bind, Run.all_check, Stop.leaves_none, implies_true, and_true, Run.all_ite]
  refine fun _ _ => ⟨fun _ => State.stall_good, fun _ => ?_⟩
  cases e with
  | reg r => simpa using hover
  | mem m => simp [hover]

theorem State.await_good : Run.Good s s.await := by simp [State.await, State.stall_good]

/-! System instructions -/

/-- At privilege level 0 the system state is free to change, but PE stays set. -/
theorem Keeps.of_level0 (hc : s.cpl = 0) (hpe : s.msw.pe = true → t.msw.pe = true)
    (hmem : Memory.wf s.mem → Memory.wf t.mem) (hreal : s.RealSegments → t.RealSegments) : Keeps s s t :=
  ⟨hpe, hmem, hreal, fun _ h => absurd hc h⟩

theorem State.setIf_good (b : Bool) : Run.Good s (s.setIf b) := by
  simp only [State.setIf, Run.all_bind, Run.all_check, Stop.leaves_gp, Run.all_pure, good_advance, implies_true, and_true]
  intro h
  refine ⟨id, id, id, fun hp _ => ?_⟩
  have hle : s.cpl ≤ s.flags.iopl := by simpa [State.ioAllowed, hp] using h
  have hlt (hl : s.flags.iopl < s.cpl) : False := absurd hle (BitVec.not_le.2 hl)
  exact { KeepsSystem.refl s s with
    ie := fun hl => (hlt hl).elim, stuck := fun _ => ⟨rfl, rfl, rfl, rfl, fun hl => (hlt hl).elim⟩ }

theorem Run.all_privileged {Q : State → Prop} {P : Unit → Prop} (h : s.cpl = 0 → P ()) : Run.All Q P s.privileged := by
  simpa [State.privileged] using h

theorem State.halt_good : Run.Good s s.halt := by
  simp only [State.halt, Run.all_bind, Run.all_check, Stop.leaves_gp, Run.all_pure, implies_true, and_true, beq_iff_eq]
  exact fun hc => ⟨.of_level0 hc id id id, .inl rfl⟩

theorem State.readTable_all {P : TableReg → Prop} (e : E16) (h : s.cpl = 0 → ∀ t, P t) :
    Run.All (Keeps s s) P (s.readTable e) := by
  cases e with
  | reg r => simp [State.readTable, E16.memOnly]
  | mem m =>
    simp only [State.readTable, E16.memOnly, Run.all_bind, Run.all_ok]
    exact Run.all_privileged fun hc => by simp [State.readSeg48, h hc]

theorem State.storeTable_good (e : E16) (r : TableReg) : Run.Good s (s.storeTable e r) := by
  cases e with
  | reg r => simp [State.storeTable, E16.memOnly]
  | mem m =>
    simp only [State.storeTable, E16.memOnly, Run.all_bind, Run.all_ok, Run.all_check, Stop.leaves_segFault,
      Run.all_pure, good_advance, implies_true, and_true]
    exact fun _ => ((((Keeps.refl s s).writePhys16 _ _).writePhys16 _ _).writePhys _ _).writePhys _ _

theorem Run.all_protOnly {Q : State → Prop} {P : Unit → Prop} (h : s.prot = true → P ()) : Run.All Q P s.protOnly := by
  simpa [State.protOnly] using h

theorem State.lldt_good (e : E16) : Run.Good s (s.lldt e) := by
  simp only [State.lldt, Run.all_bind, Run.all_readE16, Run.all_ite, Run.all_check, Run.all_pure, Stop.leaves_gp,
    Stop.leaves_np, implies_true, and_true, good_advance]
  refine Run.all_protOnly fun _ => Run.all_privileged fun hc _ => ?_
  exact ⟨fun _ => .of_level0 hc id id id, fun _ _ _ _ => .of_level0 hc id id id⟩

theorem State.ltr_good (e : E16) : Run.Good s (s.ltr e) := by
  simp only [State.ltr, Run.all_bind, Run.all_readE16, Run.all_check, Run.all_pure, Stop.leaves_gp,
    Stop.leaves_np, implies_true, and_true, good_advance]
  refine Run.all_protOnly fun _ => Run.all_privileged fun hc _ _ _ _ => ?_
  have h : Keeps s s (s.lockBus.writePhys ((s.descAt (s.gdtAddr (s.val16 e))).addr + 5)
    ((s.descAt (s.gdtAddr (s.val16 e))).ar ||| 2)) := by simp
  exact .of_level0 hc h.pe h.mem h.real

theorem State.storeSel_good (e : E16) (v : Word) : Run.Good s (s.storeSel e v) := by
  simp only [State.storeSel, Run.all_bind, Run.all_writeE16, Run.all_pure, good_advance]
  exact Run.all_protOnly fun _ _ => by simp

theorem State.lmsw_good (e : E16) : Run.Good s (s.lmsw e) := by
  simp only [State.lmsw, Run.all_bind, Run.all_readE16, Run.all_pure, good_advance]
  refine Run.all_privileged fun hc _ => .of_level0 hc (fun h => ?_) id fun h hp => ?_
  · simp [h]
  · exact h (by simp only [State.prot, Bool.or_eq_false_iff] at hp ⊢; exact hp.1)

theorem State.smsw_good (e : E16) : Run.Good s (s.smsw e) := by simp [State.smsw]

theorem State.clts_good : Run.Good s s.clts := by
  simp only [State.clts, Run.all_bind, Run.all_pure, good_advance]
  exact Run.all_privileged fun hc => .of_level0 hc id id id

@[simp] theorem keeps_setZf (b : Bool) : Keeps o s (t.setZf b) ↔ Keeps o s t := keeps_setFlags rfl rfl

theorem State.arpl_good (e : E16) (r : Reg16) : Run.Good s (s.arpl e r) := by
  simp only [State.arpl, Run.all_bind, Run.all_readE16, Run.all_ite, Run.all_writeE16, Run.all_pure, good_advance,
    keeps_setZf]
  exact Run.all_protOnly fun _ _ => by simp

theorem State.markTested_keeps (d : Desc) : Keeps s s (s.markTested d) := by
  unfold State.markTested
  split
  · exact (keeps_lockBus.2 (.refl s s)).writePhys _ _
  · exact .refl s s

theorem State.testSel_good (e : E16) (find : Word → Option Desc) (put : Desc → State → State)
    (hput : ∀ d u, Keeps s s u → Keeps s s (put d u)) : Run.Good s (s.testSel e find put) := by
  simp only [State.testSel, Run.all_bind, Run.all_readE16, Run.all_pure]
  refine Run.all_protOnly fun _ _ => ?_
  unfold State.tested
  split
  · simp
  · exact good_advance.2 (hput _ _ (keeps_setZf true |>.2 (s.markTested_keeps _)))

end Sys2Proof.Machine
end

section
/-!
# Only prefixes await an instruction; what instructions and steps keep (O5, O7, O8, O9)
-/

namespace Sys2Proof.Machine

variable {o s t : State}

/-! Instructions whose meaning is written out in their row -/

theorem State.lea_good (r : Reg16) (e : E16) :
    Run.Good s (do let m ← e.memOnly; pure (s.set16 r (s.eaOff m)).advance) := by
  cases e <;> simp [E16.memOnly]

theorem State.xchgE8_good (e : E8) (r : Reg8) : Run.Good s (do
    let v ← s.readE8 e
    let t ← leaving (s.set8 r (Config.freeByte s.free .xchgReg)) ((s.lockE8 e).writeE8 e (s.get8 r))
    pure (t.set8 r v).advance) := by
  simp only [Run.all_bind, Run.all_readE8]
  exact fun _ => Run.all_leaving (by simp) (by simp [s.lockE8_keeps e])

theorem State.xchgE16_good (e : E16) (r : Reg16) : Run.Good s (do
    let v ← s.readE16 e
    let t ← leaving (s.set16 r (Config.freeWord s.free .xchgReg)) ((s.lockE16 e).writeE16 e (s.get16 r))
    pure (t.set16 r v).advance) := by
  simp only [Run.all_bind, Run.all_readE16]
  exact fun _ => Run.all_leaving (by simp) (by simp [s.lockE16_keeps e])

theorem State.moveToData_good (e : E16) (x : SReg) :
    Run.Good s (do let v ← s.readE16 e; let t ← s.loadData x v; pure t.advance) := by
  simp only [Run.all_bind, Run.all_readE16]
  exact fun _ => (s.loadData_keeps x _).imp fun t h => good_advance.2 h

theorem State.moveToSs_good {e : E16} :
    Run.Good s (do let v ← s.readE16 e; let t ← s.loadSs v; pure { t with inhibit := true }.advance) := by
  simp only [Run.all_bind, Run.all_readE16]
  exact fun _ => (s.loadSs_keeps _).imp fun t h => good_advance.2 ((keeps_inhibit true).2 h)

theorem State.popData_good (x : SReg) : Run.Good s (do
    let v ← s.readSeg16 .ss s.regs.sp; let t ← s.loadData x v; pure (t.setSp (s.regs.sp + 2)).advance) := by
  simp only [Run.all_bind, Run.all_readSeg16]
  exact fun _ => (s.loadData_keeps x _).imp fun t h => good_advance.2 ((keeps_setSp _).2 h)

theorem State.popSs_good : Run.Good s (do
    let v ← s.readSeg16 .ss s.regs.sp; let t ← s.loadSs v
    pure ({ t with inhibit := true }.setSp (s.regs.sp + 2)).advance) := by
  simp only [Run.all_bind, Run.all_readSeg16]
  exact fun _ => (s.loadSs_keeps _).imp fun t h => good_advance.2 ((keeps_setSp _).2 ((keeps_inhibit true).2 h))

theorem State.popMw_good (e : E16) : Out.All (Good s) (execPopMw e s) := by
  cases e with
  | reg r => exact Run.Good.finish (by simp)
  | mem m => exact (State.popMem_good m).finish

theorem State.callEw_good {e : E16} : Run.Good s (do let t ← s.readE16 e; s.nearCall t) := by
  simp [State.nearCall_good]

theorem State.jmpEw_good {e : E16} : Run.Good s (do let t ← s.readE16 e; s.nearJump t) := by
  simp [State.nearJump_good]

theorem State.farPointer_good {k : FarKind} {e : E16} :
    Run.Good s (do let p ← s.readPointer e; s.farTransfer k p.2 p.1) := by
  simp only [Run.all_bind]
  exact Run.all_readPointer s e fun p => State.farTransfer_good _ _ _

theorem State.pushMw_good {e : E16} : Run.Good s (do let v ← s.readE16 e; s.pushOp v) := by
  simp [State.pushOp_good]

/-- LGDT and LIDT: only at level 0 (R670). -/
theorem State.loadTable_good (e : E16) (put : TableReg → State) (hmsw : ∀ r, (put r).msw = s.msw)
    (hmem : ∀ r, (put r).mem = s.mem) (hseg : ∀ r, (put r).seg = s.seg) :
    Run.Good s (do let t ← s.readTable e; pure (put t).advance) := by
  simp only [Run.all_bind]
  refine State.readTable_all e fun hc r => good_advance.2 (.of_level0 hc ?_ ?_ ?_)
  · exact fun h => by rw [hmsw]; exact h
  · exact fun h => by rw [hmem]; exact h
  · intro h hp
    rw [hseg]
    exact h (by rw [State.prot, hmsw] at hp; exact hp)

theorem State.popf_good : Run.Good s (do let v ← s.pop; pure (v.2.setFlags (s.loadFlags v.1)).advance) := by
  simp only [Run.all_bind, Run.all_pop, Run.all_pure, good_advance]
  exact fun _ => (s.loadFlags_keeps _).trans (.of_same rfl rfl rfl rfl)

theorem State.into_good : Out.All (Good s) (execInto s) := by
  unfold execInto
  split
  · exact State.softInt_good 4
  · exact good_advance.2 (.refl s s)

theorem raise_good {v : Byte} {c : Option Word} : Run.Good s (raise v c) := trivial

/-! All instructions -/

/-- The prefixes (R224-R227). -/
def prefixes : List Instr := [.prefixEs, .prefixCs, .prefixSs, .prefixDs, .prefixLock, .prefixRep, .prefixRepne]

/-- EVERY INSTRUCTION BUT THE PREFIXES keeps what it must and is finished, or executed again. -/
theorem exec_good (i : Instr) (s : State) (h : i ∉ prefixes) : Out.All (Good s) (exec i s) := by
  cases i
  case addEbRb | addAlDb | addEbDb | orEbRb | orAlDb | orEbDb | adcEbRb | adcAlDb | adcEbDb | sbbEbRb
    | sbbAlDb | sbbEbDb | andEbRb | andAlDb | andEbDb | subEbRb | subAlDb | subEbDb | xorEbRb | xorAlDb
    | xorEbDb =>
    unfold exec
    exact Run.Good.finish (State.aluE8_good _ _ _)
  case addEwRw | addAxDw | addEwDw | addEwDb | orEwRw | orAxDw | orEwDw | adcEwRw | adcAxDw | adcEwDw
    | adcEwDb | sbbEwRw | sbbAxDw | sbbEwDw | sbbEwDb | andEwRw | andAxDw | andEwDw | subEwRw | subAxDw
    | subEwDw | subEwDb | xorEwRw | xorAxDw | xorEwDw =>
    unfold exec
    exact Run.Good.finish (State.aluE16_good _ _ _)
  case addRbEb | orRbEb | adcRbEb | sbbRbEb | andRbEb | subRbEb | xorRbEb =>
    exact Run.Good.finish (State.aluR8_good _ _ _)
  case addRwEw | orRwEw | adcRwEw | sbbRwEw | andRwEw | subRwEw | xorRwEw =>
    exact Run.Good.finish (State.aluR16_good _ _ _)
  case cmpEbRb | cmpAlDb | cmpEbDb =>
    unfold exec
    exact Run.Good.finish (State.cmpE8_good _ _)
  case cmpEwRw | cmpAxDw | cmpEwDw | cmpEwDb =>
    unfold exec
    exact Run.Good.finish (State.cmpE16_good _ _)
  case cmpRbEb =>
    exact Run.Good.finish (State.cmpR8_good _ _)
  case cmpRwEw =>
    exact Run.Good.finish (State.cmpR16_good _ _)
  case incRw | decRw | notEw | negEw | incEw | decEw =>
    unfold exec
    exact Run.Good.finish (State.updateE16_good _ _ _ (fun _ => rfl) fun _ => rfl)
  case pushRw | pushDw | pushDb | pushEs | pushCs | pushSs | pushDs | pushf =>
    exact Run.Good.finish (State.pushOp_good _)
  case boundRwMd =>
    exact Run.Good.finish (State.bound_good _ _)
  case arplEwRw =>
    exact Run.Good.finish (State.arpl_good _ _)
  case imulRwEwDw | imulRwEwDb =>
    exact Run.Good.finish (State.imulImm_good _ _ _)
  case jo | jno | jb | jnb | je | jne | jbe | jnbe | js | jns | jp | jnp | jl | jnl | jle | jnle | jcxz =>
    exact Run.Good.finish (State.jumpIf_good (.refl s s) _ _)
  case testEbRb | testAlDb | testEbDb =>
    unfold exec
    exact Run.Good.finish (State.testE8_good _ _)
  case testEwRw | testAxDw | testEwDw =>
    unfold exec
    exact Run.Good.finish (State.testE16_good _ _)
  case movEbRb | movXbAl | movEbDb =>
    exact Run.Good.finish (State.storeE8_good _ _)
  case movEwRw | movEwEs | movEwCs | movEwSs | movEwDs | movXwAx | movEwDw =>
    exact Run.Good.finish (State.storeE16_good _ _)
  case callCd | jmpCd =>
    exact Run.Good.finish (State.farTransfer_good _ _ _)
  case rolEbDb | rorEbDb | rclEbDb | rcrEbDb | salEbDb | shrEbDb | sarEbDb | rolEbOne | rorEbOne | rclEbOne
    | rcrEbOne | salEbOne | shrEbOne | sarEbOne | rolEbCl | rorEbCl | rclEbCl | rcrEbCl | salEbCl | shrEbCl
    | sarEbCl =>
    exact Run.Good.finish (State.shift8_good _ _ _)
  case rolEwDb | rorEwDb | rclEwDb | rcrEwDb | salEwDb | shrEwDb | sarEwDb | rolEwOne | rorEwOne | rclEwOne
    | rcrEwOne | salEwOne | shrEwOne | sarEwOne | rolEwCl | rorEwCl | rclEwCl | rcrEwCl | salEwCl | shrEwCl
    | sarEwCl =>
    exact Run.Good.finish (State.shift16_good _ _ _)
  case retNearDw | retNear =>
    exact Run.Good.finish (State.retNear_good _)
  case lesRwEd | ldsRwEd =>
    exact Run.Good.finish (State.loadPointer_good _ _ _)
  case enterDwDb =>
    exact Run.Good.finish (State.enterFrame_good _ _)
  case retFarDw | retFar =>
    exact Run.Good.finish (State.retFar_good _)
  case intDb | int3 =>
    exact State.softInt_good _
  case unlistedD4xx | unlistedD5xx | unlisted83n1 | unlisted83n4 | unlisted83n6 | unlisted82 | unlisted8Chi
    | unlisted8Ehi | unlistedC0n6 | unlistedC1n6 | unlistedD0n6 | unlistedD1n6 | unlistedD2n6 | unlistedD3n6
    | unlistedD6 | unlistedF1 | unlisted0F04 | unlisted0F05 =>
    trivial
  case esc =>
    exact Run.Good.finish (State.escape_good _ _ _)
  case loopne | loope | loop =>
    exact Run.Good.finish (State.loopIf_good _ _)
  case inAlDb | inAlDx =>
    exact Run.Good.finish (State.in8_good _)
  case inAxDb | inAxDx =>
    exact Run.Good.finish (State.in16_good _)
  case outDbAl | outDxAl =>
    exact Run.Good.finish (State.out8_good _)
  case outDbAx | outDxAx =>
    exact Run.Good.finish (State.out16_good _)
  case callCw =>
    exact Run.Good.finish (State.nearCall_good _)
  case jmpCw | jmpCb =>
    exact Run.Good.finish (State.nearJump_good (.refl s s) _)
  case notEb | negEb | incEb | decEb =>
    unfold exec
    exact Run.Good.finish (State.updateE8_good _ _ _ (fun _ => rfl) fun _ => rfl)
  case mulEb =>
    exact Run.Good.finish (State.mul8_good _)
  case imulEb =>
    exact Run.Good.finish (State.imul8_good _)
  case divEb =>
    exact Run.Good.finish (State.div8_good _)
  case idivEb =>
    exact Run.Good.finish (State.idiv8_good _)
  case mulEw =>
    exact Run.Good.finish (State.mul16_good _)
  case imulEw =>
    exact Run.Good.finish (State.imul16_good _)
  case divEw =>
    exact Run.Good.finish (State.div16_good _)
  case idivEw =>
    exact Run.Good.finish (State.idiv16_good _)
  case sldtEw | strEw =>
    exact Run.Good.finish (State.storeSel_good _ _)
  case lldtEw =>
    exact Run.Good.finish (State.lldt_good _)
  case ltrEw =>
    exact Run.Good.finish (State.ltr_good _)
  case verrEw | verwEw =>
    exact Run.Good.finish (State.testSel_good _ _ _ fun _ _ h => h)
  case sgdtM | sidtM =>
    exact Run.Good.finish (State.storeTable_good _ _)
  case smswEw =>
    exact Run.Good.finish (State.smsw_good _)
  case lmswEw =>
    exact Run.Good.finish (State.lmsw_good _)
  case larRwEw | lslRwEw =>
    exact Run.Good.finish (State.testSel_good _ _ _ fun _ _ h => (keeps_set16 _ _).2 h)
  case undef0Fxx | twoByteEscape | undef64 | undef65 | undef66 | undef67 | undef8En1 | undef8Fn1 | undef8Fn2
    | undef8Fn3 | undef8Fn4 | undef8Fn5 | undef8Fn6 | undef8Fn7 | undefC6n1 | undefC6n2 | undefC6n3
    | undefC6n4 | undefC6n5 | undefC6n6 | undefC6n7 | undefC7n1 | undefC7n2 | undefC7n3 | undefC7n4
    | undefC7n5 | undefC7n6 | undefC7n7 | undefF6n1 | undefF7n1 | undefFEn2 | undefFEn3 | undefFEn4
    | undefFEn5 | undefFEn6 | undefFEn7 | undefFFn7 | undef0F00n6 | undef0F00n7 | undef0F01n5 | undef0F01n7 =>
    exact Run.Good.finish raise_good
  case pusha =>
    exact Run.Good.finish State.pusha_good
  case popa =>
    exact Run.Good.finish State.popa_good
  case insb =>
    exact Run.Good.finish (State.moving_good State.ins8_keeps)
  case insw =>
    exact Run.Good.finish (State.moving_good State.ins16_keeps)
  case outsb =>
    exact Run.Good.finish (State.moving_good State.outs8_keeps)
  case outsw =>
    exact Run.Good.finish (State.moving_good State.outs16_keeps)
  case wait =>
    exact Run.Good.finish State.await_good
  case movsb =>
    exact Run.Good.finish (State.moving_good State.movs8_keeps)
  case movsw =>
    exact Run.Good.finish (State.moving_good State.movs16_keeps)
  case cmpsb =>
    exact Run.Good.finish (State.comparing_good State.cmps8_keeps)
  case cmpsw =>
    exact Run.Good.finish (State.comparing_good State.cmps16_keeps)
  case stosb =>
    exact Run.Good.finish (State.moving_good State.stos8_keeps)
  case stosw =>
    exact Run.Good.finish (State.moving_good State.stos16_keeps)
  case lodsb =>
    exact Run.Good.finish (State.moving_good State.lods8_keeps)
  case lodsw =>
    exact Run.Good.finish (State.moving_good State.lods16_keeps)
  case scasb =>
    exact Run.Good.finish (State.comparing_good State.scas8_keeps)
  case scasw =>
    exact Run.Good.finish (State.comparing_good State.scas16_keeps)
  case leave =>
    exact Run.Good.finish State.leaveFrame_good
  case iret =>
    exact Run.Good.finish State.iret_good
  case hlt =>
    exact Run.Good.finish State.halt_good
  case cli | sti =>
    exact Run.Good.finish (State.setIf_good _)
  case clts =>
    exact Run.Good.finish State.clts_good
  case movRbEb | movRwEw | movAlXb | movAxXw | xlat | popRw =>
    unfold exec
    exact Run.Good.finish (by simp)
  case leaRwM =>
    exact Run.Good.finish (State.lea_good _ _)
  case xchgEbRb =>
    exact Run.Good.finish (State.xchgE8_good _ _)
  case xchgEwRw =>
    exact Run.Good.finish (State.xchgE16_good _ _)
  case movEsEw | movDsEw =>
    exact Run.Good.finish (State.moveToData_good _ _)
  case movSsEw =>
    exact Run.Good.finish State.moveToSs_good
  case popEs | popDs =>
    exact Run.Good.finish (State.popData_good _)
  case popSs =>
    exact Run.Good.finish State.popSs_good
  case popMw =>
    exact State.popMw_good _
  case xchgAxRw | movRbDb | movRwDw | nop | cbw | cwd | lahf =>
    exact good_advance.2 (by simp)
  case callEw =>
    exact Run.Good.finish State.callEw_good
  case jmpEw =>
    exact Run.Good.finish State.jmpEw_good
  case callEd | jmpEd =>
    exact Run.Good.finish State.farPointer_good
  case pushMw =>
    exact Run.Good.finish State.pushMw_good
  case lgdtM | lidtM =>
    exact Run.Good.finish (State.loadTable_good _ _ (fun _ => rfl) (fun _ => rfl) fun _ => rfl)
  case daa | das =>
    exact State.decimal_good _
  case aaa | aas =>
    exact State.ascii_good _
  case aam =>
    exact State.aam_good
  case aad =>
    exact State.aad_good
  case popf =>
    exact Run.Good.finish State.popf_good
  case sahf | cmc | clc | stc | cld | std =>
    exact Keeps.completeWith (.refl s s) rfl rfl
  case into =>
    exact State.into_good
  case prefixEs | prefixCs | prefixSs | prefixDs | prefixLock | prefixRepne | prefixRep =>
    exact absurd (by decide) h

/-- What a prefix does: it is remembered, and the next element awaited (R224). -/
structure Prefixed (s t : State) : Prop where
  keeps : Keeps s s t
  phase : t.dec.phase = .prefixed
  ip : t.ip = s.ip

theorem exec_prefix (i : Instr) (s : State) (h : i ∈ prefixes) :
    Out.All (fun t => Prefixed s t ∨ Good s t) (exec i s) := by
  have hp (d : Dec) (hd : d.phase = .prefixed) : Prefixed s { s with dec := d } :=
    ⟨(keeps_dec d).2 (.refl s s), hd, rfl⟩
  simp only [prefixes, List.mem_cons, List.not_mem_nil, or_false] at h
  obtain rfl | rfl | rfl | rfl | rfl | rfl | rfl := h
  case inr.inr.inr.inr.inl =>
    show Out.All _ (s.finish s.lockPrefix)
    cases hio : s.ioAllowed with
    | true => simpa [State.lockPrefix, hio, State.finish] using .inl (hp _ rfl)
    | false =>
      have hg : Run.Good s (.error (excGp 0)) := trivial
      have := hg.finish
      simp only [State.lockPrefix, hio, check_false, run_bind_error]
      cases hf : s.finish (.error (excGp 0)) with
      | next t => rw [hf] at this; exact .inr this
      | fault f => trivial
      | refused q => trivial
  all_goals exact .inl (hp _ rfl)

/-- An instruction that answers. -/
theorem exec_next {i : Instr} (h : exec i s = .next t) :
    Good s t ∨ Prefixed s t ∧ i ∈ prefixes := by
  by_cases hi : i ∈ prefixes
  · have := exec_prefix i s hi
    rw [h] at this
    exact this.elim (fun hp => .inr ⟨hp, hi⟩) .inl
  · have := exec_good i s hi
    rw [h] at this
    exact .inl this

theorem exec_keeps {i : Instr} (h : exec i s = .next t) : Keeps s s t :=
  (exec_next h).elim Good.keeps fun hp => hp.1.keeps

/-- Settles O5. -/
theorem onlyPrefixesAwaitAnInstruction : Obligations.OnlyPrefixesAwaitAnInstruction := by
  intro i s t h
  rcases exec_next h with hg | ⟨hp, hi⟩
  · rcases hg.ended with hd | hd | hd
    · exact .inl hd
    · exact .inr (.inl hd)
    · exact .inr (.inr (.inl hd))
  · exact .inr (.inr (.inr ⟨hp.phase, hp.ip, hi⟩))

theorem Msw.eq_of_fields {a b : Msw} (hpe : a.pe = b.pe) (hmp : a.mp = b.mp) (hem : a.em = b.em) (hts : a.ts = b.ts) :
    a = b := by
  cases a; cases b; simp_all

/-- Settles O9: the three parts are read off what every instruction keeps outside level 0. -/
theorem userInstructionsLeaveSystemState : Obligations.UserInstructionsLeaveSystemState := by
  refine ⟨fun i s t hp hc h => ?_, fun i s t hp hl he h hts => ?_, fun i s t hp hc hs h => ?_⟩
  case refine_1 =>
    have hk := exec_keeps h
    have k := hk.system hp hc
    exact ⟨k.gdtr, k.idtr, (hk.pe hp).trans (show s.msw.pe = true from hp).symm, k.mp, k.em, k.ts, k.task, k.halted⟩
  case refine_2 =>
    have hc : s.cpl ≠ 0 := by
      intro hc
      rw [hc] at hl
      exact absurd hl (by simp)
    have k := (exec_keeps h).system hp hc
    cases ht : t.flags.ie with
    | false => rfl
    | true => exact (k.ie hl hts ht).symm.trans he
  case refine_3 =>
    have hk := exec_keeps h
    have k := hk.system hp hc
    obtain ⟨hldtr, htr, hiopl, hts, hie⟩ := k.stuck hs
    have hpe : t.msw.pe = s.msw.pe := (hk.pe hp).trans (show s.msw.pe = true from hp).symm
    exact ⟨hldtr, htr, hiopl, Msw.eq_of_fields hpe k.mp k.em hts, hie⟩

/-! Steps: the events of a boundary and what the NPX does -/

/-- What a part of a step keeps from `s` to `t`: protected mode, the canonical form of memory, the real-mode form of the
segment registers, and that nothing is remembered of an instruction. -/
structure Steps (s t : State) : Prop where
  keeps : Keeps .reset s t
  dec : s.dec = {} → t.dec = {}

/-- What an instruction that began anywhere keeps, of what a step keeps. -/
theorem Keeps.forget (h : Keeps o s t) : Keeps .reset s t := ⟨h.pe, h.mem, h.real, fun hp => by cases hp⟩

theorem Steps.refl (s : State) : Steps s s := ⟨.refl _ s, id⟩

theorem Steps.trans {u : State} (h : Steps s t) (k : Steps t u) : Steps s u := ⟨h.keeps.trans k.keeps, k.dec ∘ h.dec⟩

/-- A change to nothing that a step keeps. -/
theorem Steps.of_same (hmem : t.mem = s.mem) (hmsw : t.msw = s.msw) (hseg : t.seg = s.seg) (hdec : t.dec = s.dec) :
    Steps s t where
  keeps :=
    { pe := fun h => hmsw ▸ h, mem := fun h => hmem ▸ h
      real := fun h hp => hseg ▸ h ((congrArg Msw.pe hmsw).symm.trans hp), system := fun hp => by cases hp }
  dec h := hdec.trans h

theorem Steps.writePhys16 (h : Steps s t) (a : PAddr) (v : Word) : Steps s (t.writePhys16 a v) :=
  ⟨h.keeps.writePhys16 a v, fun hd => by simpa using h.dec hd⟩

theorem State.transfer_steps (store : Bool) (move : State → PAddr → State) (hm : ∀ a, Steps s (move s a)) :
    Steps s (s.transfer store move) := by
  rcases s.transfer_cases store move with e | ⟨t, -, -, -, ⟨-, e⟩ | ⟨-, e⟩⟩ <;> rw [e]
  · exact .refl s
  · exact (hm t.addr).trans (.of_same rfl rfl rfl rfl)
  · exact .of_same rfl rfl rfl rfl

theorem State.npxAct_steps (a : NpxAct) : Steps s (s.npxAct a) := by
  cases a with
  | busy b => exact .of_same rfl rfl rfl rfl
  | error b => exact .of_same rfl rfl rfl rfl
  | read =>
    show Steps s (s.transfer false fun t a => { t with hostOut := .npxWord (t.readPhys16 a) :: t.hostOut })
    exact State.transfer_steps _ _ fun _ => .of_same rfl rfl rfl rfl
  | write v =>
    show Steps s (s.transfer true fun t a => t.writePhys16 a v)
    exact State.transfer_steps _ _ fun a => (Steps.refl s).writePhys16 a v

theorem State.npxStep_steps : Steps s s.npxStep := by
  have hfold (l : List NpxAct) : ∀ t, Steps s t → Steps s (l.foldl State.npxAct t) := by
    induction l with
    | nil => exact fun t h => h
    | cons a l ih => exact fun t h => ih _ (h.trans (State.npxAct_steps a))
  unfold State.npxStep
  simp only
  split
  · exact hfold _ _ (.of_same rfl rfl rfl rfl)
  · exact .of_same rfl rfl rfl rfl

theorem State.external_steps {r : State} {v : Byte} (h : r.external v = .ok t) (hr : Steps s r) : Steps s t := by
  obtain ⟨u, hu, rfl⟩ := r.external_ok v t h
  have hrun : Steps r { r with runState := .running } := .of_same rfl rfl rfl rfl
  have hfree : Steps u { u with free := u.free + 1 } := .of_same rfl rfl rfl rfl
  exact ⟨hr.keeps.trans (hrun.keeps.trans ((State.deliver_keeps hu).trans hfree.keeps)),
    fun _ => State.deliver_dec _ _ u hu⟩

theorem State.trapEvent_steps (h : s.trapEvent = .ok t) : Steps s t := by
  unfold State.trapEvent at h
  split at h
  · exact State.external_steps h (.of_same rfl rfl rfl rfl)
  · cases h; exact .refl s

theorem State.nmiEvent_steps (h : s.nmiEvent = .ok t) : Steps s t := by
  unfold State.nmiEvent at h
  split at h
  · exact State.external_steps h (.of_same rfl rfl rfl rfl)
  · cases h; exact .refl s

theorem State.overrunEvent_steps (h : s.overrunEvent = .ok t) : Steps s t := by
  unfold State.overrunEvent at h
  split at h
  · exact State.external_steps h (.of_same rfl rfl rfl rfl)
  · cases h; exact .refl s

theorem State.intrEvent_steps (h : s.intrEvent = .ok t) : Steps s t := by
  unfold State.intrEvent at h
  split at h
  · cases h; exact .refl s
  · split at h
    · exact State.external_steps h (.of_same rfl rfl rfl rfl)
    · cases h; exact .refl s

theorem State.boundary_steps (h : s.boundary = .ok t) : Steps s t := by
  rcases s.boundary_ok t h with ⟨-, rfl⟩ | ⟨-, a, b, c, ha, hb, hc, ht⟩
  · exact .of_same rfl rfl rfl rfl
  · exact (((State.trapEvent_steps ha).trans (State.nmiEvent_steps hb)).trans (State.overrunEvent_steps hc)).trans
      (State.intrEvent_steps ht)

/-- One element: the state at which it is executed differs in what is remembered of it and in what the host was sent. -/
theorem State.element_keeps (h : s.element = .next t) : Keeps .reset s t := by
  unfold State.element at h
  split at h
  case h_1 =>
    have hg : Run.Good s (raise 13 (some 0)) := raise_good
    have := hg.finish
    rw [h] at this
    exact this.keeps.forget
  case h_2 i rest _ =>
    refine Keeps.trans ?_ (exec_keeps h).forget
    rcases State.prefixLocked_eq (s.decoded (s.code.length - rest.length)) i with e | e <;> rw [e]
    · exact .of_same rfl rfl rfl rfl
    · exact .of_same rfl rfl rfl rfl

theorem State.elements_keeps (n : Nat) (h : State.elements n s = .next t) : Keeps .reset s t := by
  induction n generalizing s with
  | zero => cases h; exact .refl _ _
  | succ n ih =>
    simp only [State.elements] at h
    split at h
    case h_1 u hu =>
      have hk := State.element_keeps hu
      split at h
      · exact hk.trans (ih h)
      · cases h; exact hk
    all_goals cases h

theorem State.instruction_steps (h : s.instruction = .next t) : Steps s t := by
  unfold State.instruction at h
  split at h
  · split at h
    case h_1 u hu =>
      cases h
      refine ⟨?_, fun _ => rfl⟩
      have hk := State.elements_keeps 11 hu
      have hend : Steps u (u.ended s.flags.tf) := ⟨.of_same rfl rfl rfl rfl, fun _ => rfl⟩
      exact (Keeps.of_same (s := s) (t := { s with dec := {} }) rfl rfl rfl rfl).trans (hk.trans hend.keeps)
    all_goals cases h
  · cases h
    exact .of_same rfl rfl rfl rfl

theorem State.shutdownStep_steps (h : s.shutdownStep = .next t) : Steps s t := by
  have hnmi : Steps s { s with nmiPending := false, nmiInService := true } := .of_same rfl rfl rfl rfl
  unfold State.shutdownStep at h
  split at h
  · simp only at h
    split at h
    case h_1 u hu =>
      cases h
      have hk := State.enter_keeps (o := .reset) (s := { s with nmiPending := false, nmiInService := true })
        { vec := 2, kind := .ext, ret := s.ip, code := none }
      rw [hu] at hk
      have hd := State.enter_dec _ _ _ hu
      have hrun : Steps u { u with runState := .running }.tick := .of_same rfl rfl rfl rfl
      exact ⟨hnmi.keeps.trans (Keeps.trans hk hrun.keeps), fun _ => hd⟩
    case h_2 => cases h
    case h_3 => cases h; exact .of_same rfl rfl rfl rfl
  · cases h
    exact .of_same rfl rfl rfl rfl

/-- A STEP WITHOUT RESET. -/
theorem step_steps (hr : s.resetReq = false) (h : step s = .next t) : Steps s t := by
  rw [step_of_no_reset s hr] at h
  refine State.npxStep_steps.trans ?_
  unfold State.proceed at h
  split at h
  case h_1 => exact State.shutdownStep_steps h
  all_goals
    split at h
    case h_1 hb => exact (State.boundary_steps hb).trans (State.instruction_steps h)
    case h_2 => cases h

/-- Settles O8. -/
theorem protectionIsLeftByResetOnly : Obligations.ProtectionIsLeftByResetOnly :=
  fun _ _ hpe hr h => (step_steps hr h).keeps.pe hpe

/-- Settles O7: RESET establishes the invariant anew, and every other step keeps its three parts. -/
theorem stepKeepsInvariant : Obligations.StepKeepsInvariant := by
  intro s t hs h
  obtain ⟨hmem, hdec, hreal⟩ := hs
  cases hr : s.resetReq with
  | true =>
    have ht : s.resetEvent = t := by simpa [step, State.next, hr] using h
    subst ht
    exact ⟨hmem, rfl, fun _ x => by cases x <;> exact ⟨rfl, rfl⟩⟩
  | false =>
    have hk := step_steps hr h
    exact ⟨hk.keeps.mem hmem, hk.dec hdec, hk.keeps.real hreal⟩

end Sys2Proof.Machine
end

section
/-!
# How an instruction completes, and the statements that are near the model (O3, O6, O10, O13, O50, O59, O60)
-/

namespace Sys2Proof.Machine

variable {s t : State} {i : Instr} {stored : List PAddr}

/-! Completion -/

/-- An instruction whose meaning answers, and what of memory it leaves alone. -/
theorem Does.of_run {r : Run State} (hi : exec i s = s.finish r) (hr : r = .ok t)
    (hm : ∀ a, a ∉ stored → t.readPhys a = s.readPhys a) : Does i s t stored :=
  ⟨by rw [hi, hr, State.finish_ok], hm⟩

/-- An instruction whose meaning answers and leaves memory alone. -/
theorem Does.of_run_keep {r : Run State} (hi : exec i s = s.finish r) (hr : r = .ok t) (hm : t.mem = s.mem)
    (hk : t.memMap = s.memMap) (hf : t.free = s.free) (hu : t.use = s.use) : Does i s t stored :=
  .of_run hi hr fun a _ => State.readPhys_congr a hm hk hf hu

/-- A completed instruction may be said to change more than it does. -/
theorem Does.mono {l m : List PAddr} (h : Does i s t l) (hl : l ⊆ m) : Does i s t m :=
  ⟨h.1, fun a ha => h.2 a fun h => ha (hl h)⟩

/-- CPL within IOPL, or real mode, is leave to use the trusted instructions (R171). -/
theorem State.ioAllowed_of (h : s.prot = true → s.cpl.toNat ≤ s.flags.iopl.toNat) : s.ioAllowed = true := by
  cases hp : s.prot with
  | false => simp [State.ioAllowed, hp]
  | true => simpa [State.ioAllowed, hp, BitVec.le_def] using h hp

/-! The entry of an interrupt in real mode -/

theorem State.canEnterReal_prot {v : Byte} (h : s.canEnterReal v = true) : s.prot = false := by
  simp only [State.canEnterReal, Bool.and_eq_true, Bool.not_eq_true'] at h
  exact h.1.1

/-- A delivery that real mode can make is made at its first attempt (R830). -/
theorem State.deliver_realEntry (e : Event) (h : s.canEnterReal e.vec = true) :
    s.deliver e = .ok (s.realEntry e.vec e.ret) := by
  have hp : (s.attempt 1).prot = false := s.canEnterReal_prot h
  have he : s.escalate e = .ok { s.realEntry e.vec e.ret with use := (s.attempt 1).use } := by
    simp only [State.escalate, State.enter, hp, Bool.false_eq_true, if_false, s.enterReal_eq e h]
  have huse : (s.realEntry e.vec e.ret).use = s.use := by simp [State.realEntry]
  simp only [State.deliver, he]
  rw [← huse]

/-- An exception that real mode can enter is entered, with the offset of the instruction's first byte (R820, R830). -/
theorem State.exception_realEntry (vec : Byte) (code : Option Word) (h : s.canEnterReal vec = true) :
    s.exception vec code = .next (s.realEntry vec s.ip) := by
  simp only [State.exception, State.takeException]
  rw [s.deliver_realEntry { vec, kind := .exc, ret := s.ip, code } h]

theorem State.pushCells_three : s.pushCells 3 =
    wordCells (s.stackAddr (-2)) ++ wordCells (s.stackAddr (-4)) ++ wordCells (s.stackAddr (-6)) := by
  simp only [State.pushCells, State.stackAddr, List.nil_append, BitVec.sub_eq_add_neg]
  rfl

/-- The entry of an interrupt stores below SP only (R830). -/
theorem State.readPhys_realEntry (vec : Byte) (ret : Word) (a : PAddr) (h : a ∉ s.pushCells 3) :
    (s.realEntry vec ret).readPhys a = s.readPhys a := by
  rw [State.pushCells_three, List.mem_append, List.mem_append, not_or, not_or] at h
  obtain ⟨⟨h2, h4⟩, h6⟩ := h
  calc (s.realEntry vec ret).readPhys a
    _ = (((s.writePhys16 (s.stackAddr (-2)) s.flags.toWord).writePhys16 (s.stackAddr (-4)) s.cs.sel).writePhys16
          (s.stackAddr (-6)) ret).readPhys a := State.readPhys_congr a rfl rfl rfl rfl
    _ = s.readPhys a := by
      rw [State.readPhys_writePhys16_ne _ _ _ _ h6, State.readPhys_writePhys16_ne _ _ _ _ h4,
        State.readPhys_writePhys16_ne _ _ _ _ h2]

/-- An instruction that raises an exception which real mode can enter. -/
theorem Does.of_exception {vec : Byte} {code : Option Word} (h : exec i s = s.exception vec code)
    (hr : s.canEnterReal vec = true) : Does i s (s.realEntry vec s.ip) (s.pushCells 3) :=
  ⟨h.trans (s.exception_realEntry vec code hr), fun a => s.readPhys_realEntry vec s.ip a⟩

/-! Words of the tables, the reset state, RESET -/

/-- Settles O3: the decoder run on each word. -/
theorem sampleWordsDecode : Obligations.SampleWordsDecode := by
  unfold Obligations.SampleWordsDecode
  and_intros <;> rfl

/-- Settles O6. -/
theorem resetMeetsInvariant : Obligations.ResetMeetsInvariant :=
  ⟨Memory.wf_reset, rfl, fun _ x => by cases x <;> exact ⟨rfl, rfl⟩⟩

/-- Settles O10: RESET comes before everything, and its state is the reset state but for the host's side. -/
theorem resetOverridesEverything : Obligations.ResetOverridesEverything := by
  intro s hr
  have hstep : step s = .next s.resetEvent := by simp [step, State.next, hr]
  have hseg : ∀ x ∈ [SReg.ds, .es, .ss],
      (s.resetEvent.seg x).sel = 0 ∧ (s.resetEvent.seg x).base = 0 ∧ (s.resetEvent.seg x).limit = 0xFFFF := by
    simp only [List.forall_mem_cons]
    exact ⟨⟨rfl, rfl, rfl⟩, ⟨rfl, rfl, rfl⟩, ⟨rfl, rfl, rfl⟩, by simp⟩
  have hflags : State.reset.flags.toWord = 0x0002 := by decide
  have hmsw : State.reset.msw.toWord = 0xFFF0 := by decide
  have hfetch : State.reset.cs.lin State.reset.ip = 0xFFFFF0 := by decide
  exact ⟨s.resetEvent, hstep, hflags, hmsw, rfl, rfl, rfl, rfl, hseg, rfl, rfl, rfl, rfl, rfl, rfl, hfetch, rfl, rfl⟩

/-! Memory -/

theorem Word.lo_toNat (v : Word) : v.lo.toNat = v.toNat % 256 := by simp [Word.lo]

theorem Word.hi_toNat (v : Word) : v.hi.toNat = v.toNat / 256 := by
  have := v.isLt
  simp only [Word.hi, BitVec.extractLsb'_toNat, Nat.shiftRight_eq_div_pow]
  omega

/-- Settles O13: a word is two bytes written one after the other, at two addresses. -/
theorem readAfterWrite : Obligations.ReadAfterWrite := by
  refine ⟨State.readPhys_writePhys, fun s a v hram => ?_⟩
  have hlo : kindAt s.memMap a = .ram := hram a (by simp [wordCells])
  have hhi : kindAt s.memMap (a + 1) = .ram := hram (a + 1) (by simp [wordCells])
  have hread : (s.writePhys16 a v).readPhys a = v.lo := by
    rw [State.writePhys16, State.readPhys_writePhys_ne _ _ _ _ (PAddr.succ_ne a).symm, State.readPhys_writePhys,
      if_pos ⟨rfl, hlo⟩]
  have hread' : (s.writePhys16 a v).readPhys (a + 1) = v.hi := by
    rw [State.writePhys16, State.readPhys_writePhys, if_pos ⟨rfl, by simpa using hhi⟩]
  exact ⟨s.readPhys16_writePhys16 a v hram, by rw [hread, Word.lo_toNat], by rw [hread', Word.hi_toNat],
    fun b => s.readPhys_writePhys16_ne a b v⟩

/-! Flags and processor control -/

theorem State.setIf_ok (b : Bool) (h : s.ioAllowed = true) :
    s.setIf b = .ok (s.setFlags { s.flags with ie := b }).advance := by
  simp [State.setIf, h]

/-- Settles O50. -/
theorem flagAndProcessorControl : Obligations.FlagAndProcessorControl := by
  refine fun s => ⟨.of_keep rfl rfl rfl rfl rfl, .of_keep rfl rfl rfl rfl rfl, .of_keep rfl rfl rfl rfl rfl,
    fun h => ?trusted, fun h => ?halt⟩
  case trusted =>
    have hio := State.ioAllowed_of h
    exact ⟨.of_run_keep rfl (s.setIf_ok false hio) rfl rfl rfl rfl, .of_run_keep rfl (s.setIf_ok true hio) rfl rfl rfl rfl⟩
  case halt =>
    have hok : s.halt = .ok { s.advance with runState := .halted } := by simp [State.halt, h]
    exact .of_run_keep rfl hok rfl rfl rfl rfl

/-! Encodings that are no instruction -/

theorem exec_undefinedRows : ∀ i ∈ undefinedRows, exec i s = s.exception 6 none := by
  simp only [undefinedRows, List.forall_mem_cons]
  and_intros <;> first | rfl | simp

theorem exec_undefinedStackRows : ∀ i ∈ undefinedStackRows, exec i s = s.exception 13 (some 0) := by
  simp only [undefinedStackRows, List.forall_mem_cons]
  and_intros <;> first | rfl | simp

theorem exec_unlistedRows : ∀ i ∈ unlistedRows, exec i s = .refused .unlistedEncoding := by
  simp only [unlistedRows, List.forall_mem_cons]
  and_intros <;> first | rfl | simp

/-- Settles O60. -/
theorem encodingsWithoutInstruction : Obligations.EncodingsWithoutInstruction := by
  refine ⟨fun s => ⟨fun i h => ?undefined, fun i h => ?stack⟩, fun s => ⟨exec_unlistedRows, fun b => ⟨rfl, rfl⟩⟩⟩
  case undefined =>
    have he : exec i s = s.exception 6 none := by
      rcases h with h | ⟨b, rfl⟩
      · exact exec_undefinedRows i h
      · rfl
    exact ⟨he, Does.of_exception he⟩
  case stack =>
    have he : exec i s = s.exception 13 (some 0) := by
      rcases h with h | rfl
      · exact exec_undefinedStackRows i h
      · rfl
    exact ⟨he, Does.of_exception he⟩

/-! Prefixes -/

/-- One element of those that remain: a prefix is followed by the rest, any other ends the instruction (R222, R275). -/
theorem State.elements_succ (n : Nat) {rest : List Byte} (h : decode s.code = .ok (i, rest)) :
    State.elements (n + 1) s =
      match exec i ((s.decoded (s.code.length - rest.length)).prefixLocked i) with
      | .next t => if t.dec.phase = .prefixed then State.elements n t else .next t
      | .fault f => .fault f
      | .refused q => .refused q := by
  simp only [State.elements, State.element, h] <;> rfl

theorem heedsLock_lockedByPrefix (h : i ∈ lockedByPrefix) : heedsLock i = true := by
  simp only [lockedByPrefix, List.mem_cons, List.not_mem_nil, or_false] at h
  obtain rfl | rfl | rfl | rfl | rfl | rfl := h <;> rfl

theorem heedsLock_movOfMemory (h : movOfMemory i) : heedsLock i = Config.lockHeldForMov := by
  rcases h with ⟨m, r, rfl | rfl⟩ | ⟨m, r, rfl | rfl⟩ | ⟨m, v, rfl⟩ | ⟨m, v, rfl⟩ | ⟨a, h⟩ | ⟨m, h⟩
  case inr.inr.inr.inr.inl =>
    simp only [List.mem_cons, List.not_mem_nil, or_false] at h
    obtain rfl | rfl | rfl | rfl := h <;> rfl
  case inr.inr.inr.inr.inr =>
    simp only [List.mem_cons, List.not_mem_nil, or_false] at h
    obtain rfl | rfl | rfl | rfl | rfl | rfl | rfl := h <;> rfl
  all_goals rfl

/-- An instruction that heeds the prefix is in one of the two lists. -/
theorem heedsLock_other (h : i ∉ lockedByPrefix) (hm : ¬movOfMemory i) : heedsLock i = false := by
  unfold heedsLock
  split
  case h_24 => rfl
  case h_1 | h_2 | h_3 | h_4 | h_5 | h_6 => exact absurd (by simp [lockedByPrefix]) h
  all_goals exact absurd (by simp [movOfMemory]) hm

/-- Bus LOCK as the model and as the statements write it. -/
theorem State.lockBus_eq (s : State) : s.lockBus = s.underLock := rfl

/-- Settles O59: the prefixes by their meaning; behind LOCK by whether the instruction heeds it. -/
theorem prefixesAreRemembered : Obligations.PrefixesAreRemembered := by
  refine ⟨fun s => ?remembered, ?locked⟩
  case remembered =>
    refine ⟨.of_keep rfl rfl rfl rfl rfl, .of_keep rfl rfl rfl rfl rfl, .of_keep rfl rfl rfl rfl rfl,
      .of_keep rfl rfl rfl rfl rfl, .of_keep rfl rfl rfl rfl rfl, .of_keep rfl rfl rfl rfl rfl, fun h => ?_⟩
    have hok : s.lockPrefix = .ok { s with dec := { s.dec with lock := true, phase := .prefixed } } := by
      simp [State.lockPrefix, State.ioAllowed_of h]
    exact .of_run_keep rfl hok rfl rfl rfl rfl
  case locked =>
    intro s i rest n hd u runs
    have hrun : runs (u.prefixLocked i) := State.elements_succ n hd
    have hlock : u.dec.lock = s.dec.lock := rfl
    refine ⟨fun h => ?_, fun h => ⟨fun hi => ?_, fun hi => ?_, fun hi hm => ?_⟩⟩
    · rwa [u.prefixLocked_unlocked i h] at hrun
    · simpa only [State.prefixLocked, hlock, h, heedsLock_lockedByPrefix hi, State.lockBus_eq, Bool.true_and, if_true] using hrun
    · simpa only [State.prefixLocked, hlock, h, heedsLock_movOfMemory hi, State.lockBus_eq, Bool.true_and] using hrun
    · simpa only [State.prefixLocked, hlock, h, heedsLock_other hi hm, Bool.and_false, Bool.false_eq_true, if_false]
        using hrun

end Sys2Proof.Machine
end

section
/-!
# The processor extension: WAIT, ESC and the data channel (O58)
-/

namespace Sys2Proof.Machine

variable {s t : State}

/-! What the processor extension leaves alone -/

/-- What the actions of the processor extension leave alone, everything else blanked (R750, R756). -/
def State.npxSide (s : State) : State :=
  { s with npxBusy := false, npxError := false, npxIn := [], channel := .idle, mem := [], hostOut := [], free := 0,
           overrunReq := false }

theorem State.writePhys_npxSide (a : PAddr) (v : Byte) : (s.writePhys a v).npxSide = s.npxSide := by
  rw [State.writePhys_eq]
  rfl

theorem State.writePhys16_npxSide (a : PAddr) (v : Word) : (s.writePhys16 a v).npxSide = s.npxSide := by
  rw [State.writePhys16_eq]
  rfl

theorem State.transfer_npxSide (store : Bool) (move : State → PAddr → State)
    (h : ∀ a, (move s a).npxSide = s.npxSide) : (s.transfer store move).npxSide = s.npxSide := by
  rcases s.transfer_cases store move with e | ⟨p, -, -, -, ⟨-, e⟩ | ⟨-, e⟩⟩ <;> rw [e]
  · exact h p.addr
  · rfl

theorem State.npxAct_read (s : State) :
    s.npxAct .read = s.transfer false fun t a => { t with hostOut := .npxWord (t.readPhys16 a) :: t.hostOut } := rfl

theorem State.npxAct_write (s : State) (v : Word) :
    s.npxAct (.write v) = s.transfer true fun t a => t.writePhys16 a v := rfl

theorem State.npxAct_npxSide (a : NpxAct) : (s.npxAct a).npxSide = s.npxSide := by
  cases a with
  | busy b => rfl
  | error b => rfl
  | read => exact State.transfer_npxSide _ _ fun _ => rfl
  | write v => exact State.transfer_npxSide _ _ fun a => State.writePhys16_npxSide a v

/-- What holds before the processor extension acts, and is kept by each of its actions, holds after them (R750). -/
theorem State.npxStep_induction {P : State → Prop} (h0 : P { s with npxIn := [] }) (hact : ∀ t a, P t → P (t.npxAct a)) :
    P s.npxStep := by
  have hfold (l : List NpxAct) : ∀ t, P t → P (l.foldl State.npxAct t) := by
    induction l with
    | nil => exact fun _ h => h
    | cons a l ih => exact fun t h => ih _ (hact t a h)
  unfold State.npxStep
  simp only
  split
  · exact hfold _ _ h0
  · exact h0

theorem State.npxStep_npxSide (s : State) : s.npxStep.npxSide = s.npxSide :=
  State.npxStep_induction (P := fun t => t.npxSide = s.npxSide) rfl fun _ a h => (State.npxAct_npxSide a).trans h

/-- Without a processor extension nothing is done (R750). -/
theorem State.npxStep_absent (h : s.npxPresent = false) : s.npxStep = { s with npxIn := [] } := by
  simp [State.npxStep, h]

theorem State.transfer_npxIn (store : Bool) (move : State → PAddr → State) (h : ∀ a, (move s a).npxIn = s.npxIn) :
    (s.transfer store move).npxIn = s.npxIn := by
  rcases s.transfer_cases store move with e | ⟨p, -, -, -, ⟨-, e⟩ | ⟨-, e⟩⟩ <;> rw [e]
  · exact h p.addr

theorem State.npxAct_npxIn (a : NpxAct) : (s.npxAct a).npxIn = s.npxIn := by
  cases a with
  | busy b => rfl
  | error b => rfl
  | read => exact State.transfer_npxIn _ _ fun _ => rfl
  | write v => exact State.transfer_npxIn _ _ fun a => by simp

/-- What the processor extension was to do is done once (R750). -/
theorem State.npxStep_npxIn (s : State) : s.npxStep.npxIn = [] :=
  State.npxStep_induction (P := fun t => t.npxIn = []) rfl fun _ a h => (State.npxAct_npxIn a).trans h

/-! WAIT -/

theorem State.await_ok (hb : s.busy = false) (hm : s.msw.mp = false ∨ s.msw.ts = false)
    (he : s.msw.em = true ∨ s.mathError = false) : s.await = .ok s.advance := by
  have h7 : (!(s.msw.mp && s.msw.ts)) = true := by rcases hm with h | h <;> simp [h]
  have h16 : (s.msw.em || !s.mathError) = true := by rcases he with h | h <;> simp [h]
  simp [State.await, h7, h16, hb]

theorem State.await_stall (hb : s.busy = true) (hts : s.msw.ts = false) : s.await = .ok s.stall := by
  simp [State.await, hb, hts]

/-! ESC -/

theorem exec_esc (x y : BitVec 3) (e : E16) (s : State) : exec (.esc x y e) s = s.finish (s.escape x y e) := rfl

/-- The check of a memory operand's first word (R751). -/
def State.escCheck (s : State) (x y : BitVec 3) : E16 → Bool
  | .reg _ => true
  | .mem m => s.escOperandOk x y m

/-- ESC that nothing hinders hands itself over (R751). -/
theorem State.escape_ok {x y : BitVec 3} {e : E16} (hem : s.msw.em = false) (hts : s.msw.ts = false)
    (hfree : escNoWait x y e = true ∨ s.busy = false ∧ s.mathError = false) (hop : s.escCheck x y e = true) :
    s.escape x y e = .ok (s.handOver x y e).advance := by
  have h16 : (escNoWait x y e || !s.mathError) = true := by rcases hfree with h | ⟨-, h⟩ <;> simp [h]
  have hbusy : (s.busy && !escNoWait x y e) = false := by rcases hfree with h | ⟨h, -⟩ <;> simp [h]
  cases e with
  | reg r => simp [State.escape, hem, hts, h16, hbusy]
  | mem m =>
    have hop' : s.escOperandOk x y m = true := hop
    simp [State.escape, hem, hts, h16, hbusy, hop']

/-- ESC whose memory operand fails its check. -/
theorem State.escape_fault {x y : BitVec 3} {m : Mem} (hem : s.msw.em = false) (hts : s.msw.ts = false)
    (hfree : escNoWait x y (.mem m) = true ∨ s.busy = false ∧ s.mathError = false)
    (hop : s.escOperandOk x y m = false) : s.escape x y (.mem m) = .error (s.segFault (s.eaSeg m)) := by
  have h16 : (escNoWait x y (.mem m) || !s.mathError) = true := by rcases hfree with h | ⟨-, h⟩ <;> simp [h]
  have hbusy : (s.busy && !escNoWait x y (.mem m)) = false := by rcases hfree with h | ⟨h, -⟩ <;> simp [h]
  simp [State.escape, hem, hts, h16, hbusy, hop]

theorem State.escape_stall {x y : BitVec 3} {e : E16} (hem : s.msw.em = false) (hts : s.msw.ts = false)
    (herr : s.mathError = false) (hbusy : s.busy = true) (hw : escNoWait x y e = false) :
    s.escape x y e = .ok s.stall := by
  simp [State.escape, hem, hts, herr, hbusy, hw]

theorem State.escape_notAvailable (h : s.msw.em = true ∨ s.msw.ts = true) (x y : BitVec 3) (e : E16) :
    s.escape x y e = .error (.exc 7 none none) := by
  have h7 : (!s.msw.em && !s.msw.ts) = false := by rcases h with h | h <;> simp [h]
  simp [State.escape, h7]

theorem State.escape_mathError {x y : BitVec 3} {e : E16} (hem : s.msw.em = false) (hts : s.msw.ts = false)
    (herr : s.mathError = true) (hw : escNoWait x y e = false) : s.escape x y e = .error (.exc 16 none none) := by
  simp [State.escape, hem, hts, herr, hw]

/-- ALL THAT ESC CAN COME TO: it waits, it is handed over, or it stops with nothing left (R751). -/
theorem State.escape_cases (s : State) (x y : BitVec 3) (e : E16) :
    s.escape x y e = .ok s.stall ∨ s.escape x y e = .ok (s.handOver x y e).advance ∨
      ∃ v c, s.escape x y e = .error (.exc v c none) := by
  unfold State.escape
  cases hnm : !s.msw.em && !s.msw.ts with
  | false => exact .inr (.inr ⟨_, _, rfl⟩)
  | true =>
    cases herr : escNoWait x y e || !s.mathError with
    | false => exact .inr (.inr ⟨_, _, rfl⟩)
    | true =>
      simp only [check_true, run_bind_ok]
      split
      · exact .inl rfl
      · cases e with
        | reg r => exact .inr (.inl rfl)
        | mem m =>
          obtain ⟨v, c, hf⟩ := s.segFault_exc (s.eaSeg m)
          cases hop : s.escOperandOk x y m with
          | false => exact .inr (.inr ⟨v, c, by simp [hop, hf]⟩)
          | true => exact .inr (.inl (by simp [hop]))

theorem encode_esc (x y : BitVec 3) (e : E16) : encode (.esc x y e) = (0b11011#5 ++ x) :: encE16 y e := rfl

/-- An ESC with a memory operand, handed over (R751). -/
theorem State.handOver_mem {x y : BitVec 3} {m : Mem} {op modrm : Byte} {rest : List Byte}
    (h : encode (.esc x y (.mem m)) = op :: modrm :: rest) : s.handOver x y (.mem m) =
      { s with
        hostOut := .esc op modrm (some (s.seg (s.eaSeg m), s.eaOff m)) :: s.hostOut
        channel := if s.npxPresent = true ∧ s.channel ≠ Channel.overrun then
            .moving { seg := s.seg (s.eaSeg m), prot := s.prot, next := (s.eaOff m).toNat, store := escWrites x y }
          else s.channel } := by
  obtain ⟨hop, hmodrm⟩ := List.cons.inj ((encode_esc x y (.mem m)).symm.trans h)
  have hax : escToAx x y (.mem m) = false := by simp [escToAx]
  have hinit : escInit x y (.mem m) = false := by simp [escInit]
  have hch : s.escChannel x y (.mem m) = if s.npxPresent = true ∧ s.channel ≠ Channel.overrun then
      .moving { seg := s.seg (s.eaSeg m), prot := s.prot, next := (s.eaOff m).toNat, store := escWrites x y }
      else s.channel := by
    simp only [State.escChannel, hinit, State.escOperand]
    cases s.npxPresent <;> by_cases hc : s.channel = .overrun <;> simp [hc]
  simp only [State.handOver, hax, hop, hmodrm, hch, State.escOperand]
  rfl

/-- An ESC without a memory operand, handed over (R751). -/
theorem State.handOver_reg {x y : BitVec 3} {r : Reg16} {op modrm : Byte} {rest : List Byte}
    (h : encode (.esc x y (.reg r)) = op :: modrm :: rest) :
    let t := { s with
      hostOut := .esc op modrm none :: s.hostOut
      channel := if x = 3 ∧ y = 4 ∧ r = Reg16.bx then .idle else s.channel }
    s.handOver x y (.reg r) =
      if (x, y, r) = (7, 4, .ax) then t.set16 .ax (Config.freeWord s.free .npxStatus) else t := by
  obtain ⟨hop, hmodrm⟩ := List.cons.inj ((encode_esc x y (.reg r)).symm.trans h)
  have hax : escToAx x y (.reg r) = decide ((x, y, r) = (7, 4, Reg16.ax)) := by
    simp only [escToAx, Prod.mk.injEq, Bool.decide_and, beq_eq_decide, E16.reg.injEq, Bool.and_assoc]
  have hinit : escInit x y (.reg r) = decide (x = 3 ∧ y = 4 ∧ r = Reg16.bx) := by
    simp only [escInit, Bool.decide_and, beq_eq_decide, E16.reg.injEq, Bool.and_assoc]
  have hch : s.escChannel x y (.reg r) = if x = 3 ∧ y = 4 ∧ r = Reg16.bx then .idle else s.channel := by
    simp only [State.escChannel, hinit, State.escOperand, decide_eq_true_eq, ite_self]
  simp only [State.handOver, hax, hop, hmodrm, hch, State.escOperand, decide_eq_true_eq]
  rfl

theorem State.handOver_channel (x y : BitVec 3) (e : E16) : (s.handOver x y e).channel = s.escChannel x y e := by
  unfold State.handOver
  simp only
  split <;> rfl

theorem State.handOver_npx (x y : BitVec 3) (e : E16) :
    (s.handOver x y e).npxBusy = s.npxBusy ∧ (s.handOver x y e).npxPresent = s.npxPresent := by
  unfold State.handOver
  simp only
  split <;> exact ⟨rfl, rfl⟩

/-- After an overrun only FNINIT changes the channel (R756). -/
theorem State.escChannel_overrun {x y : BitVec 3} {e : E16} (hne : (x, y, e) ≠ (3, 4, .reg .bx))
    (h : s.channel = .overrun) : s.escChannel x y e = .overrun := by
  have hinit : escInit x y e = false := by
    simpa [escInit, Bool.eq_false_iff, and_assoc] using hne
  simp [State.escChannel, hinit, h]

/-- An exception leaves alone what is aside of a delivery. -/
theorem State.exception_aside {v : Byte} {c : Option Word} (h : s.exception v c = .next t) : t.aside = s.aside := by
  unfold State.exception at h
  split at h
  · cases h
    exact s.deliver_aside _ _ ‹_›
  · cases h

/-! The data channel -/

theorem Transfer.inside_iff (p : Transfer) :
    p.inside = true ↔ p.next + 1 ≤ 0xFFFF ∧ (p.prot = true → p.seg.inLimit (BitVec.ofNat 16 p.next) 2 = true) := by
  have hle : p.next + 2 ≤ 0x10000 ↔ p.next + 1 ≤ 0xFFFF := by omega
  simp only [Transfer.inside, Bool.and_eq_true, Bool.or_eq_true, Bool.not_eq_true', decide_eq_true_eq, hle]
  cases p.prot <;> simp

/-- The channel does not move the word that goes the other way (R756). -/
theorem State.transfer_other {p : Transfer} {store : Bool} {move : State → PAddr → State} (hc : s.channel = .moving p)
    (hs : p.store ≠ store) : s.transfer store move = s := by
  rcases s.transfer_cases store move with e | ⟨q, hq, -, hstore, -⟩
  · exact e
  · cases hc.symm.trans hq
    exact absurd hstore hs

/-- The channel moves a word inside the segment (R756). -/
theorem State.transfer_inside {p : Transfer} {store : Bool} {move : State → PAddr → State} (hc : s.channel = .moving p)
    (hb : s.busy = true) (hs : p.store = store) (hin : p.inside = true) :
    s.transfer store move =
      { move s p.addr with channel := .moving { p with next := p.next + 2 }, free := s.free + 1 } := by
  unfold State.transfer
  simp only [hc, hb, hs, hin, beq_self_eq_true, Bool.and_self, if_true]

/-- The channel loses a word outside the segment (R756). -/
theorem State.transfer_outside {p : Transfer} {store : Bool} {move : State → PAddr → State} (hc : s.channel = .moving p)
    (hb : s.busy = true) (hs : p.store = store) (hin : p.inside = false) :
    s.transfer store move = { s with channel := .overrun, overrunReq := true } := by
  unfold State.transfer
  simp only [hc, hb, hs, hin, beq_self_eq_true, Bool.and_self, if_true, Bool.false_eq_true, if_false]

/-- A transfer while an overrun waits for FNINIT does nothing (R756). -/
theorem State.npxAct_overrun (a : NpxAct) (h : s.channel = .overrun) :
    (s.npxAct a).channel = .overrun ∧ (s.npxAct a).mem = s.mem ∧ (s.npxAct a).npxPresent = s.npxPresent := by
  have ht (store : Bool) (move : State → PAddr → State) : s.transfer store move = s := by simp [State.transfer, h]
  cases a with
  | busy b => exact ⟨h, rfl, rfl⟩
  | error b => exact ⟨h, rfl, rfl⟩
  | read =>
    have e : s.npxAct .read = s := s.npxAct_read.trans (ht _ _)
    rw [e]
    exact ⟨h, rfl, rfl⟩
  | write v =>
    have e : s.npxAct (.write v) = s := (s.npxAct_write v).trans (ht _ _)
    rw [e]
    exact ⟨h, rfl, rfl⟩

/-- The bytes of memory that the operand of a storing ESC holds, from the channel's offset up (R756). -/
def State.operandCell (s : State) (a : PAddr) : Prop :=
  ∃ p, s.channel = .moving p ∧ p.store = true ∧ ∃ k, p.next ≤ k ∧ k ≤ 0xFFFF ∧ a = p.seg.lin (BitVec.ofNat 16 k)

theorem State.read_writePhys_ne {a b : PAddr} (v : Byte) (h : b ≠ a) :
    Memory.read (s.writePhys a v).mem b.toNat = Memory.read s.mem b.toNat := by
  have hne : b.toNat ≠ a.toNat := fun e => h (BitVec.eq_of_toNat_eq e)
  unfold State.writePhys
  split
  · simp [Memory.read_write, hne]
  all_goals rfl

theorem State.read_writePhys16_ne {a b : PAddr} (v : Word) (h0 : b ≠ a) (h1 : b ≠ a + 1) :
    Memory.read (s.writePhys16 a v).mem b.toNat = Memory.read s.mem b.toNat :=
  (State.read_writePhys_ne _ h1).trans (State.read_writePhys_ne _ h0)

/-- Each action of the processor extension stores in the operand only, and the operand only shrinks (R756). -/
theorem State.npxAct_memory (n : NpxAct) :
    (∀ a, (s.npxAct n).operandCell a → s.operandCell a) ∧
      ∀ a : PAddr, ¬s.operandCell a → Memory.read (s.npxAct n).mem a.toNat = Memory.read s.mem a.toNat := by
  have hmove (store : Bool) (move : State → PAddr → State) (hchan : ∀ a, (move s a).channel = s.channel)
      (hmem : ∀ p, s.channel = .moving p → p.store = store → p.inside = true → ∀ a : PAddr, ¬s.operandCell a →
        Memory.read (move s p.addr).mem a.toNat = Memory.read s.mem a.toNat) :
      (∀ a, (s.transfer store move).operandCell a → s.operandCell a) ∧ ∀ a : PAddr, ¬s.operandCell a →
        Memory.read (s.transfer store move).mem a.toNat = Memory.read s.mem a.toNat := by
    rcases s.transfer_cases store move with e | ⟨p, hc, -, hs, ⟨hin, e⟩ | ⟨-, e⟩⟩ <;> rw [e]
    · exact ⟨fun _ h => h, fun _ _ => rfl⟩
    · refine ⟨?_, fun a ha => hmem p hc hs hin a ha⟩
      rintro a ⟨q, hq, hqs, k, hk, hk', rfl⟩
      cases hq
      exact ⟨p, hc, hqs, k, by simp only at hk; omega, hk', rfl⟩
    · refine ⟨?_, fun _ _ => rfl⟩
      rintro a ⟨q, hq, -, -⟩
      cases hq
  cases n with
  | busy b => exact ⟨fun _ h => h, fun _ _ => rfl⟩
  | error b => exact ⟨fun _ h => h, fun _ _ => rfl⟩
  | read => exact hmove _ _ (fun _ => rfl) fun _ _ _ _ _ _ => rfl
  | write v =>
    refine hmove _ _ (fun _ => by simp) fun p hc hs hin a ha => ?_
    have hle : p.next + 1 ≤ 0xFFFF := (p.inside_iff.1 hin).1
    have hlo : a ≠ p.addr := fun e => ha ⟨p, hc, hs, p.next, le_refl _, by omega, e⟩
    have hnext : p.addr + 1 = p.seg.lin (BitVec.ofNat 16 (p.next + 1)) := by
      have := p.seg.lin_add (BitVec.ofNat 16 p.next) 1 (by simp only [BitVec.toNat_ofNat]; omega)
      rw [← BitVec.ofNat_add] at this
      exact this.symm
    have hhi : a ≠ p.addr + 1 := fun e => ha ⟨p, hc, hs, p.next + 1, by omega, hle, e.trans hnext⟩
    exact State.read_writePhys16_ne v hlo hhi

/-- Settles O58. -/
theorem waitAndEsc : Obligations.WaitAndEsc := by
  refine ⟨fun s hb hm he => .of_run_keep rfl (State.await_ok hb hm he) rfl rfl rfl rfl, ?handed, fun s t => ?init,
    fun s => ?exceptions, fun s hb hts hem herr => ?stalls, ?channel, ?actions⟩
  case handed =>
    intro s hem hts x y free
    refine ⟨?mem, ?reg, fun m hf hr => ?unreadable, fun m hf hw hr => ?unwritable⟩
    case mem =>
      intro op modrm rest m hf henc hop g
      have hok : s.escCheck x y (.mem m) = true := by
        show s.escOperandOk x y m = true
        unfold State.escOperandOk
        rcases hop with h | ⟨h, hw⟩
        · split
          · exact h
          · exact s.canRead_of_canWrite _ _ _ h
        · rw [hw]
          exact h
      have h := State.escape_ok hem hts hf hok
      rw [State.handOver_mem henc] at h
      exact .of_run_keep rfl h rfl rfl rfl rfl
    case reg =>
      intro op modrm rest r hf henc t
      have h := State.escape_ok (s := s) hem hts hf rfl
      rw [State.handOver_reg henc] at h
      refine ⟨fun hne => ?_, fun heq => ?_⟩
      · rw [if_neg hne] at h
        exact .of_run_keep rfl h rfl rfl rfl rfl
      · rw [if_pos heq] at h
        exact .of_run_keep rfl h rfl rfl rfl rfl
    case unreadable =>
      have hw : s.canWrite (s.eaSeg m) (s.eaOff m) 2 = false :=
        Bool.eq_false_iff.2 fun h => Bool.eq_false_iff.1 hr (s.canRead_of_canWrite _ _ _ h)
      have hop : s.escOperandOk x y m = false := by
        unfold State.escOperandOk
        split <;> assumption
      rw [exec_esc, State.escape_fault hem hts hf hop, State.finish_segFault]
    case unwritable =>
      have hop : s.escOperandOk x y m = false := by
        unfold State.escOperandOk
        rw [if_pos hw, hr]
      rw [exec_esc, State.escape_fault hem hts hf hop, State.finish_segFault]
  case init =>
    refine ⟨fun hem hts h => ?idle, fun x y e hne hc h => ?overrun⟩
    case idle =>
      rw [exec_esc, State.escape_ok hem hts (.inl (by decide)) rfl] at h
      cases h
      obtain ⟨hbusy, hpresent⟩ := State.handOver_npx (s := s) 3 4 (.reg .bx)
      have hch : (s.handOver 3 4 (.reg .bx)).channel = .idle := State.handOver_channel _ _ _
      refine ⟨hch, ?_⟩
      simp only [State.busy, State.advance_npxBusy, State.advance_channel, State.advance_npxPresent, hbusy, hpresent, hch]
      cases s.npxBusy <;> rfl
    case overrun =>
      rw [exec_esc] at h
      rcases s.escape_cases x y e with hr | hr | ⟨v, c, hr⟩ <;> rw [hr] at h
      · cases h
        exact hc
      · cases h
        exact (State.handOver_channel x y e).trans (State.escChannel_overrun hne hc)
      · have ha := congrArg State.channel (State.exception_aside h)
        exact ha.trans hc
  case exceptions =>
    refine ⟨fun h x y e => ?_, fun hmp hts => ?_, fun hem hts herr => ⟨fun x y e hw => ?_, fun hb => ?_⟩⟩
    · rw [exec_esc, State.escape_notAvailable h, State.finish_exc]
    · show s.finish s.await = _
      simp [State.await, hmp, hts]
    · rw [exec_esc, State.escape_mathError hem hts herr hw, State.finish_exc]
    · show s.finish s.await = _
      simp [State.await, hts, hb, hem, herr]
  case stalls =>
    refine ⟨?_, fun x y e hw => ?_⟩
    · show s.finish s.await = _
      rw [State.await_stall hb hts, State.finish_ok]
      rfl
    · rw [exec_esc, State.escape_stall hem hts herr hb hw, State.finish_ok]
      rfl
  case channel =>
    intro s p hc hb a inside on lost
    have hiff : p.inside = true ↔ inside := p.inside_iff
    have hout (h : ¬inside) : p.inside = false := Bool.eq_false_iff.2 fun h' => h (hiff.1 h')
    refine ⟨fun hs => ⟨?_, fun v => ⟨fun hin => ?_, fun hin => ?_⟩⟩, fun hs => ⟨fun v => ?_, fun hin => ?_, fun hin => ?_⟩⟩
    · exact s.npxAct_read.trans (State.transfer_other hc (by simp [hs]))
    · exact (s.npxAct_write v).trans (State.transfer_inside hc hb hs (hiff.2 hin))
    · exact (s.npxAct_write v).trans (State.transfer_outside hc hb hs (hout hin))
    · exact (s.npxAct_write v).trans (State.transfer_other hc (by simp [hs]))
    · exact s.npxAct_read.trans (State.transfer_inside hc hb hs (hiff.2 hin))
    · exact s.npxAct_read.trans (State.transfer_outside hc hb hs (hout hin))
  case actions =>
    intro s t
    refine ⟨?side, fun hc hp => ?overrun, fun a ha => ?memory, fun hp => ?absent⟩
    case side =>
      have h := s.npxStep_npxSide
      calc { t with npxBusy := s.npxBusy, npxError := s.npxError, npxIn := s.npxIn, channel := s.channel, mem := s.mem,
                    hostOut := s.hostOut, free := s.free, overrunReq := s.overrunReq }
        _ = { t.npxSide with npxBusy := s.npxBusy, npxError := s.npxError, npxIn := s.npxIn, channel := s.channel,
                             mem := s.mem, hostOut := s.hostOut, free := s.free, overrunReq := s.overrunReq } := rfl
        _ = s := by rw [h]; rfl
    case overrun =>
      obtain ⟨hc', hmem, hp'⟩ : t.channel = .overrun ∧ t.mem = s.mem ∧ t.npxPresent = true :=
        State.npxStep_induction (P := fun t => t.channel = .overrun ∧ t.mem = s.mem ∧ t.npxPresent = true)
          ⟨hc, rfl, hp⟩ fun u n ⟨h1, h2, h3⟩ =>
            have ⟨k1, k2, k3⟩ := State.npxAct_overrun n h1
            ⟨k1, k2.trans h2, k3.trans h3⟩
      exact ⟨by simp [State.busy, hc', hp'], hc', hmem⟩
    case memory =>
      have hcell : ¬s.operandCell a := by
        rintro ⟨p, hc, hs, k, hk, hk', e⟩
        exact ha p hc hs k hk hk' e
      exact (State.npxStep_induction
        (P := fun t => ¬t.operandCell a ∧ Memory.read t.mem a.toNat = Memory.read s.mem a.toNat) ⟨hcell, rfl⟩
        fun u n ⟨h1, h2⟩ =>
          have ⟨k1, k2⟩ := State.npxAct_memory (s := u) n
          ⟨fun h => h1 (k1 a h), (k2 a h1).trans h2⟩).2
    case absent =>
      exact ⟨State.npxStep_absent hp, by simp [State.busy, hp], by simp [State.mathError, hp],
        by simp [State.overrunDue, hp]⟩

end Sys2Proof.Machine
end

section
/-!
# The boundary between instructions, and the step around one (O4, O11, O12)
-/

namespace Sys2Proof.Machine

variable {s t u : State}

/-! An event delivered at a boundary -/

/-- What a delivery at a boundary leaves alone (R840, R841, R845). -/
theorem State.external_aside {v : Byte} (h : s.external v = .ok t) : t.aside = s.tick.aside := by
  obtain ⟨u, hu, rfl⟩ := s.external_ok v t h
  have ha : u.aside = s.aside := State.deliver_aside { s with runState := .running } _ u hu
  calc State.aside { u with free := u.free + 1 }
    _ = { u.aside with free := u.aside.free + 1 } := rfl
    _ = s.tick.aside := by rw [ha]; rfl

/-- The requests that a delivery leaves as they are. -/
structure SameRequests (s t : State) : Prop where
  trap : t.trapPending = s.trapPending
  nmi : t.nmiPending = s.nmiPending
  masked : t.nmiInService = s.nmiInService
  overrun : t.overrunDue = s.overrunDue
  intr : t.intr = s.intr

theorem State.external_sameRequests {v : Byte} (h : s.external v = .ok t) : SameRequests s t := by
  have ha := State.external_aside h
  exact ⟨(congrArg State.trapPending ha :), (congrArg State.nmiPending ha :), (congrArg State.nmiInService ha :),
    (congrArg State.overrunDue ha :), (congrArg State.intr ha :)⟩

/-- A delivery at a boundary in the words of the statements. -/
theorem State.external_of_deliver {v : Byte}
    (h : State.deliver { s with runState := .running } { vec := v, kind := .ext, ret := s.ip, code := none } = .ok t) :
    s.external v = .ok { t with free := t.free + 1 } := by
  simp only [State.external, h]
  rfl

/-! One request after the other -/

/-- What is done about the requests from a state on, when one has been delivered in it: nothing after shutdown (R820). -/
def State.thenRequests (n : Nat) (u : State) : Except Refusal State :=
  if u.runState = .shutdown then .ok u else u.takeRequests n

theorem State.takeRequests_none (n : Nat) (h : s.requests.find? (·.due) = none) : s.takeRequests n = .ok s := by
  cases n with
  | zero => rfl
  | succ n => simp only [State.takeRequests, h]

/-- The first request due is delivered, and then what is left is looked at (R810). -/
theorem State.takeRequests_some (n : Nat) {r : Request} (h : s.requests.find? (·.due) = some r)
    (hip : r.left.ip = s.ip) : s.takeRequests (n + 1) = r.left.external r.vec >>= State.thenRequests n := by
  simp only [State.takeRequests, h, State.external, ← hip]
  cases State.deliver { r.left with runState := .running }
    { vec := r.vec, kind := .ext, ret := r.left.ip, code := none } <;> rfl

/-- A sequence of what answers or refuses, like `run_bind_ok` for runs. -/
theorem bind_congr_ok {α β : Type} {x : Except Refusal α} {f g : α → Except Refusal β}
    (h : ∀ a, x = .ok a → f a = g a) : (x >>= f) = (x >>= g) := by
  cases x with
  | error q => rfl
  | ok a => exact h a rfl

/-- The requests before INTR. -/
structure NoneBefore (s : State) : Prop where
  trap : s.trapPending = false
  nmi : (s.nmiPending && !s.nmiInService) = false
  overrun : s.overrunDue = false

theorem State.requests_intr (h : NoneBefore s) :
    s.requests.find? (·.due) = match s.intr with
      | none => none
      | some v => if s.flags.ie then
          some { due := s.flags.ie, vec := v, left := { s with intr := none, hostOut := .intAck :: .lock :: s.hostOut } }
        else none := by
  obtain ⟨h1, h2, h3⟩ := h
  unfold State.requests
  cases s.intr with
  | none => simp [h1, h2, h3]
  | some v => cases s.flags.ie <;> simp [h1, h2, h3]

/-- No request is due. -/
theorem State.requests_noneDue :
    (∀ q ∈ s.requests, q.due = false) ↔ NoneBefore s ∧ (s.intr = none ∨ s.flags.ie = false) := by
  have h : (∀ q ∈ s.requests, q.due = false) ↔ s.trapPending = false ∧ (s.nmiPending && !s.nmiInService) = false ∧
      s.overrunDue = false ∧ (s.intr = none ∨ s.flags.ie = false) := by
    unfold State.requests
    cases s.intr <;> simp
  rw [h]
  exact ⟨fun ⟨h1, h2, h3, h4⟩ => ⟨⟨h1, h2, h3⟩, h4⟩, fun ⟨⟨h1, h2, h3⟩, h4⟩ => ⟨h1, h2, h3, h4⟩⟩

/-- In shutdown no event but the single step is looked for (R810, R906). -/
theorem State.laterEvents_shutdown (h : s.runState = .shutdown) :
    s.nmiEvent = .ok s ∧ s.overrunEvent = .ok s ∧ s.intrEvent = .ok s := by
  refine ⟨?_, ?_, ?_⟩
  · simp [State.nmiEvent, h]
  · simp [State.overrunEvent, h]
  · unfold State.intrEvent
    split
    · rfl
    · simp [h]

/-- The last of the four: INTR (R811). -/
theorem State.takeRequests_intr (n : Nat) (h : NoneBefore s) (hs : s.runState ≠ .shutdown) :
    s.takeRequests (n + 1) = s.intrEvent := by
  have hfind := State.requests_intr h
  cases hi : s.intr with
  | none =>
    rw [hi] at hfind
    rw [State.takeRequests_none _ hfind, s.intrEvent_none (.inl hi)]
  | some v =>
    rw [hi] at hfind
    cases hie : s.flags.ie with
    | false =>
      rw [hie] at hfind
      rw [State.takeRequests_none _ hfind, s.intrEvent_none (.inr hie)]
    | true =>
      simp only [hie, if_true] at hfind
      have hev : s.intrEvent = State.external { s with intr := none, hostOut := .intAck :: .lock :: s.hostOut } v := by
        simp [State.intrEvent, hi, hie, hs]
      rw [State.takeRequests_some n hfind rfl, hev]
      refine (bind_congr_ok fun u hu => ?_).trans (bind_pure _)
      have hk := State.external_sameRequests hu
      have hu' : NoneBefore u := ⟨hk.trap.trans h.trap, by rw [hk.nmi, hk.masked]; exact h.nmi, hk.overrun.trans h.overrun⟩
      have hnone : u.requests.find? (·.due) = none := by
        rw [State.requests_intr hu', show u.intr = none from hk.intr]
      unfold State.thenRequests
      split
      · rfl
      · exact State.takeRequests_none n hnone

/-- The third: the processor extension's overrun, and then INTR (R810). -/
theorem State.takeRequests_overrun (n : Nat) (h1 : s.trapPending = false) (h2 : (s.nmiPending && !s.nmiInService) = false)
    (hs : s.runState ≠ .shutdown) : s.takeRequests (n + 2) = s.overrunEvent >>= State.intrEvent := by
  cases ho : s.overrunDue with
  | false =>
    rw [s.overrunEvent_none ho]
    exact State.takeRequests_intr (n + 1) ⟨h1, h2, ho⟩ hs
  | true =>
    have hfind : s.requests.find? (·.due) = some { due := true, vec := 9, left := { s with overrunReq := false } } := by
      simp [State.requests, h1, h2, ho]
    have hev : s.overrunEvent = State.external { s with overrunReq := false } 9 := by
      have hdue : (s.overrunReq && s.npxPresent && !s.nmiInService) = true := ho
      simp only [Bool.and_eq_true] at hdue
      obtain ⟨⟨hr, hp⟩, hm⟩ := hdue
      simp [State.overrunEvent, hs, hr, hp, hm]
    rw [State.takeRequests_some (n + 1) hfind rfl, hev]
    refine bind_congr_ok fun u hu => ?_
    have hk := State.external_sameRequests hu
    unfold State.thenRequests
    split
    case isTrue hsd => exact (State.laterEvents_shutdown hsd).2.2.symm
    case isFalse hsd =>
      exact State.takeRequests_intr n ⟨hk.trap.trans h1, by rw [hk.nmi, hk.masked]; exact h2, hk.overrun⟩ hsd

/-- The second: NMI, and then the overrun and INTR (R810, R812). -/
theorem State.takeRequests_nmi (n : Nat) (h1 : s.trapPending = false) (hs : s.runState ≠ .shutdown) :
    s.takeRequests (n + 3) = s.nmiEvent >>= fun b => b.overrunEvent >>= State.intrEvent := by
  cases h2 : s.nmiPending && !s.nmiInService with
  | false =>
    rw [s.nmiEvent_none h2]
    exact State.takeRequests_overrun (n + 1) h1 h2 hs
  | true =>
    have hfind : s.requests.find? (·.due) =
        some { due := true, vec := 2, left := { s with nmiPending := false, nmiInService := true } } := by
      simp [State.requests, h1, h2]
    have hev : s.nmiEvent = State.external { s with nmiPending := false, nmiInService := true } 2 := by
      simp only [Bool.and_eq_true] at h2
      simp [State.nmiEvent, hs, h2]
    rw [State.takeRequests_some (n + 2) hfind rfl, hev]
    refine bind_congr_ok fun u hu => ?_
    have hk := State.external_sameRequests hu
    unfold State.thenRequests
    split
    case isTrue hsd =>
      obtain ⟨-, ho, hi⟩ := State.laterEvents_shutdown hsd
      rw [ho]
      exact hi.symm
    case isFalse hsd => exact State.takeRequests_overrun n (hk.trap.trans h1) (by rw [hk.nmi]; rfl) hsd

/-- The first: the single step, and then the others: the events of the boundary are the requests in their order (R810). -/
theorem State.takeRequests_boundary (n : Nat) (hi : s.inhibit = false) (hs : s.runState ≠ .shutdown) :
    s.takeRequests (n + 4) = s.boundary := by
  have hb : s.boundary = s.trapEvent >>= fun a => a.nmiEvent >>= fun b => b.overrunEvent >>= State.intrEvent := by
    simp [State.boundary, hi]
  rw [hb]
  cases h1 : s.trapPending with
  | false =>
    rw [s.trapEvent_none h1]
    exact State.takeRequests_nmi (n + 1) h1 hs
  | true =>
    have hfind : s.requests.find? (·.due) = some { due := true, vec := 1, left := { s with trapPending := false } } := by
      simp [State.requests, h1]
    have hev : s.trapEvent = State.external { s with trapPending := false } 1 := by simp [State.trapEvent, h1]
    rw [State.takeRequests_some (n + 3) hfind rfl, hev]
    refine bind_congr_ok fun u hu => ?_
    have hk := State.external_sameRequests hu
    unfold State.thenRequests
    split
    case isTrue hsd =>
      obtain ⟨hn, ho, hi⟩ := State.laterEvents_shutdown hsd
      rw [hn]
      show _ = u.overrunEvent >>= State.intrEvent
      rw [ho]
      exact hi.symm
    case isFalse hsd => exact State.takeRequests_nmi n hk.trap hsd

/-! The step with no RESET requested and nothing to do for the processor extension -/

/-- Outside shutdown, with events not held off, the step takes the requests in their order, then an instruction (R810). -/
theorem step_takeRequests {n : Nat} (hn : 4 ≤ n) (hr : s.resetReq = false) (hx : s.npxIn = [])
    (hs : s.runState ≠ .shutdown) (hi : s.inhibit = false) :
    step s = match s.takeRequests n with
      | .ok t => t.instruction
      | .error q => .refused q := by
  obtain ⟨m, rfl⟩ := Nat.exists_eq_add_of_le' hn
  rw [step_of_no_reset s hr, s.npxStep_of_nil hx, State.takeRequests_boundary m hi hs]
  unfold State.proceed
  split
  · contradiction
  all_goals rfl

/-- The first request due delivered, and none due then. -/
theorem step_request {pre post : List Request} {r : Request} (hr : s.resetReq = false) (hx : s.npxIn = [])
    (hs : s.runState ≠ .shutdown) (hi : s.inhibit = false) (hreq : s.requests = pre ++ r :: post)
    (hpre : ∀ q ∈ pre, q.due = false) (hdue : r.due = true)
    (hip : r.left.ip = s.ip) (hd : State.deliver { r.left with runState := .running }
      { vec := r.vec, kind := .ext, ret := s.ip, code := none } = .ok t)
    (hrun : t.runState = .running) (hnone : ∀ q ∈ t.requests, q.due = false) :
    step s = State.instruction { t with free := t.free + 1 } := by
  have hfind : s.requests.find? (·.due) = some r := by
    rw [hreq, List.find?_append, List.find?_eq_none.2 (by simpa using hpre)]
    simp [hdue]
  have hnext : r.left.external r.vec = .ok { t with free := t.free + 1 } :=
    State.external_of_deliver ((congrArg _ (by rw [hip])).trans hd)
  have hlater : State.thenRequests 3 { t with free := t.free + 1 } = .ok { t with free := t.free + 1 } := by
    obtain ⟨⟨h1, h2, h3⟩, h4⟩ := State.requests_noneDue.1 hnone
    have hnone' : ∀ q ∈ State.requests { t with free := t.free + 1 }, q.due = false :=
      State.requests_noneDue.2 ⟨⟨h1, h2, h3⟩, h4⟩
    rw [State.thenRequests, if_neg (by simp [hrun])]
    exact State.takeRequests_none 3 (List.find?_eq_none.2 fun q hq => by simp [hnone' q hq])
  rw [step_takeRequests (n := 4) (le_refl _) hr hx hs hi, State.takeRequests_some 3 hfind hip, hnext]
  exact congrArg (fun x : Except Refusal State => match x with
    | .ok t => t.instruction
    | .error q => .refused q) hlater

theorem State.requests_left_ip {r : Request} (h : r ∈ s.requests) : r.left.ip = s.ip := by
  unfold State.requests at h
  cases hi : s.intr with
  | none =>
    simp only [hi, List.append_nil, List.mem_cons, List.not_mem_nil, or_false] at h
    rcases h with rfl | rfl | rfl <;> rfl
  | some v =>
    simp only [hi, List.mem_append, List.mem_cons, List.not_mem_nil, or_false] at h
    rcases h with (rfl | rfl | rfl) | rfl <;> rfl

/-- The first request due, which real mode can enter, and none due in what it leaves (R810, R830). -/
theorem step_realEvent {pre post : List Request} {r : Request} (hr : s.resetReq = false) (hx : s.npxIn = [])
    (hs : s.runState ≠ .shutdown) (hi : s.inhibit = false) (hreq : s.requests = pre ++ r :: post)
    (hpre : ∀ q ∈ pre, q.due = false) (hdue : r.due = true) (hent : r.left.canEnterReal r.vec = true)
    (hnone : NoneBefore r.left) :
    step s = State.instruction
      { State.realEntry { r.left with runState := .running } r.vec s.ip with free := r.left.free + 1 } := by
  have hip : r.left.ip = s.ip := State.requests_left_ip (by rw [hreq]; simp)
  have hd := State.deliver_realEntry (s := { r.left with runState := .running })
    { vec := r.vec, kind := .ext, ret := s.ip, code := none } hent
  have hfree : (State.realEntry { r.left with runState := .running } r.vec s.ip).free = r.left.free := by
    simp [State.realEntry]
  rw [← hfree]
  refine step_request hr hx hs hi hreq hpre hdue hip hd (by simp [State.realEntry])
    (State.requests_noneDue.2 ⟨⟨?_, ?_, ?_⟩, .inr rfl⟩)
  · simpa [State.realEntry] using hnone.trap
  · simpa [State.realEntry] using hnone.nmi
  · simpa [State.realEntry, State.overrunDue] using hnone.overrun

theorem step_npxStep (hr : s.resetReq = false) : step s = step s.npxStep := by
  have hr' : s.npxStep.resetReq = false := (congrArg State.resetReq s.npxStep_npxSide : _).trans hr
  rw [step_of_no_reset s hr, step_of_no_reset _ hr', State.npxStep_of_nil _ s.npxStep_npxIn]

/-- The inhibit latch holds every event off once (R72). -/
theorem step_inhibited (hr : s.resetReq = false) (hx : s.npxIn = []) (hs : s.runState ≠ .shutdown)
    (hi : s.inhibit = true) : step s = State.instruction { s with inhibit := false } := by
  have hb : s.boundary = .ok { s with inhibit := false } := by simp [State.boundary, hi]
  rw [step_of_no_reset s hr, s.npxStep_of_nil hx, s.proceed_of_boundary _ hs hb]

/-- A boundary at which nothing is due. -/
theorem State.boundary_none (hi : s.inhibit = false) (hnone : NoneBefore s) (hintr : s.intr = none ∨ s.flags.ie = false) :
    s.boundary = .ok s := by
  simp only [State.boundary, hi, s.trapEvent_none hnone.trap]
  show (s.nmiEvent >>= fun b => b.overrunEvent >>= State.intrEvent) = _
  rw [s.nmiEvent_none hnone.nmi]
  show (s.overrunEvent >>= State.intrEvent) = _
  rw [s.overrunEvent_none hnone.overrun]
  exact s.intrEvent_none hintr

/-- Settles O12: the four real-mode events are first requests, and the boundary is the requests one after the other. -/
theorem realModeEvents : Obligations.RealModeEvents := by
  refine ⟨fun s hr => ⟨step_npxStep hr, fun hp => ⟨State.npxStep_absent hp, by simp [State.overrunDue, hp]⟩⟩,
    fun s hr hx hrun hi => step_inhibited hr hx (by simp [hrun]) hi, ?trap, ?nmi, ?overrun, ?intr, ?first,
    fun s n hn hr hx hs hi => step_takeRequests hn hr hx hs hi⟩
  case trap =>
    intro s hr hx hs hi htrap hnmi hover hent
    exact step_realEvent (pre := []) (r := ⟨s.trapPending, 1, { s with trapPending := false }⟩) hr hx hs hi rfl (by simp)
      htrap hent ⟨rfl, by simp [hnmi], hover⟩
  case nmi =>
    intro s hr hx hs hi htrap hnmi hserv hent
    exact step_realEvent (pre := [_])
      (r := ⟨s.nmiPending && !s.nmiInService, 2, { s with nmiPending := false, nmiInService := true }⟩) hr hx hs hi rfl
      (by simp [htrap]) (by simp [hnmi, hserv]) hent ⟨htrap, rfl, by simp [State.overrunDue]⟩
  case overrun =>
    intro s hr hx hs hi htrap hnmi hserv hreq hp hent
    exact step_realEvent (pre := [_, _]) (r := ⟨s.overrunDue, 9, { s with overrunReq := false }⟩) hr hx hs hi rfl
      (by simp [htrap, hnmi]) (by simp [State.overrunDue, hreq, hp, hserv]) hent
      ⟨htrap, by simp [hnmi], by simp [State.overrunDue]⟩
  case intr =>
    intro s v hr hx hs hi htrap hnmi hover hintr hie hent
    have hnmi' : (s.nmiPending && !s.nmiInService) = false := by rcases hnmi with h | h <;> simp [h]
    let r : Request :=
      { due := s.flags.ie, vec := v, left := { s with intr := none, hostOut := .intAck :: .lock :: s.hostOut } }
    have hreq : ∃ pre, s.requests = pre ++ r :: [] ∧ ∀ q ∈ pre, q.due = false := by
      simp only [State.requests, hintr]
      exact ⟨_, rfl, by simp [htrap, hnmi', hover]⟩
    obtain ⟨pre, hreq, hpre⟩ := hreq
    exact step_realEvent (r := r) hr hx hs hi hreq hpre hie hent ⟨htrap, hnmi', hover⟩
  case first =>
    intro s t pre post r hr hx hs hi hreq hpre hdue hd hrun hnone
    exact step_request hr hx hs hi hreq hpre hdue (State.requests_left_ip (by rw [hreq]; simp)) hd hrun hnone

/-! Shutdown and halt -/

/-- A field that the processor extension leaves alone. -/
theorem State.npxStep_keeps {α : Type} (f : State → α) (hf : ∀ s, f s = f s.npxSide) (s : State) : f s.npxStep = f s := by
  rw [hf, s.npxStep_npxSide, ← hf]

theorem step_shutdown (hs : s.runState = .shutdown) (hr : s.resetReq = false) : step s = s.npxStep.shutdownStep := by
  have hrun : s.npxStep.runState = .shutdown := (s.npxStep_keeps State.runState fun _ => rfl).trans hs
  rw [step_of_no_reset s hr, State.proceed, hrun]

/-- An NMI in shutdown that can be delivered ends it (R906). -/
theorem State.shutdownStep_delivered (h : (s.nmiPending && !s.nmiInService) = true)
    (he : State.enter { s with nmiPending := false, nmiInService := true }
      { vec := 2, kind := .ext, ret := s.ip, code := none } = .ok t) :
    s.shutdownStep = .next { t with runState := .running, free := t.free + 1 } := by
  unfold State.shutdownStep
  simp only [h, if_true, he]
  rfl

/-- An NMI in shutdown that cannot be delivered leaves it (R906). -/
theorem State.shutdownStep_failed {v : Byte} {c : Option Word} {l : Option State}
    (h : (s.nmiPending && !s.nmiInService) = true)
    (he : State.enter { s with nmiPending := false, nmiInService := true }
      { vec := 2, kind := .ext, ret := s.ip, code := none } = .error (.exc v c l)) :
    s.shutdownStep = .next { s with nmiPending := false, nmiInService := true, free := s.free + 1 } := by
  unfold State.shutdownStep
  simp only [h, if_true, he]
  rfl

/-- Settles O11. -/
theorem shutdownAndHalt : Obligations.ShutdownAndHalt := by
  have hpend (s : State) : s.npxStep.nmiPending = s.nmiPending := s.npxStep_keeps State.nmiPending fun _ => rfl
  have hserv (s : State) : s.npxStep.nmiInService = s.nmiInService := s.npxStep_keeps State.nmiInService fun _ => rfl
  have hip (s : State) : s.npxStep.ip = s.ip := s.npxStep_keeps State.ip fun _ => rfl
  refine ⟨fun s hs hr hnmi => ?quiet, fun s hs hr hn hm => ?nmi, fun s hs hr hx hi htrap hnmi hover hintr => ?halted⟩
  case quiet =>
    have hno : (s.npxStep.nmiPending && !s.npxStep.nmiInService) = false := by
      rw [hpend, hserv]
      rcases hnmi with h | h <;> simp [h]
    rw [step_shutdown hs hr]
    simp only [State.shutdownStep, hno, Bool.false_eq_true, if_false]
    rfl
  case nmi =>
    intro b a
    have hyes : (b.nmiPending && !b.nmiInService) = true := by
      rw [hpend, hserv]
      simp [hn, hm]
    have hstep : step s = b.shutdownStep := step_shutdown hs hr
    rw [hstep, show s.ip = b.ip from (hip s).symm]
    exact ⟨fun t ht => State.shutdownStep_delivered hyes ht, fun v c l ht => State.shutdownStep_failed hyes ht⟩
  case halted =>
    have hnmi' : (s.nmiPending && !s.nmiInService) = false := by rcases hnmi with h | h <;> simp [h]
    have hb := State.boundary_none hi ⟨htrap, hnmi', hover⟩ hintr
    rw [step_of_no_reset s hr, s.npxStep_of_nil hx, s.proceed_of_boundary s (by simp [hs]) hb]
    simp [State.instruction, hs, State.tick]

end Sys2Proof.Machine
end

section
/-!
# The step runs the decoded instruction (O4)
-/

namespace Sys2Proof.Machine

variable {s t : State}

/-! The bytes that can be fetched -/

/-- The instruction's byte `k` cannot be fetched (R151, R221). -/
theorem State.canFetch_false (s : State) (off : Nat) :
    s.canFetch off = false ↔ 0xFFFF < off ∨ s.prot = true ∧ s.cs.limit.toNat < off := by
  cases hp : s.prot <;> simp [State.canFetch, hp]
  omega

theorem State.window_length_le (s : State) (k n : Nat) : (s.window k n).length ≤ n := by
  induction n generalizing k with
  | zero => simp [State.window]
  | succ n ih =>
    have := ih (k + 1)
    simp only [State.window]
    split
    · simp only [List.length_cons]
      omega
    · simp

/-- The window ends early only at a byte that cannot be fetched. -/
theorem State.window_ends (s : State) (k n : Nat) (h : (s.window k n).length < n) :
    s.canFetch (s.ip.toNat + k + (s.window k n).length) = false := by
  induction n generalizing k with
  | zero => simp at h
  | succ n ih =>
    simp only [State.window] at h ⊢
    split at h
    case isTrue hf =>
      rw [if_pos hf]
      simp only [List.length_cons] at h ⊢
      have := ih (k + 1) (by omega)
      rwa [show s.ip.toNat + k + ((s.window (k + 1) n).length + 1) = s.ip.toNat + (k + 1) + (s.window (k + 1) n).length by
        omega]
    case isFalse hf =>
      rw [if_neg hf]
      simpa using hf

/-- The bytes of the window can be fetched, and are those of memory from CS:IP up (R133, R221). -/
theorem State.window_get (s : State) (k n j : Nat) (h : j < (s.window k n).length) :
    s.canFetch (s.ip.toNat + k + j) = true ∧
      (s.window k n)[j]? = some (s.readPhys (s.cs.lin (BitVec.ofNat 16 (s.ip.toNat + k + j)))) := by
  induction n generalizing k j with
  | zero => simp [State.window] at h
  | succ n ih =>
    simp only [State.window] at h ⊢
    split at h
    case isFalse hf => simp at h
    case isTrue hf =>
      rw [if_pos hf]
      cases j with
      | zero =>
        refine ⟨hf, ?_⟩
        have hoff : s.ip + BitVec.ofNat 16 k = BitVec.ofNat 16 (s.ip.toNat + k) := by
          rw [BitVec.ofNat_add, BitVec.ofNat_toNat, BitVec.setWidth_eq]
        simp [hoff]
      | succ j =>
        have := ih (k + 1) j (by simpa using h)
        rw [show s.ip.toNat + (k + 1) + j = s.ip.toNat + k + (j + 1) by omega] at this
        simpa using this

/-! Elements -/

/-- A delivery that answers remembers nothing of the instruction. -/
theorem State.exception_dec {v : Byte} {c : Option Word} (h : s.exception v c = .next t) : t.dec = {} := by
  unfold State.exception at h
  split at h
  · cases h
    exact s.deliver_dec _ _ ‹_›
  · cases h

theorem State.exception_not_fault {v : Byte} {c : Option Word} {f : Fault} : s.exception v c ≠ .fault f := by
  unfold State.exception
  split <;> exact fun h => by cases h

/-- Bytes that end too early are the last element (R152). -/
theorem State.elements_fetchFault (n : Nat) (h : ∀ x, decode s.code ≠ .ok x) :
    State.elements (n + 1) s = s.exception 13 (some 0) := by
  cases hd : decode s.code with
  | ok x => exact absurd hd (h x)
  | error e =>
    have hel : s.element = s.exception 13 (some 0) := by
      simp only [State.element, hd]
      rfl
    simp only [State.elements, hel]
    cases he : s.exception 13 (some 0) with
    | next t =>
      have hphase : t.dec.phase ≠ .prefixed := by
        rw [State.exception_dec he]
        decide
      exact if_neg hphase
    | fault f => rfl
    | refused q => rfl

/-! The step -/

/-- A boundary at which nothing happens is followed by the instruction (R72, R810). -/
theorem step_quiet (h : s.quiet = true) : step s = State.instruction { s with inhibit := false } := by
  simp only [State.quiet, Bool.and_eq_true, Bool.not_eq_true', decide_eq_true_eq, List.isEmpty_iff] at h
  obtain ⟨⟨⟨hr, hx⟩, hrun⟩, hev⟩ := h
  have hs : s.runState ≠ .shutdown := by simp [hrun]
  cases hi : s.inhibit with
  | true => exact step_inhibited hr hx hs hi
  | false =>
    simp only [hi, Bool.false_or, Bool.and_eq_true, Bool.not_eq_true'] at hev
    obtain ⟨⟨⟨htrap, hnmi⟩, hover⟩, hintr⟩ := hev
    have hintr' : s.intr = none ∨ s.flags.ie = false := by
      cases hv : s.intr with
      | none => exact .inl rfl
      | some v => exact .inr (by simpa [hv] using hintr)
    have hb := State.boundary_none hi ⟨htrap, hnmi, hover⟩ hintr'
    have hsame : { s with inhibit := false } = s := by rw [← hi]
    rw [step_of_no_reset s hr, s.npxStep_of_nil hx, s.proceed_of_boundary s hs hb, hsame]

/-- A step at which nothing happens but the elements of one instruction. -/
theorem step_elements (h : s.quiet = true) :
    step s = match State.elements 11 { s with inhibit := false, dec := {} } with
      | .next t => .next (t.ended s.flags.tf)
      | .fault f => .fault f
      | .refused q => .refused q := by
  have hrun : s.runState = .running := by
    simp only [State.quiet, Bool.and_eq_true, decide_eq_true_eq] at h
    exact h.1.2
  rw [step_quiet h]
  unfold State.instruction
  exact if_pos hrun

end Sys2Proof.Machine

namespace Sys2Proof

/-- The bare escape is read only where the bytes end (R230). -/
theorem eq_of_decode_escape {bs rest : List Byte} (h : decode bs = .ok (.twoByteEscape, rest)) : bs = [0x0F] := by
  obtain ⟨-, pre, rfl, -, -, henc⟩ := encodeOfDecode.1 bs _ rest h
  have hpre : pre = [0x0F] := henc (by decide) (by decide) (by decide)
  subst hpre
  cases rest with
  | nil => rfl
  | cons b rest =>
    obtain ⟨-, pre, -, -, henc⟩ := (reads_second b).sound rest _ _ h
    have : [0x0F, b] ++ pre = [0x0F] := henc (by decide)
    cases this

/-- What is read of some bytes is read with more behind them, but for the bare escape (R222). -/
theorem decode_append {bs rest : List Byte} {i : Instr} (h : decode bs = .ok (i, rest)) (hbs : bs ≠ [0x0F])
    (more : List Byte) : decode (bs ++ more) = .ok (i, rest ++ more) :=
  reads_decode.extends_ok bs i rest h (fun hi => hbs (eq_of_decode_escape (hi ▸ h))) more

end Sys2Proof

namespace Sys2Proof.Machine

/-- Settles O4. -/
theorem stepRunsTheDecodedInstruction : Obligations.StepRunsTheDecodedInstruction := by
  refine ⟨?decoded, ?early, fun t n => State.elements_fetchFault n, ?window, ?missing⟩
  case decoded =>
    intro s i rest u v hq hd
    have hv : v.prefixLocked i = v := v.prefixLocked_unlocked i rfl
    have hel (n : Nat) := State.elements_succ n hd
    have hstep := step_elements hq
    refine ⟨fun t ht hp => ?_, fun t t' ht hp ht' => ?_, fun q hr => ?_⟩
    · have h11 : State.elements 11 u = .next t := by
        rw [hel 10, show (u.decoded (u.code.length - rest.length)).prefixLocked i = v from hv]
        simp only [v] at ht
        rw [ht]
        exact if_neg hp
      rw [hstep, h11]
      rfl
    · have h11 : State.elements 11 u = .next t' := by
        rw [hel 10, show (u.decoded (u.code.length - rest.length)).prefixLocked i = v from hv, ht]
        exact (if_pos hp).trans ht'
      rw [hstep, h11]
      rfl
    · have h11 : State.elements 11 u = .refused q := by
        rw [hel 10, show (u.decoded (u.code.length - rest.length)).prefixLocked i = v from hv, hr]
      rw [hstep, h11]
  case early =>
    intro s u hq hd
    have h11 : State.elements 11 u = u.exception 13 (some 0) := State.elements_fetchFault 10 hd
    have hstep := step_elements hq
    refine ⟨fun t ht => ?_, fun q hr => ?_⟩
    · rw [hstep, h11, ht]
      rfl
    · rw [hstep, h11, hr]
  case window =>
    intro t at_ beyond
    have hcode : t.code = (t.reading .code).window t.dec.len (10 - t.dec.len) := rfl
    have hb (k : Nat) : (t.reading .code).canFetch (at_ k) = false ↔ beyond k := (t.reading .code).canFetch_false _
    refine ⟨hcode ▸ (t.reading .code).window_length_le _ _, fun h => ?_, fun k hk => ?_⟩
    · exact (hb _).1 ((t.reading .code).window_ends t.dec.len (10 - t.dec.len) h)
    · obtain ⟨hf, hget⟩ := (t.reading .code).window_get t.dec.len (10 - t.dec.len) k hk
      refine ⟨fun h => ?_, hget⟩
      have := (hb k).2 h
      exact absurd (hf.symm.trans this) (by simp)
  case missing =>
    intro i bs more hwf henc hmore hbs x hd
    obtain ⟨j, rest⟩ := x
    have hlong := decode_append hd hbs more
    rw [← henc, (decodeOfEncode i hwf).2] at hlong
    have hnil : ([] : List Byte) = rest ++ more := congrArg Prod.snd (Except.ok.inj hlong)
    exact hmore (List.append_eq_nil_iff.1 hnil.symm).2

end Sys2Proof.Machine
end

section
/-!
# Data movement (O15, O16, O19, O20, O22)
-/

namespace Sys2Proof.Machine

variable {s t : State} {i : Instr}

/-! Stores, pushes and pops -/

theorem State.storeE8_ok {e : E8} (v : Byte) (h : s.canWriteE8 e = true) : s.storeE8 e v = .ok (s.put8 e v).advance := by
  simp [State.storeE8, s.writeE8_ok e v h]

theorem State.storeE16_ok {e : E16} (v : Word) (h : s.canWriteE16 e = true) :
    s.storeE16 e v = .ok (s.put16 e v).advance := by
  simp [State.storeE16, s.writeE16_ok e v h]

/-- An instruction that stores a byte (R303, R308, R310). -/
theorem Does.of_storeE8 {e : E8} {v : Byte} (hi : exec i s = s.finish (s.storeE8 e v)) (h : s.canWriteE8 e = true) :
    Does i s (s.put8 e v).advance (s.cells8 e) :=
  .of_run hi (State.storeE8_ok v h) (frame_of (s.readPhys_put8 e v) rfl rfl rfl rfl)

/-- An instruction that stores a word (R303, R305, R308, R310). -/
theorem Does.of_storeE16 {e : E16} {v : Word} (hi : exec i s = s.finish (s.storeE16 e v)) (h : s.canWriteE16 e = true) :
    Does i s (s.put16 e v).advance (s.cells16 e) :=
  .of_run hi (State.storeE16_ok v h) (frame_of (s.readPhys_put16 e v) rfl rfl rfl rfl)

theorem State.stackAddr_zero (s : State) : s.stackAddr 0 = s.ss.lin s.regs.sp := by simp [State.stackAddr]

theorem State.stackAddr_neg (s : State) (k : Word) : s.stackAddr (-k) = s.ss.lin (s.regs.sp - k) := by
  rw [State.stackAddr, BitVec.sub_eq_add_neg]

/-- One push (R160). -/
theorem State.pushRaw_eq (s : State) (v : Word) :
    s.pushRaw v = { s.writePhys16 (s.stackAddr (-2)) v with regs := { s.regs with sp := s.regs.sp - 2 } } := by
  rw [State.stackAddr_neg]
  simp [State.pushRaw, State.setSp]

theorem State.pushCells_one (s : State) : s.pushCells 1 = wordCells (s.stackAddr (-2)) := by
  rw [State.stackAddr_neg]
  rfl

theorem State.readPhys_pushRaw (s : State) (v : Word) (a : PAddr) (h : a ∉ s.pushCells 1) :
    (s.pushRaw v).readPhys a = s.readPhys a := by
  rw [State.pushCells_one, State.stackAddr_neg] at h
  exact frame_of (fun b hb => s.readPhys_writePhys16_ne _ b v hb) rfl rfl rfl rfl a h

theorem State.pushOp_ok (v : Word) (h : s.canWrite .ss (s.regs.sp - 2) 2 = true) :
    s.pushOp v = .ok (s.pushRaw v).advance := by
  simp [State.pushOp, s.push_ok v h]

/-- An instruction that pushes one word (R313-R316, R322). -/
theorem Does.of_pushOp {v : Word} (hi : exec i s = s.finish (s.pushOp v)) (h : s.canWrite .ss (s.regs.sp - 2) 2 = true) :
    Does i s { s.writePhys16 (s.stackAddr (-2)) v with regs := { s.regs with sp := s.regs.sp - 2 } }.advance
      (s.pushCells 1) := by
  rw [← State.pushRaw_eq]
  exact .of_run hi (State.pushOp_ok v h) (frame_of (s.readPhys_pushRaw v) rfl rfl rfl rfl)

/-- The top of the stack, as the statements write its address (R161). -/
theorem State.readTop_ok (h : s.canRead .ss s.regs.sp 2 = true) :
    s.readSeg16 .ss s.regs.sp = .ok (s.readPhys16 (s.stackAddr 0)) := by
  rw [State.stackAddr_zero]
  exact s.readSeg16_ok _ _ h

theorem State.popTop_ok (h : s.canRead .ss s.regs.sp 2 = true) :
    s.pop = .ok (s.readPhys16 (s.stackAddr 0), s.setSp (s.regs.sp + 2)) := by
  simp [State.pop, State.readTop_ok h]

/-! The loads of segment registers, as loads of the selector they read -/

theorem exec_movEsEw {e : E16} (h : s.canReadE16 e = true) :
    exec (.movEsEw e) s = s.finish (s.loadData .es (s.val16 e) >>= fun t => pure t.advance) := by
  show s.finish (s.readE16 e >>= fun v => s.loadData .es v >>= fun t => pure t.advance) = _
  rw [s.readE16_ok e h, run_bind_ok]

theorem exec_movDsEw {e : E16} (h : s.canReadE16 e = true) :
    exec (.movDsEw e) s = s.finish (s.loadData .ds (s.val16 e) >>= fun t => pure t.advance) := by
  show s.finish (s.readE16 e >>= fun v => s.loadData .ds v >>= fun t => pure t.advance) = _
  rw [s.readE16_ok e h, run_bind_ok]

theorem exec_movSsEw {e : E16} (h : s.canReadE16 e = true) :
    exec (.movSsEw e) s = s.finish (s.loadSs (s.val16 e) >>= fun t => pure { t with inhibit := true }.advance) := by
  show s.finish (s.readE16 e >>= fun v => s.loadSs v >>= fun t => pure { t with inhibit := true }.advance) = _
  rw [s.readE16_ok e h, run_bind_ok]

theorem exec_popEs (h : s.canRead .ss s.regs.sp 2 = true) : exec .popEs s =
    s.finish (s.loadData .es (s.readPhys16 (s.stackAddr 0)) >>= fun t => pure (t.setSp (s.regs.sp + 2)).advance) := by
  show s.finish (s.readSeg16 .ss s.regs.sp >>= fun v => s.loadData .es v >>=
    fun t => pure (t.setSp (s.regs.sp + 2)).advance) = _
  rw [State.readTop_ok h, run_bind_ok]

theorem exec_popDs (h : s.canRead .ss s.regs.sp 2 = true) : exec .popDs s =
    s.finish (s.loadData .ds (s.readPhys16 (s.stackAddr 0)) >>= fun t => pure (t.setSp (s.regs.sp + 2)).advance) := by
  show s.finish (s.readSeg16 .ss s.regs.sp >>= fun v => s.loadData .ds v >>=
    fun t => pure (t.setSp (s.regs.sp + 2)).advance) = _
  rw [State.readTop_ok h, run_bind_ok]

theorem exec_popSs (h : s.canRead .ss s.regs.sp 2 = true) : exec .popSs s =
    s.finish (s.loadSs (s.readPhys16 (s.stackAddr 0)) >>=
      fun t => pure ({ t with inhibit := true }.setSp (s.regs.sp + 2)).advance) := by
  show s.finish (s.readSeg16 .ss s.regs.sp >>= fun v => s.loadSs v >>=
    fun t => pure ({ t with inhibit := true }.setSp (s.regs.sp + 2)).advance) = _
  rw [State.readTop_ok h, run_bind_ok]

theorem exec_ldsRwEd {r : Reg16} {m : Mem} (h : s.canReadMem m 4 = true) : exec (.ldsRwEd r (.mem m)) s =
    s.finish (s.loadData .ds (s.readPhys16 (s.addr m + 2)) >>=
      fun t => pure (t.set16 r (s.readPhys16 (s.addr m))).advance) := by
  show s.finish (s.readPointer (.mem m) >>= fun p => s.loadData .ds p.2 >>= fun t => pure (t.set16 r p.1).advance) = _
  rw [s.readPointer_ok m h, run_bind_ok]

theorem exec_lesRwEd {r : Reg16} {m : Mem} (h : s.canReadMem m 4 = true) : exec (.lesRwEd r (.mem m)) s =
    s.finish (s.loadData .es (s.readPhys16 (s.addr m + 2)) >>=
      fun t => pure (t.set16 r (s.readPhys16 (s.addr m))).advance) := by
  show s.finish (s.readPointer (.mem m) >>= fun p => s.loadData .es p.2 >>= fun t => pure (t.set16 r p.1).advance) = _
  rw [s.readPointer_ok m h, run_bind_ok]

/-- An instruction whose meaning is a load that answers, and then a step that cannot fail. -/
theorem Does.of_load {r : Run State} {f : State → State} {u : State} {stored : List PAddr}
    (hi : exec i s = s.finish (r >>= fun t => pure (f t))) (hr : r = .ok u) (ht : f u = t)
    (hm : ∀ a, a ∉ stored → t.readPhys a = s.readPhys a) : Does i s t stored :=
  .of_run hi (by rw [hr, run_bind_ok, run_pure, ht]) hm

/-! Settled: MOV -/

/-- Settles O15. -/
theorem movMovesItsSource : Obligations.MovMovesItsSource := by
  have h8 (s : State) (e : E8) (r : Reg8) (h : s.canReadE8 e = true) :
      (s.readE8 e >>= fun v => pure (s.set8 r v).advance) = .ok (s.set8 r (s.val8 e)).advance := by simp [s.readE8_ok e h]
  have h16 (s : State) (e : E16) (r : Reg16) (h : s.canReadE16 e = true) :
      (s.readE16 e >>= fun v => pure (s.set16 r v).advance) = .ok (s.set16 r (s.val16 e)).advance := by
    simp [s.readE16_ok e h]
  refine ⟨fun s => ⟨fun e r => .of_storeE8 rfl, fun e r => .of_storeE16 rfl,
    fun r e h => .of_run_keep rfl (h8 s e r h) rfl rfl rfl rfl, fun r e h => .of_run_keep rfl (h16 s e r h) rfl rfl rfl rfl,
    fun e i => .of_storeE8 rfl, fun e i => .of_storeE16 rfl, fun r i => .of_keep rfl rfl rfl rfl rfl,
    fun r i => .of_keep rfl rfl rfl rfl rfl, fun a h => .of_run_keep rfl (h8 s _ .al h) rfl rfl rfl rfl,
    fun a h => .of_run_keep rfl (h16 s _ .ax h) rfl rfl rfl rfl, fun a => .of_storeE8 (e := .mem (.direct a)) rfl,
    fun a => .of_storeE16 (e := .mem (.direct a)) rfl⟩, fun s e h => ?_⟩
  exact ⟨.of_storeE16 rfl h, .of_storeE16 rfl h, .of_storeE16 rfl h, .of_storeE16 rfl h⟩

/-! Real-mode loads -/

theorem State.loadData_real (x : SReg) (v : Word) (h : s.prot = false) :
    s.loadData x v = .ok (s.setSeg x ((s.seg x).real v)) := by
  simp [State.loadData, h, SegReg.realLoad_eq]

theorem State.loadSs_real (v : Word) (h : s.prot = false) : s.loadSs v = .ok (s.setSeg .ss (s.ss.real v)) := by
  simp [State.loadSs, h, SegReg.realLoad_eq]

/-- Settles O16. -/
theorem realModeSegmentLoads : Obligations.RealModeSegmentLoads := by
  intro s hp
  have hkeep {t : State} (hm : t.mem = s.mem) (hk : t.memMap = s.memMap) (hf : t.free = s.free) (hu : t.use = s.use) :
      ∀ a, a ∉ ([] : List PAddr) → t.readPhys a = s.readPhys a := fun a _ => State.readPhys_congr a hm hk hf hu
  refine ⟨fun e h => ⟨?_, ?_, ?_⟩, fun h => ⟨?_, ?_, ?_⟩, fun r m h => ⟨?_, ?_⟩⟩
  · exact .of_load (exec_movEsEw h) (State.loadData_real _ _ hp) rfl (hkeep rfl rfl rfl rfl)
  · exact .of_load (exec_movDsEw h) (State.loadData_real _ _ hp) rfl (hkeep rfl rfl rfl rfl)
  · exact .of_load (exec_movSsEw h) (State.loadSs_real _ hp) rfl (hkeep rfl rfl rfl rfl)
  · exact .of_load (exec_popEs h) (State.loadData_real _ _ hp) rfl (hkeep rfl rfl rfl rfl)
  · exact .of_load (exec_popDs h) (State.loadData_real _ _ hp) rfl (hkeep rfl rfl rfl rfl)
  · exact .of_load (exec_popSs h) (State.loadSs_real _ hp) rfl (hkeep rfl rfl rfl rfl)
  · exact .of_load (exec_ldsRwEd h) (State.loadData_real _ _ hp) rfl (hkeep rfl rfl rfl rfl)
  · exact .of_load (exec_lesRwEd h) (State.loadData_real _ _ hp) rfl (hkeep rfl rfl rfl rfl)

/-! Pushes and pops -/

/-- Settles O19. -/
theorem pushes : Obligations.Pushes := by
  intro s h pushed
  have hsign (b : Byte) : b.signExtend 16 = BitVec.ofInt 16 b.toInt := rfl
  refine ⟨fun r => .of_pushOp rfl h, .of_pushOp rfl h, .of_pushOp rfl h, .of_pushOp rfl h, .of_pushOp rfl h,
    fun e he => .of_pushOp ?_ h, fun i => .of_pushOp rfl h, fun i => .of_pushOp rfl h, .of_pushOp rfl h⟩
  show s.finish (s.readE16 e >>= fun v => s.pushOp v) = _
  rw [s.readE16_ok e he, run_bind_ok]

theorem State.popMem_ok {m : Mem} (h : s.canRead .ss s.regs.sp 2 = true) (hw : s.canWriteE16 (.mem m) = true) :
    s.popMem m = .ok ((s.writePhys16 (s.addr m) (s.readPhys16 (s.stackAddr 0))).setSp (s.regs.sp + 2)).advance := by
  simp only [State.popMem, State.readTop_ok h, run_bind_ok, s.writeE16_ok (.mem m) _ hw, run_pure]
  rfl

/-- POPF's flags in the words of the statements (R323, R500, D10). -/
theorem State.loadFlags_eq (s : State) (w : Word) :
    s.loadFlags w = { Flags.ofWord w with
      ie := if s.cpl.toNat ≤ s.flags.iopl.toNat then (Flags.ofWord w).ie else s.flags.ie
      iopl := if s.prot = true ∧ s.cpl = 0 then (Flags.ofWord w).iopl else s.flags.iopl
      nt := if s.prot = true then (Flags.ofWord w).nt else s.flags.nt } := by
  simp only [State.loadFlags, BitVec.le_def]

/-- Settles O20. -/
theorem popsIntoRegistersMemoryAndFlags : Obligations.PopsIntoRegistersMemoryAndFlags := by
  refine ⟨fun s h => ?words, fun s h => ?flags⟩
  case words =>
    intro v up
    have hreg (r : Reg16) : (s.pop >>= fun v => pure (v.2.set16 r v.1).advance) = .ok (up.set16 r v).advance := by
      rw [State.popTop_ok h]
      rfl
    refine ⟨fun r => .of_run_keep rfl (hreg r) rfl rfl rfl rfl, fun r => .of_run_keep rfl (hreg r) rfl rfl rfl rfl,
      fun m hw => .of_run rfl ((State.popMem_ok h hw).trans ?_) ?_⟩
    · simp [State.setSp, v]
    · exact frame_of (fun a ha => s.readPhys_writePhys16_ne _ a v ha) rfl rfl rfl rfl
  case flags =>
    intro f
    have hok : (s.pop >>= fun v => pure (v.2.setFlags (s.loadFlags v.1)).advance) =
        .ok ((s.setSp (s.regs.sp + 2)).setFlags (s.loadFlags (s.readPhys16 (s.stackAddr 0)))).advance := by
      rw [State.popTop_ok h]
      rfl
    rw [State.loadFlags_eq] at hok
    exact .of_run_keep rfl hok rfl rfl rfl rfl

/-! Exchanges and transfers -/

/-- The lock of an exchange, as the statements write it (R125, R311). -/
theorem State.lockE8_eq (s : State) (e : E8) : s.lockE8 e = match e with
    | .reg _ => s
    | .mem _ => s.underLock := by cases e <;> rfl

theorem State.lockE16_eq (s : State) (e : E16) : s.lockE16 e = match e with
    | .reg _ => s
    | .mem _ => s.underLock := by cases e <;> rfl

theorem State.canWriteE8_lockE8 (s : State) (e : E8) : (s.lockE8 e).canWriteE8 e = s.canWriteE8 e := by cases e <;> rfl

theorem State.canWriteE16_lockE16 (s : State) (e : E16) : (s.lockE16 e).canWriteE16 e = s.canWriteE16 e := by
  cases e <;> rfl

theorem exec_xchgEbRb_ok {e : E8} {r : Reg8} (h : s.canWriteE8 e = true) :
    exec (.xchgEbRb e r) s = .next (((s.lockE8 e).put8 e (s.get8 r)).set8 r (s.val8 e)).advance := by
  have hw : (s.lockE8 e).canWriteE8 e = true := (s.canWriteE8_lockE8 e).trans h
  show s.finish (s.readE8 e >>= fun v => leaving (s.set8 r (Config.freeByte s.free .xchgReg))
    ((s.lockE8 e).writeE8 e (s.get8 r)) >>= fun t => pure (t.set8 r v).advance) = _
  simp [s.readE8_ok e (s.canReadE8_of_canWrite e h), State.writeE8_ok _ e (s.get8 r) hw]

theorem exec_xchgEwRw_ok {e : E16} {r : Reg16} (h : s.canWriteE16 e = true) :
    exec (.xchgEwRw e r) s = .next (((s.lockE16 e).put16 e (s.get16 r)).set16 r (s.val16 e)).advance := by
  have hw : (s.lockE16 e).canWriteE16 e = true := (s.canWriteE16_lockE16 e).trans h
  show s.finish (s.readE16 e >>= fun v => leaving (s.set16 r (Config.freeWord s.free .xchgReg))
    ((s.lockE16 e).writeE16 e (s.get16 r)) >>= fun t => pure (t.set16 r v).advance) = _
  simp [s.readE16_ok e (s.canReadE16_of_canWrite e h), State.writeE16_ok _ e (s.get16 r) hw]

/-- The lock changes nothing of memory. -/
theorem State.readPhys_lockE8_put8 (s : State) (e : E8) (v : Byte) (a : PAddr) (h : a ∉ s.cells8 e) :
    ((s.lockE8 e).put8 e v).readPhys a = s.readPhys a := by
  cases e with
  | reg r => rfl
  | mem m => exact State.readPhys_put8 s.lockBus (.mem m) v a h

theorem State.readPhys_lockE16_put16 (s : State) (e : E16) (v : Word) (a : PAddr) (h : a ∉ s.cells16 e) :
    ((s.lockE16 e).put16 e v).readPhys a = s.readPhys a := by
  cases e with
  | reg r => rfl
  | mem m => exact State.readPhys_put16 s.lockBus (.mem m) v a h

/-- LAHF's byte, bit by bit (R324). -/
theorem State.lahfByte_bits (s : State) :
    s.lahfByte.getLsbD 7 = s.flags.sf ∧ s.lahfByte.getLsbD 6 = s.flags.zf ∧ s.lahfByte.getLsbD 4 = s.flags.af ∧
      s.lahfByte.getLsbD 2 = s.flags.pf ∧ s.lahfByte.getLsbD 0 = s.flags.cf := by
  have h (b7 b6 b5 b4 b3 b2 b1 b0 : Bool) :
      let v : Byte := bit b7 ++ bit b6 ++ bit b5 ++ bit b4 ++ bit b3 ++ bit b2 ++ bit b1 ++ bit b0
      v.getLsbD 7 = b7 ∧ v.getLsbD 6 = b6 ∧ v.getLsbD 4 = b4 ∧ v.getLsbD 2 = b2 ∧ v.getLsbD 0 = b0 := by
    revert b7 b6 b5 b4 b3 b2 b1 b0
    decide
  exact h ..

/-- Settles O22. -/
theorem exchangesAndTransfers : Obligations.ExchangesAndTransfers := by
  refine ⟨⟨fun r hr => ?_, rfl, rfl, fun r e => rfl, fun s r q => rfl⟩, fun s => ⟨fun e r h => ?byte, fun e r h => ?word,
    fun r => .of_keep rfl rfl rfl rfl rfl⟩, fun s => ⟨?lahf, .of_keep rfl rfl rfl rfl rfl, ?xlat, fun r m => ?lea⟩⟩
  · cases r with
    | ax => exact absurd rfl hr
    | _ => rfl
  case byte =>
    intro u
    have hu : s.lockE8 e = u := s.lockE8_eq e
    rw [← hu]
    exact ⟨exec_xchgEbRb_ok h, frame_of (s.readPhys_lockE8_put8 e _) rfl rfl rfl rfl⟩
  case word =>
    intro u
    have hu : s.lockE16 e = u := s.lockE16_eq e
    rw [← hu]
    exact ⟨exec_xchgEwRw_ok h, frame_of (s.readPhys_lockE16_put16 e _) rfl rfl rfl rfl⟩
  case lahf => exact ⟨s.lahfByte, .of_keep rfl rfl rfl rfl rfl, s.lahfByte_bits⟩
  case xlat =>
    intro x off h
    have hoff : s.regs.bx + (s.get8 .al).setWidth 16 = off := by simp [off]
    have hok : (s.readSeg8 x (s.regs.bx + (s.get8 .al).setWidth 16) >>= fun v => pure (s.set8 .al v).advance) =
        .ok (s.set8 .al (s.readPhys ((s.seg x).lin off))).advance := by
      rw [hoff, s.readSeg8_ok _ _ h]
      rfl
    exact .of_run_keep rfl hok rfl rfl rfl rfl
  case lea =>
    have hok : ((E16.mem m).memOnly >>= fun m => pure (s.set16 r (s.eaOff m)).advance) = .ok (s.set16 r (s.eaOff m)).advance :=
      rfl
    exact .of_run_keep rfl hok rfl rfl rfl rfl

end Sys2Proof.Machine
end

section
/-!
# Arithmetic and logic (O23, O24, O25, O26, O27)
-/

namespace Sys2Proof.Machine

variable {s t : State} {i : Instr}

/-! The operations that share the nine operand forms -/

/-- The forms that write their operand are one operation of the model, whichever it is (R352). -/
theorem AluOp.exec_ebRb (op : AluOp) (e : E8) (r : Reg8) : exec (op.ebRb e r) s = s.finish (s.aluE8 op e (s.get8 r)) := by
  cases op <;> rfl

theorem AluOp.exec_ebDb (op : AluOp) (e : E8) (v : Byte) : exec (op.ebDb e v) s = s.finish (s.aluE8 op e v) := by
  cases op <;> rfl

theorem AluOp.exec_alDb (op : AluOp) (v : Byte) : exec (op.alDb v) s = s.finish (s.aluE8 op (.reg .al) v) := by
  cases op <;> rfl

theorem AluOp.exec_rbEb (op : AluOp) (r : Reg8) (e : E8) : exec (op.rbEb r e) s = s.finish (s.aluR8 op r e) := by
  cases op <;> rfl

theorem AluOp.exec_ewRw (op : AluOp) (e : E16) (r : Reg16) :
    exec (op.ewRw e r) s = s.finish (s.aluE16 op e (s.get16 r)) := by
  cases op <;> rfl

theorem AluOp.exec_ewDw (op : AluOp) (e : E16) (v : Word) : exec (op.ewDw e v) s = s.finish (s.aluE16 op e v) := by
  cases op <;> rfl

theorem AluOp.exec_ewDb (op : AluOp) {mk : E16 → Byte → Instr} (h : op.ewDb = some mk) (e : E16) (v : Byte) :
    exec (mk e v) s = s.finish (s.aluE16 op e (BitVec.ofInt 16 v.toInt)) := by
  cases op <;> cases h <;> rfl

theorem AluOp.exec_axDw (op : AluOp) (v : Word) : exec (op.axDw v) s = s.finish (s.aluE16 op (.reg .ax) v) := by
  cases op <;> rfl

theorem AluOp.exec_rwEw (op : AluOp) (r : Reg16) (e : E16) : exec (op.rwEw r e) s = s.finish (s.aluR16 op r e) := by
  cases op <;> rfl

/-- An operation that writes its byte operand and the flags. -/
theorem Does.of_aluE8 {op : AluOp} {e : E8} {b : Byte} (hi : exec i s = s.finish (s.aluE8 op e b))
    (h : s.canWriteE8 e = true) :
    let x := op.effect s.flags s.free (s.val8 e) b
    Does i s { s.put8 e x.1 with flags := x.2 }.advance (s.cells8 e) :=
  ⟨hi.trans (s.aluE8_eq op e b h), frame_of (s.readPhys_put8 e _) rfl rfl rfl rfl⟩

/-- An operation that writes its word operand and the flags. -/
theorem Does.of_aluE16 {op : AluOp} {e : E16} {b : Word} (hi : exec i s = s.finish (s.aluE16 op e b))
    (h : s.canWriteE16 e = true) :
    let x := op.effect s.flags s.free (s.val16 e) b
    Does i s { s.put16 e x.1 with flags := x.2 }.advance (s.cells16 e) :=
  ⟨hi.trans (s.aluE16_eq op e b h), frame_of (s.readPhys_put16 e _) rfl rfl rfl rfl⟩

/-- Settles O23: each form of each operation is one of the model's four shared operations. -/
theorem twoOperandArithmetic : Obligations.TwoOperandArithmetic := by
  refine ⟨fun op s => ⟨fun e r => .of_aluE8 (op.exec_ebRb e r), fun e v => .of_aluE8 (op.exec_ebDb e v),
    fun v => .of_aluE8 (op.exec_alDb v) rfl, fun r e h => ?_⟩,
    fun op s => ⟨fun e r => .of_aluE16 (op.exec_ewRw e r), fun e v => .of_aluE16 (op.exec_ewDw e v),
    fun mk e v hmk => .of_aluE16 (op.exec_ewDb hmk e v), fun v => .of_aluE16 (op.exec_axDw v) rfl, fun r e h => ?_⟩⟩
  · exact .of_keep ((op.exec_rbEb r e).trans (s.aluR8_eq op e r h)) rfl rfl rfl rfl
  · exact .of_keep ((op.exec_rwEw r e).trans (s.aluR16_eq op e r h)) rfl rfl rfl rfl

/-! CMP and TEST -/

/-- An instruction that writes the flags and nothing else. -/
theorem Does.of_flags {r : Run State} {f : Flags} (hi : exec i s = s.finish r)
    (h : s.finish r = .next { s with flags := f }.advance) : Does i s { s with flags := f }.advance [] :=
  .of_keep (hi.trans h) rfl rfl rfl rfl

/-- Settles O24. -/
theorem comparesWriteFlagsOnly : Obligations.ComparesWriteFlagsOnly := by
  refine ⟨fun s => ⟨fun e h => ⟨fun r => ?_, fun r => ?_, fun v => ?_⟩, fun e h => ⟨fun r => ?_, fun r => ?_, fun v => ?_,
    fun v => ?_⟩, fun v => ?_, fun v => ?_⟩,
    fun s => ⟨fun e h => ⟨fun r => ?_, fun v => ?_⟩, fun e h => ⟨fun r => ?_, fun v => ?_⟩, fun v => ?_, fun v => ?_⟩⟩
  · exact .of_flags rfl (s.cmpE8_eq e _ h)
  · exact .of_flags rfl (s.cmpR8_eq e r h)
  · exact .of_flags rfl (s.cmpE8_eq e v h)
  · exact .of_flags rfl (s.cmpE16_eq e _ h)
  · exact .of_flags rfl (s.cmpR16_eq e r h)
  · exact .of_flags rfl (s.cmpE16_eq e v h)
  · exact .of_flags rfl (s.cmpE16_eq e _ h)
  · exact .of_flags rfl (s.cmpE8_eq (.reg .al) v rfl)
  · exact .of_flags rfl (s.cmpE16_eq (.reg .ax) v rfl)
  · exact .of_flags rfl (s.testE8_eq e _ h)
  · exact .of_flags rfl (s.testE8_eq e v h)
  · exact .of_flags rfl (s.testE16_eq e _ h)
  · exact .of_flags rfl (s.testE16_eq e v h)
  · exact .of_flags rfl (s.testE8_eq (.reg .al) v rfl)
  · exact .of_flags rfl (s.testE16_eq (.reg .ax) v rfl)

/-! INC, DEC, NEG and NOT -/

/-- An instruction that replaces its byte operand by `v` and the flags by `f`. -/
theorem Does.of_updateE8 {e : E8} {g : Byte → Byte} {fl : Byte → Flags} {v : Byte} {f : Flags}
    (hi : exec i s = s.finish (s.updateE8 e g fl)) (h : s.canWriteE8 e = true) (hv : g (s.val8 e) = v)
    (hf : fl (s.val8 e) = f) : Does i s { s.put8 e v with flags := f }.advance (s.cells8 e) := by
  subst hv hf
  exact ⟨hi.trans (s.updateE8_eq e g fl h), frame_of (s.readPhys_put8 e _) rfl rfl rfl rfl⟩

/-- An instruction that replaces its word operand by `v` and the flags by `f`. -/
theorem Does.of_updateE16 {e : E16} {g : Word → Word} {fl : Word → Flags} {v : Word} {f : Flags}
    (hi : exec i s = s.finish (s.updateE16 e g fl)) (h : s.canWriteE16 e = true) (hv : g (s.val16 e) = v)
    (hf : fl (s.val16 e) = f) : Does i s { s.put16 e v with flags := f }.advance (s.cells16 e) := by
  subst hv hf
  exact ⟨hi.trans (s.updateE16_eq e g fl h), frame_of (s.readPhys_put16 e _) rfl rfl rfl rfl⟩

/-- INC's flags: those of the sum with CF kept (R355). -/
theorem Flags.inc_eq {w : Nat} (hw : 0 < w) (f : Flags) (a : BitVec w) :
    f.inc a = { (f.sum a 1 false).2 with cf := f.cf } :=
  congrArg (fun g : Flags => { g with cf := f.cf }) (snd_of_pair (Flags.add_eq hw f a 1 false)).symm

/-- DEC's flags: those of the difference with CF kept (R358). -/
theorem Flags.dec_eq {w : Nat} (hw : 0 < w) (f : Flags) (a : BitVec w) :
    f.dec a = { (f.difference a 1 false).2 with cf := f.cf } :=
  congrArg (fun g : Flags => { g with cf := f.cf }) (snd_of_pair (Flags.sub_eq hw f a 1 false)).symm

/-- NOT, in the words of the statements (R404). -/
theorem Byte.not_eq (a : Byte) : a ^^^ 0xFF = ~~~a := by
  rw [← BitVec.xor_allOnes]
  rfl

theorem Word.not_eq (a : Word) : a ^^^ 0xFFFF = ~~~a := by
  rw [← BitVec.xor_allOnes]
  rfl

/-- Settles O25. -/
theorem unaryArithmetic : Obligations.UnaryArithmetic := by
  have h8 : 0 < 8 := by decide
  have h16 : 0 < 16 := by decide
  have hput8 (s : State) (e : E8) (v : Byte) : { s.put8 e v with flags := s.flags } = s.put8 e v :=
    congrArg (fun f => { s.put8 e v with flags := f }) (s.put8_flags e v).symm
  have hput16 (s : State) (e : E16) (v : Word) : { s.put16 e v with flags := s.flags } = s.put16 e v :=
    congrArg (fun f => { s.put16 e v with flags := f }) (s.put16_flags e v).symm
  intro s keep
  refine ⟨fun e h => ⟨?_, ?_, ?_, ?_⟩, fun e h => ⟨?_, ?_, ?_, ?_⟩, fun r => ⟨?_, ?_⟩⟩
  · exact .of_updateE8 rfl h (fst_of_pair (Flags.add_eq h8 s.flags _ 1 false)).symm (Flags.inc_eq h8 _ _)
  · exact .of_updateE8 rfl h (fst_of_pair (Flags.sub_eq h8 s.flags _ 1 false)).symm (Flags.dec_eq h8 _ _)
  · exact .of_updateE8 rfl h (fst_of_pair (Flags.sub_eq h8 s.flags 0 _ false)).symm
      (snd_of_pair (Flags.sub_eq h8 s.flags 0 _ false)).symm
  · exact hput8 s e _ ▸ .of_updateE8 rfl h (Byte.not_eq _) rfl
  · exact .of_updateE16 rfl h (fst_of_pair (Flags.add_eq h16 s.flags _ 1 false)).symm (Flags.inc_eq h16 _ _)
  · exact .of_updateE16 rfl h (fst_of_pair (Flags.sub_eq h16 s.flags _ 1 false)).symm (Flags.dec_eq h16 _ _)
  · exact .of_updateE16 rfl h (fst_of_pair (Flags.sub_eq h16 s.flags 0 _ false)).symm
      (snd_of_pair (Flags.sub_eq h16 s.flags 0 _ false)).symm
  · exact hput16 s e _ ▸ .of_updateE16 rfl h (Word.not_eq _) rfl
  · exact .of_updateE16 (e := .reg r) (g := fun a => addResult a 1 false) rfl rfl
      (fst_of_pair (Flags.add_eq h16 s.flags (s.get16 r) 1 false)).symm (Flags.inc_eq h16 _ _)
  · exact .of_updateE16 (e := .reg r) (g := fun a => subResult a 1 false) rfl rfl
      (fst_of_pair (Flags.sub_eq h16 s.flags (s.get16 r) 1 false)).symm (Flags.dec_eq h16 _ _)

/-! MUL and IMUL -/

/-- Two bytes as a number (R122). -/
theorem Word.ofBytes_toNat (lo hi : Byte) : (Word.ofBytes lo hi).toNat = 256 * hi.toNat + lo.toNat := by
  have := lo.isLt
  rw [Word.ofBytes, BitVec.toNat_append, ← Nat.shiftLeft_add_eq_or_of_lt (by omega), Nat.shiftLeft_eq]
  omega

/-- The upper half of a double word, exact value and remainder. -/
theorem high_ofNat (n : Nat) (h : n < 2 ^ 32) :
    (BitVec.ofNat 32 n).extractLsb' 16 16 = BitVec.ofNat 16 (n / 2 ^ 16) := by
  apply BitVec.eq_of_toNat_eq
  simp only [BitVec.extractLsb'_toNat, BitVec.toNat_ofNat, Nat.shiftRight_eq_div_pow]
  omega

theorem low_ofNat (n : Nat) : (BitVec.ofNat 32 n).extractLsb' 0 16 = BitVec.ofNat 16 n := by
  apply BitVec.eq_of_toNat_eq
  simp only [BitVec.extractLsb'_toNat, BitVec.toNat_ofNat, Nat.shiftRight_zero]
  omega

theorem high_ofInt (v : Int) : (BitVec.ofInt 32 v).extractLsb' 16 16 = BitVec.ofInt 16 (v / 2 ^ 16) := by
  apply BitVec.eq_of_toNat_eq
  simp only [BitVec.extractLsb'_toNat, BitVec.toNat_ofInt, Nat.shiftRight_eq_div_pow]
  omega

theorem low_ofInt (v : Int) : (BitVec.ofInt 32 v).extractLsb' 0 16 = BitVec.ofInt 16 v := by
  apply BitVec.eq_of_toNat_eq
  simp only [BitVec.extractLsb'_toNat, BitVec.toNat_ofInt, Nat.shiftRight_zero]
  omega

/-- The flags of a product that does not fit or does, whichever way that is decided (R361-R363). -/
theorem Flags.mul_eq (f : Flags) (n : Nat) {b : Bool} {big : Prop} [Decidable big] (h : b = true ↔ big) :
    f.mul n b = { f.free n with cf := decide big, of := decide big } := by
  have hb : b = decide big := by rw [Bool.eq_iff_iff, h, decide_eq_true_iff]
  rw [Flags.mul, hb]

/-- A byte product fits when its high byte is zero (R361). -/
theorem mul8_big {n : Nat} (h : n < 2 ^ 16) : (Word.hi (BitVec.ofNat 16 n) != 0) = true ↔ 2 ^ 8 ≤ n := by
  rw [bne_iff_ne, ne_eq, ← BitVec.toNat_inj, Word.hi_toNat]
  simp only [BitVec.ofNat_eq_ofNat, BitVec.toNat_ofNat]
  omega

/-- A word product fits when its high word is zero (R361). -/
theorem mul16_big {n : Nat} (h : n < 2 ^ 32) : (BitVec.ofNat 16 (n / 2 ^ 16) != 0) = true ↔ 2 ^ 16 ≤ n := by
  rw [bne_iff_ne, ne_eq, ← BitVec.toNat_inj]
  simp only [BitVec.ofNat_eq_ofNat, BitVec.toNat_ofNat]
  omega

/-- A signed byte product fits when it is its low byte with its sign (R362). -/
theorem imul8_big {v : Int} (hlo : -2 ^ 15 ≤ v) (hhi : v < 2 ^ 15) :
    (BitVec.ofInt 16 v != (Word.lo (BitVec.ofInt 16 v)).signExtend 16) = true ↔ v < -2 ^ 7 ∨ 2 ^ 7 ≤ v := by
  rw [bne_iff_ne, ne_eq, ← BitVec.toInt_inj, BitVec.toInt_signExtend_of_le (by decide)]
  have hlow : ((Word.lo (BitVec.ofInt 16 v)).toNat : Int) = v % 256 := by
    rw [Word.lo_toNat, BitVec.toNat_ofInt]
    omega
  have h16 : (BitVec.ofInt 16 v).toInt = v := by
    rw [BitVec.toInt_ofInt]
    exact Int.bmod_eq_of_le (by omega) (by omega)
  rw [h16, BitVec.toInt_eq_toNat_cond]
  split <;> omega

/-- A signed word product fits when its high word is its low word's sign (R362). -/
theorem imul16_big {v : Int} (hlo : -2 ^ 31 ≤ v) (hhi : v < 2 ^ 31) :
    (BitVec.ofInt 16 (v / 2 ^ 16) != if (BitVec.ofInt 16 v).msb then (0xFFFF : Word) else 0) = true ↔
      v < -2 ^ 15 ∨ 2 ^ 15 ≤ v := by
  have hlow : ((BitVec.ofInt 16 v).toNat : Int) = v % 2 ^ 16 := by
    rw [BitVec.toNat_ofInt]
    omega
  have hhigh : ((BitVec.ofInt 16 (v / 2 ^ 16)).toNat : Int) = v / 2 ^ 16 % 2 ^ 16 := by
    rw [BitVec.toNat_ofInt]
    omega
  have hmsb := msb_iff (BitVec.ofInt 16 v)
  rw [bne_iff_ne, ne_eq, ← BitVec.toNat_inj]
  cases h : (BitVec.ofInt 16 v).msb with
  | true =>
    rw [h] at hmsb
    simp only [if_true, BitVec.ofNat_eq_ofNat, BitVec.toNat_ofNat, true_iff] at hmsb ⊢
    omega
  | false =>
    rw [h] at hmsb
    simp only [Bool.false_eq_true, if_false, BitVec.ofNat_eq_ofNat, BitVec.toNat_ofNat, false_iff] at hmsb ⊢
    omega

/-- The range of a product of two signed numbers. -/
theorem mul_range {a b m : Int} (ha : -m ≤ a) (ha' : a ≤ m) (hb : -m ≤ b) (hb' : b ≤ m) :
    -(m * m) ≤ a * b ∧ a * b ≤ m * m := by
  have h : |a * b| ≤ m * m := by
    rw [abs_mul]
    exact mul_le_mul (abs_le.2 ⟨ha, ha'⟩) (abs_le.2 ⟨hb, hb'⟩) (abs_nonneg b) (by omega)
  exact abs_le.1 h

/-- Settles O26. -/
theorem multiplication : Obligations.Multiplication := by
  intro s fl
  refine ⟨fun e h => ⟨?mul8, ?imul8⟩, fun e h => ⟨?mul16, ?imul16, fun r v => ?immWord, fun r v => ?immByte⟩⟩
  case mul8 =>
    have hlt : (s.get8 .al).toNat * (s.val8 e).toNat < 2 ^ 16 :=
      (Nat.mul_lt_mul'' (s.get8 .al).isLt (s.val8 e).isLt).trans_eq (by decide)
    refine .of_run_keep (r := s.mul8 e) rfl ?_ rfl rfl rfl rfl
    simp only [State.mul8, s.readE8_ok e h, run_bind_ok, run_pure, Flags.mul_eq s.flags s.free (mul8_big hlt)]
    rfl
  case imul8 =>
    have hlt := mul_range (m := 2 ^ 7) (by have := (s.get8 .al).le_toInt; omega) (by have := (s.get8 .al).toInt_lt; omega)
      (by have := (s.val8 e).le_toInt; omega) (by have := (s.val8 e).toInt_lt; omega)
    refine .of_run_keep (r := s.imul8 e) rfl ?_ rfl rfl rfl rfl
    simp only [State.imul8, s.readE8_ok e h, run_bind_ok, run_pure,
      Flags.mul_eq s.flags s.free (imul8_big (v := (s.get8 .al).toInt * (s.val8 e).toInt) (by omega) (by omega))]
    rfl
  case mul16 =>
    have hlt : (s.get16 .ax).toNat * (s.val16 e).toNat < 2 ^ 32 :=
      (Nat.mul_lt_mul'' (s.get16 .ax).isLt (s.val16 e).isLt).trans_eq (by decide)
    refine .of_run_keep (r := s.mul16 e) rfl ?_ rfl rfl rfl rfl
    simp only [State.mul16, s.readE16_ok e h, run_bind_ok, run_pure, high_ofNat _ hlt, low_ofNat,
      Flags.mul_eq s.flags s.free (mul16_big hlt)]
    rfl
  case imul16 =>
    have hlt := mul_range (m := 2 ^ 15) (by have := (s.get16 .ax).le_toInt; omega)
      (by have := (s.get16 .ax).toInt_lt; omega) (by have := (s.val16 e).le_toInt; omega)
      (by have := (s.val16 e).toInt_lt; omega)
    refine .of_run_keep (r := s.imul16 e) rfl ?_ rfl rfl rfl rfl
    simp only [State.imul16, s.readE16_ok e h, run_bind_ok, run_pure, high_ofInt, low_ofInt,
      Flags.mul_eq s.flags s.free (imul16_big (v := (s.get16 .ax).toInt * (s.val16 e).toInt) (by omega) (by omega))]
    rfl
  all_goals
    have hbig (p : Int) : (!(decide (-32768 ≤ p) && decide (p ≤ 32767))) = true ↔ p < -2 ^ 15 ∨ 2 ^ 15 ≤ p := by
      simp only [Bool.not_eq_true', Bool.and_eq_false_iff, decide_eq_false_iff_not]
      omega
  case immWord =>
    refine .of_run_keep (r := s.imulImm r e v) rfl ?_ rfl rfl rfl rfl
    simp only [State.imulImm, s.readE16_ok e h, run_bind_ok, run_pure, Flags.mul_eq s.flags s.free (hbig _)]
    rfl
  case immByte =>
    have hsign : (v.signExtend 16).toInt = v.toInt := BitVec.toInt_signExtend_of_le (by decide)
    refine .of_run_keep (r := s.imulImm r e (v.signExtend 16)) rfl ?_ rfl rfl rfl rfl
    simp only [State.imulImm, s.readE16_ok e h, run_bind_ok, run_pure, Flags.mul_eq s.flags s.free (hbig _), hsign]
    rfl

/-! DIV and IDIV -/

/-- The quotient and remainder of a division are the only ones (R364). -/
theorem divMod_unique {n d q r : Nat} (hr : r < d) (h : n = q * d + r) : n / d = q ∧ n % d = r := by
  have hd : 0 < d := by omega
  subst h
  exact ⟨by rw [Nat.mul_comm, Nat.mul_add_div hd, Nat.div_eq_of_lt hr, Nat.add_zero],
    by rw [Nat.mul_comm, Nat.mul_add_mod, Nat.mod_eq_of_lt hr]⟩

/-- The quotient toward zero is the only one whose remainder has the dividend's sign (R365). -/
theorem tdiv_unique {n d q r : Int} (hr : r.natAbs < d.natAbs) (hsign : 0 ≤ r * n) (h : n = q * d + r) :
    n.tdiv d = q := by
  have hd : d ≠ 0 := by
    rintro rfl
    simp at hr
  have hzero (hn : n = 0) : r = 0 := by
    have hdvd : d ∣ r := ⟨-q, by linarith [mul_comm q d]⟩
    exact Int.eq_zero_of_dvd_of_natAbs_lt_natAbs hdvd hr
  rcases le_total 0 n with hn | hn
  case inl =>
    have hr0 : 0 ≤ r := by
      rcases hn.eq_or_lt with h0 | hpos
      · exact (hzero h0.symm).ge
      · exact nonneg_of_mul_nonneg_left hsign hpos
    exact ((Int.tdiv_tmod_unique hn hd).2 ⟨by linarith [mul_comm q d], hr0, by omega⟩).1
  case inr =>
    have hr0 : r ≤ 0 := by
      rcases hn.eq_or_lt with h0 | hneg
      · exact (hzero h0).le
      · exact nonpos_of_mul_nonneg_left hsign hneg
    have hpos := ((Int.tdiv_tmod_unique (a := -n) (b := d) (q := -q) (r := -r) (by omega) hd).2
      ⟨by linarith [mul_comm q d, mul_neg d q], by omega, by omega⟩).1
    rw [Int.neg_tdiv] at hpos
    omega

/-- The dividend DX:AX, unsigned and signed (R364, R365). -/
theorem State.dxAx_toNat (s : State) : s.dxAx.toNat = s.regs.dx.toNat * 2 ^ 16 + s.regs.ax.toNat := by
  have := s.regs.ax.isLt
  show (s.regs.dx ++ s.regs.ax).toNat = _
  rw [BitVec.toNat_append, ← Nat.shiftLeft_add_eq_or_of_lt this, Nat.shiftLeft_eq]

theorem State.dxAx_toInt (s : State) : s.dxAx.toInt = s.regs.dx.toInt * 2 ^ 16 + s.regs.ax.toNat := by
  have := s.regs.ax.isLt
  have := s.regs.dx.isLt
  rw [BitVec.toInt_eq_toNat_cond, BitVec.toInt_eq_toNat_cond, s.dxAx_toNat]
  split <;> split <;> push_cast <;> omega

theorem bne_zero_iff {w : Nat} (d : BitVec w) : (d != 0) = true ↔ d.toNat ≠ 0 := by
  rw [bne_iff_ne, ne_eq, ← BitVec.toNat_inj]
  simp

/-- A divide error as the exception it comes to (R364). -/
theorem State.finish_divideError (s : State) :
    s.finish (.error s.divideError) = State.exception { s with flags := s.flags.free s.free } 0 none := rfl

theorem State.div8_ok {e : E8} {q r : Nat} (h : s.canReadE8 e = true) (hq : q < 2 ^ 8) (hr : r < (s.val8 e).toNat)
    (hn : s.regs.ax.toNat = q * (s.val8 e).toNat + r) :
    s.div8 e = .ok ((s.setAx (BitVec.ofNat 16 (256 * r + q))).setFlags (s.flags.free s.free)).advance := by
  obtain ⟨hdiv, hmod⟩ := divMod_unique hr (show (s.get16 .ax).toNat = _ from hn)
  have hd : (s.val8 e != 0) = true := (bne_zero_iff _).2 (by omega)
  have hfit : decide (q ≤ 0xFF) = true := decide_eq_true (by omega)
  have hax : Word.ofBytes (BitVec.ofNat 8 q) (BitVec.ofNat 8 r) = BitVec.ofNat 16 (256 * r + q) := by
    have := (s.val8 e).isLt
    apply BitVec.eq_of_toNat_eq
    rw [Word.ofBytes_toNat]
    simp only [BitVec.toNat_ofNat]
    omega
  simp only [State.div8, s.readE8_ok e h, run_bind_ok, hd, hdiv, hmod, hfit, hax, check_true, run_pure]

theorem State.div16_ok {e : E16} {q r : Nat} (h : s.canReadE16 e = true) (hq : q < 2 ^ 16) (hr : r < (s.val16 e).toNat)
    (hn : s.regs.dx.toNat * 2 ^ 16 + s.regs.ax.toNat = q * (s.val16 e).toNat + r) :
    s.div16 e = .ok ((s.setDxAx (BitVec.ofNat 16 r) (BitVec.ofNat 16 q)).setFlags (s.flags.free s.free)).advance := by
  obtain ⟨hdiv, hmod⟩ := divMod_unique hr (s.dxAx_toNat.trans hn)
  have hd : (s.val16 e != 0) = true := (bne_zero_iff _).2 (by omega)
  have hfit : decide (q ≤ 0xFFFF) = true := decide_eq_true (by omega)
  simp only [State.div16, s.readE16_ok e h, run_bind_ok, hd, hdiv, hmod, hfit, check_true, run_pure]

theorem State.idiv8_ok {e : E8} {q r : Int} (h : s.canReadE8 e = true) (hlo : -2 ^ 7 ≤ q) (hhi : q < 2 ^ 7)
    (hr : r.natAbs < (s.val8 e).toInt.natAbs) (hsign : 0 ≤ r * s.regs.ax.toInt)
    (hn : s.regs.ax.toInt = q * (s.val8 e).toInt + r) :
    s.idiv8 e = .ok ((s.setAx (BitVec.ofInt 8 r ++ BitVec.ofInt 8 q)).setFlags (s.flags.free s.free)).advance := by
  have hdiv : (s.get16 .ax).toInt.tdiv (s.val8 e).toInt = q := tdiv_unique hr hsign hn
  have hrem : (s.get16 .ax).toInt - q * (s.val8 e).toInt = r := by
    have : (s.get16 .ax).toInt = _ := hn
    omega
  have hd : (s.val8 e != 0) = true := by
    rw [bne_iff_ne]
    intro h0
    simp [h0] at hr
  have hfit : (decide (-128 ≤ q) && decide (q ≤ 127)) = true := by
    simp only [Bool.and_eq_true, decide_eq_true_eq]
    omega
  simp only [State.idiv8, s.readE8_ok e h, run_bind_ok, hd, hdiv, hrem, hfit, check_true, run_pure]
  rfl

theorem State.idiv16_ok {e : E16} {q r : Int} (h : s.canReadE16 e = true) (hlo : -2 ^ 15 ≤ q) (hhi : q < 2 ^ 15)
    (hr : r.natAbs < (s.val16 e).toInt.natAbs) (hsign : 0 ≤ r * (s.regs.dx.toInt * 2 ^ 16 + s.regs.ax.toNat))
    (hn : s.regs.dx.toInt * 2 ^ 16 + s.regs.ax.toNat = q * (s.val16 e).toInt + r) :
    s.idiv16 e = .ok ((s.setDxAx (BitVec.ofInt 16 r) (BitVec.ofInt 16 q)).setFlags (s.flags.free s.free)).advance := by
  rw [← s.dxAx_toInt] at hsign hn
  have hdiv := tdiv_unique hr hsign hn
  have hrem : s.dxAx.toInt - q * (s.val16 e).toInt = r := by omega
  have hd : (s.val16 e != 0) = true := by
    rw [bne_iff_ne]
    intro h0
    simp [h0] at hr
  have hfit : (decide (-32768 ≤ q) && decide (q ≤ 32767)) = true := by
    simp only [Bool.and_eq_true, decide_eq_true_eq]
    omega
  simp only [State.idiv16, s.readE16_ok e h, run_bind_ok, hd, hdiv, hrem, hfit, check_true, run_pure]

/-- A quotient above its range (R364). -/
theorem quotient_big {n d m : Nat} (hd : d ≠ 0) (h : (m + 1) * d ≤ n) : decide (n / d ≤ m) = false := by
  have := (Nat.le_div_iff_mul_le (Nat.pos_of_ne_zero hd)).2 h
  exact decide_eq_false (by omega)

/-- Settles O27. -/
theorem division : Obligations.Division := by
  refine ⟨fun s => ⟨fun e q r h hq hr hn => ?_, fun e q r h hq hr hn => ?_, fun e q r h hlo hhi hr hs hn => ?_, ?_⟩,
    fun s => ⟨fun e h => ⟨fun hbad => ?div8, fun hbad => ?idiv8⟩, ?words⟩⟩
  · exact .of_run_keep rfl (State.div8_ok h hq hr hn) rfl rfl rfl rfl
  · exact .of_run_keep rfl (State.div16_ok h hq hr hn) rfl rfl rfl rfl
  · exact .of_run_keep rfl (State.idiv8_ok h hlo hhi hr hs hn) rfl rfl rfl rfl
  · intro e q r h hlo hhi hr n hs hn
    exact .of_run_keep rfl (State.idiv16_ok h hlo hhi hr hs hn) rfl rfl rfl rfl
  case div8 =>
    have hok : s.div8 e = .error s.divideError := by
      simp only [State.div8, s.readE8_ok e h, run_bind_ok]
      cases hd : s.val8 e != 0 with
      | false => rfl
      | true =>
        have hd0 := (bne_zero_iff _).1 hd
        have hbig : decide ((s.get16 .ax).toNat / (s.val8 e).toNat ≤ 0xFF) = false :=
          quotient_big hd0 (hbad.resolve_left hd0)
        simp only [hbig, check_true, check_false, run_bind_ok, run_bind_error]
    rw [← s.finish_divideError, ← hok]
    rfl
  case idiv8 =>
    have hok : s.idiv8 e = .error s.divideError := by
      simp only [State.idiv8, s.readE8_ok e h, run_bind_ok]
      cases hd : s.val8 e != 0 with
      | false => rfl
      | true =>
        have hq := hbad.resolve_left ((bne_zero_iff _).1 hd)
        have hbig : (decide (-128 ≤ (s.get16 .ax).toInt.tdiv (s.val8 e).toInt) &&
            decide ((s.get16 .ax).toInt.tdiv (s.val8 e).toInt ≤ 127)) = false := by
          rw [Bool.eq_false_iff]
          intro hin
          simp only [Bool.and_eq_true, decide_eq_true_eq] at hin
          exact hq _ hin.1 (by omega) rfl
        simp only [hbig, check_true, check_false, run_bind_ok, run_bind_error]
    rw [← s.finish_divideError, ← hok]
    rfl
  case words =>
    intro e h n m
    refine ⟨fun hbad => ?div16, fun hbad => ?idiv16⟩
    case div16 =>
      have hok : s.div16 e = .error s.divideError := by
        simp only [State.div16, s.readE16_ok e h, run_bind_ok]
        cases hd : s.val16 e != 0 with
        | false => rfl
        | true =>
          have hd0 := (bne_zero_iff _).1 hd
          have hbig : decide (s.dxAx.toNat / (s.val16 e).toNat ≤ 0xFFFF) = false :=
            quotient_big hd0 ((hbad.resolve_left hd0).trans_eq s.dxAx_toNat.symm)
          simp only [hbig, check_true, check_false, run_bind_ok, run_bind_error]
      rw [← s.finish_divideError, ← hok]
      rfl
    case idiv16 =>
      have hok : s.idiv16 e = .error s.divideError := by
        simp only [State.idiv16, s.readE16_ok e h, run_bind_ok]
        cases hd : s.val16 e != 0 with
        | false => rfl
        | true =>
          have hq := hbad.resolve_left ((bne_zero_iff _).1 hd)
          have hbig : (decide (-32768 ≤ s.dxAx.toInt.tdiv (s.val16 e).toInt) &&
              decide (s.dxAx.toInt.tdiv (s.val16 e).toInt ≤ 32767)) = false := by
            rw [Bool.eq_false_iff]
            intro hin
            simp only [Bool.and_eq_true, decide_eq_true_eq] at hin
            exact hq _ hin.1 (by omega) (by rw [s.dxAx_toInt])
          simp only [hbig, check_true, check_false, run_bind_ok, run_bind_error]
      rw [← s.finish_divideError, ← hok]
      rfl

end Sys2Proof.Machine
end

section
/-!
# Shifts and rotates (O29)

A step of a rotate is a rotation by one, of the operand, or of the operand with the carry above it; rotations compose
(`rotateLeft_rotateLeft_one`), so that the steps of the model are the closed forms of the statement.
-/

namespace Sys2Proof.Machine

/-! Rotations, bit by bit -/

theorem mod_add_eq {w i k : Nat} (hi : i < w) :
    (i + k) % w = if i + k % w < w then i + k % w else i + k % w - w := by
  have hk : k % w < w := Nat.mod_lt _ (by omega)
  rw [← Nat.add_mod_mod]
  split
  · exact Nat.mod_eq_of_lt ‹_›
  · rw [Nat.mod_eq_sub_mod (by omega)]
    exact Nat.mod_eq_of_lt (by omega)

theorem getLsbD_rotateRight_mod {w k i : Nat} (x : BitVec w) (hi : i < w) :
    (x.rotateRight k).getLsbD i = x.getLsbD ((i + k) % w) := by
  have hk : k % w < w := Nat.mod_lt _ (by omega)
  rw [BitVec.getLsbD_rotateRight, Bool.cond_decide, mod_add_eq hi]
  by_cases h : i < w - k % w
  · rw [if_pos h, if_pos (by omega), Nat.add_comm]
  · rw [if_neg h, if_neg (by omega), decide_eq_true hi, Bool.true_and]
    congr 1
    omega

theorem getLsbD_rotateLeft_mod {w k i : Nat} (x : BitVec w) (hi : i < w) :
    (x.rotateLeft k).getLsbD ((i + k) % w) = x.getLsbD i := by
  have hk : k % w < w := Nat.mod_lt _ (by omega)
  rw [BitVec.getLsbD_rotateLeft, Bool.cond_decide, mod_add_eq hi]
  by_cases h : i + k % w < w
  · rw [if_pos h, if_neg (by omega), decide_eq_true h, Bool.true_and]
    congr 1
    omega
  · rw [if_neg h, if_pos (by omega)]
    congr 1
    omega

/-- Every bit position is one that a rotation fills. -/
theorem exists_mod_add {w n : Nat} (k : Nat) (hn : n < w) : ∃ i < w, (i + k) % w = n := by
  have hk : k % w < w := Nat.mod_lt _ (by omega)
  by_cases h : k % w ≤ n
  · exact ⟨n - k % w, by omega, by rw [mod_add_eq (by omega), if_pos (by omega)]; omega⟩
  · exact ⟨n + w - k % w, by omega, by rw [mod_add_eq (by omega), if_neg (by omega)]; omega⟩

theorem rotateLeft_rotateLeft_one {w : Nat} (x : BitVec w) (k : Nat) :
    (x.rotateLeft 1).rotateLeft k = x.rotateLeft (k + 1) := by
  apply BitVec.eq_of_getLsbD_eq
  intro n hn
  obtain ⟨i, hi, rfl⟩ := exists_mod_add (k + 1) hn
  have h1 : (i + 1) % w < w := Nat.mod_lt _ (by omega)
  rw [getLsbD_rotateLeft_mod x hi, show (i + (k + 1)) % w = ((i + 1) % w + k) % w by
    rw [Nat.mod_add_mod]; congr 1; omega, getLsbD_rotateLeft_mod _ h1, getLsbD_rotateLeft_mod x hi]

theorem rotateRight_rotateRight_one {w : Nat} (x : BitVec w) (k : Nat) :
    (x.rotateRight 1).rotateRight k = x.rotateRight (k + 1) := by
  apply BitVec.eq_of_getLsbD_eq
  intro i hi
  have h1 : (i + k) % w < w := Nat.mod_lt _ (by omega)
  rw [getLsbD_rotateRight_mod _ hi, getLsbD_rotateRight_mod _ h1, getLsbD_rotateRight_mod _ hi, Nat.mod_add_mod]
  rfl

/-! One step, bit by bit -/

variable {w : Nat}

theorem getLsbD_lowBit (b : Bool) (i : Nat) (hi : i < w) :
    (BitVec.ofNat w b.toNat).getLsbD i = (decide (i = 0) && b) := by
  cases b with
  | false => simp
  | true =>
    have h : BitVec.ofNat w true.toNat = BitVec.twoPow w 0 := by
      apply BitVec.eq_of_toNat_eq
      simp [BitVec.toNat_twoPow]
    rw [h, BitVec.getLsbD_twoPow]
    by_cases h0 : i = 0
    · subst h0
      simp [hi]
    · simp [h0, Ne.symm h0]

theorem getLsbD_highBit (b : Bool) (i : Nat) (hi : i < w) :
    (BitVec.ofNat w (b.toNat * 2 ^ (w - 1))).getLsbD i = (decide (i = w - 1) && b) := by
  cases b with
  | false => simp
  | true =>
    have h : BitVec.ofNat w (true.toNat * 2 ^ (w - 1)) = BitVec.twoPow w (w - 1) := by
      apply BitVec.eq_of_toNat_eq
      rw [BitVec.toNat_ofNat, BitVec.toNat_twoPow, Bool.toNat_true, Nat.one_mul]
    rw [h, BitVec.getLsbD_twoPow]
    by_cases h0 : i = w - 1
    · subst h0
      simp [hi]
    · simp [h0, Ne.symm h0]

/-- The bits of an operand moved up by one, with `b` put in below. -/
theorem getLsbD_upStep (x : BitVec w) (b : Bool) (i : Nat) (hi : i < w) :
    ((x <<< 1) ||| BitVec.ofNat w b.toNat).getLsbD i = if i = 0 then b else x.getLsbD (i - 1) := by
  rw [BitVec.getLsbD_or, getLsbD_lowBit b i hi, BitVec.getLsbD_shiftLeft]
  by_cases h0 : i = 0
  · simp [h0]
  · simp [h0, hi]

/-- The bits of an operand moved down by one, with `b` put in above. -/
theorem getLsbD_downStep (x : BitVec w) (b : Bool) (i : Nat) (hi : i < w) :
    ((x >>> 1) ||| BitVec.ofNat w (b.toNat * 2 ^ (w - 1))).getLsbD i =
      if i = w - 1 then b else x.getLsbD (i + 1) := by
  rw [BitVec.getLsbD_or, getLsbD_highBit b i hi, BitVec.getLsbD_ushiftRight, Nat.add_comm 1]
  by_cases h0 : i = w - 1
  · simp [h0, BitVec.getLsbD_of_ge x (w - 1 + 1) (by omega)]
  · simp [h0]

theorem rol_step (x : BitVec w) : ((x <<< 1) ||| BitVec.ofNat w x.msb.toNat) = x.rotateLeft 1 := by
  apply BitVec.eq_of_getLsbD_eq
  intro n hn
  rw [getLsbD_upStep x _ n hn]
  split
  case isTrue h0 =>
    have hmod : (w - 1 + 1) % w = n := by rw [Nat.sub_add_cancel (by omega), Nat.mod_self, h0]
    rw [← hmod, getLsbD_rotateLeft_mod x (by omega), BitVec.msb_eq_getLsbD_last]
  case isFalse h0 =>
    have hmod : (n - 1 + 1) % w = n := by rw [Nat.sub_add_cancel (by omega), Nat.mod_eq_of_lt hn]
    conv => rhs; rw [← hmod]
    rw [getLsbD_rotateLeft_mod x (by omega)]

theorem ror_step (x : BitVec w) :
    ((x >>> 1) ||| BitVec.ofNat w ((x.getLsbD 0).toNat * 2 ^ (w - 1))) = x.rotateRight 1 := by
  apply BitVec.eq_of_getLsbD_eq
  intro n hn
  rw [getLsbD_downStep x _ n hn, getLsbD_rotateRight_mod x hn]
  split
  case isTrue h => rw [h, Nat.sub_add_cancel (by omega), Nat.mod_self]
  case isFalse h => rw [Nat.mod_eq_of_lt (by omega)]

theorem rcl_step (hw : 0 < w) (x : BitVec w) (c : Bool) :
    BitVec.cons x.msb ((x <<< 1) ||| BitVec.ofNat w c.toNat) = (BitVec.cons c x).rotateLeft 1 := by
  apply BitVec.eq_of_getLsbD_eq
  intro n hn
  by_cases h0 : n = 0
  · have hmod : (w + 1) % (w + 1) = n := by rw [Nat.mod_self, h0]
    conv => rhs; rw [← hmod]
    rw [getLsbD_rotateLeft_mod _ (by omega : w < w + 1), BitVec.getLsbD_cons, BitVec.getLsbD_cons, if_neg (by omega),
      if_pos rfl, getLsbD_upStep x c n (by omega), if_pos h0]
  · have hmod : (n - 1 + 1) % (w + 1) = n := by rw [Nat.sub_add_cancel (by omega), Nat.mod_eq_of_lt hn]
    conv => rhs; rw [← hmod]
    rw [getLsbD_rotateLeft_mod _ (by omega : n - 1 < w + 1), BitVec.getLsbD_cons, BitVec.getLsbD_cons,
      if_neg (by omega : ¬n - 1 = w)]
    split
    case isTrue h => rw [BitVec.msb_eq_getLsbD_last, h]
    case isFalse h => rw [getLsbD_upStep x c n (by omega), if_neg h0]

theorem rcr_step (hw : 0 < w) (x : BitVec w) (c : Bool) :
    BitVec.cons (x.getLsbD 0) ((x >>> 1) ||| BitVec.ofNat w (c.toNat * 2 ^ (w - 1))) =
      (BitVec.cons c x).rotateRight 1 := by
  apply BitVec.eq_of_getLsbD_eq
  intro n hn
  rw [getLsbD_rotateRight_mod _ hn, BitVec.getLsbD_cons, BitVec.getLsbD_cons]
  by_cases h : n = w
  · subst h
    rw [Nat.mod_self, if_pos rfl, if_neg (by omega)]
  · rw [if_neg h, Nat.mod_eq_of_lt (by omega), getLsbD_downStep x c n (by omega)]
    by_cases h1 : n = w - 1
    · rw [if_pos h1, if_pos (by omega)]
    · rw [if_neg h1, if_neg (by omega)]

/-- The arithmetic shift by one halves the signed value, rounding down (R422). -/
theorem sar_step (hw : 0 < w) (x : BitVec w) :
    ((x >>> 1) ||| BitVec.ofNat w (x.msb.toNat * 2 ^ (w - 1))) = x.sshiftRight 1 := by
  apply BitVec.eq_of_getLsbD_eq
  intro n hn
  rw [getLsbD_downStep x _ n hn, BitVec.getLsbD_sshiftRight, Nat.add_comm 1]
  by_cases h : n = w - 1
  · rw [if_pos h, if_neg (by omega)]
    simp [hn]
  · rw [if_neg h, if_pos (by omega)]
    simp [hn]

/-! Carries -/

theorem msb_cons_setWidth (y : BitVec (w + 1)) : BitVec.cons y.msb (y.setWidth w) = y := BitVec.cons_msb_setWidth y

theorem setWidth_cons (c : Bool) (x : BitVec w) : (BitVec.cons c x).setWidth w = x := BitVec.setWidth_cons

theorem msb_toNat_div (x : BitVec w) : decide (x.toNat * 2 / 2 ^ w % 2 = 1) = x.msb := by
  have hlt := x.isLt
  have hpos : 0 < 2 ^ w := Nat.two_pow_pos w
  have hmsb := msb_iff x
  rw [Bool.eq_iff_iff, hmsb, decide_eq_true_iff]
  have hle : x.toNat * 2 / 2 ^ w < 2 := Nat.div_lt_of_lt_mul (by omega)
  have hone : 1 ≤ x.toNat * 2 / 2 ^ w ↔ 1 * 2 ^ w ≤ x.toNat * 2 := Nat.le_div_iff_mul_le hpos
  generalize x.toNat * 2 / 2 ^ w = q at hle hone ⊢
  omega

theorem lsb_toNat (x : BitVec w) : decide (x.toNat % 2 = 1) = x.getLsbD 0 := by
  rw [BitVec.getLsbD, Nat.testBit_zero]

/-- The signed value has the parity of the bits (R422). -/
theorem lsb_toInt (hw : 0 < w) (x : BitVec w) : decide (x.toInt % 2 = 1) = x.getLsbD 0 := by
  obtain ⟨m, rfl⟩ : ∃ m, w = m + 1 := ⟨w - 1, by omega⟩
  have hp : (2 : Int) ^ (m + 1) = 2 * 2 ^ m := by rw [pow_succ, mul_comm]
  rw [← lsb_toNat, toInt_msb x, hp]
  apply decide_eq_decide.2
  generalize (2 : Int) ^ m = p
  split <;> omega

theorem sshiftRight_eq (x : BitVec w) (k : Nat) : x.sshiftRight k = BitVec.ofInt w (x.toInt / 2 ^ k) := by
  rw [BitVec.sshiftRight, Int.shiftRight_eq_div_pow]
  norm_cast

theorem rotateLeft_one_lsb (hw : 0 < w) (x : BitVec w) : (x.rotateLeft 1).getLsbD 0 = x.msb := by
  rw [← rol_step, getLsbD_upStep x _ 0 hw, if_pos rfl]

theorem rotateRight_one_msb (hw : 0 < w) (x : BitVec w) : (x.rotateRight 1).msb = x.getLsbD 0 := by
  rw [BitVec.msb_eq_getLsbD_last, ← ror_step, getLsbD_downStep x _ _ (by omega), if_pos rfl]

/-- One step is the closed form with count 1 (R413, R420-R433). -/
theorem shiftStep_eq_closed (hw : 0 < w) (op : ShiftOp) (x : BitVec w) (c : Bool) :
    shiftStep op x c = op.closed x c 1 := by
  cases op with
  | shl =>
    refine Prod.ext ?_ (by simpa [shiftStep, ShiftOp.closed] using (msb_toNat_div x).symm)
    apply BitVec.eq_of_toNat_eq
    simp [shiftStep, ShiftOp.closed, Nat.shiftLeft_eq]
  | shr =>
    refine Prod.ext ?_ (by simpa [shiftStep, ShiftOp.closed] using (lsb_toNat x).symm)
    apply BitVec.eq_of_toNat_eq
    have : x.toNat / 2 < 2 ^ w := by have := x.isLt; omega
    simp [shiftStep, ShiftOp.closed, Nat.shiftRight_eq_div_pow, Nat.mod_eq_of_lt this]
  | sar =>
    exact Prod.ext ((sar_step hw x).trans (sshiftRight_eq x 1))
      (by simpa [shiftStep, ShiftOp.closed] using (lsb_toInt hw x).symm)
  | rol => exact Prod.ext (rol_step x) (rotateLeft_one_lsb hw x).symm
  | ror => exact Prod.ext (ror_step x) (rotateRight_one_msb hw x).symm
  | rcl =>
    simp only [shiftStep, ShiftOp.closed, ← rcl_step hw x c, BitVec.setWidth_cons, BitVec.msb_cons]
  | rcr =>
    simp only [shiftStep, ShiftOp.closed, ← rcr_step hw x c, BitVec.setWidth_cons, BitVec.msb_cons]

theorem shl_closed_step (x : BitVec w) (c : Bool) (j : Nat) :
    ShiftOp.shl.closed (ShiftOp.shl.closed x c 1).1 (ShiftOp.shl.closed x c 1).2 (j + 1) =
      ShiftOp.shl.closed x c (j + 1 + 1) := by
  have hpos : 0 < 2 ^ w := Nat.two_pow_pos w
  have hsplit : x.toNat * 2 ^ (j + 1 + 1) =
      x.toNat * 2 % 2 ^ w * 2 ^ (j + 1) + 2 ^ w * (2 * (x.toNat * 2 / 2 ^ w * 2 ^ j)) := by
    have := Nat.mod_add_div (x.toNat * 2) (2 ^ w)
    calc x.toNat * 2 ^ (j + 1 + 1)
      _ = x.toNat * 2 * 2 ^ (j + 1) := by ring
      _ = (x.toNat * 2 % 2 ^ w + 2 ^ w * (x.toNat * 2 / 2 ^ w)) * 2 ^ (j + 1) := by rw [this]
      _ = _ := by ring
  simp only [ShiftOp.closed, BitVec.toNat_ofNat, pow_one, hsplit, Nat.add_mul_div_left _ _ hpos, Nat.add_mul_mod_self_left]
  congr 1
  apply BitVec.eq_of_toNat_eq
  simp only [BitVec.toNat_ofNat, Nat.add_mul_mod_self_left]

theorem shr_closed_step (x : BitVec w) (c : Bool) (j : Nat) :
    ShiftOp.shr.closed (ShiftOp.shr.closed x c 1).1 (ShiftOp.shr.closed x c 1).2 (j + 1) =
      ShiftOp.shr.closed x c (j + 1 + 1) := by
  have hlt : x.toNat / 2 < 2 ^ w := by
    have := x.isLt
    omega
  simp only [ShiftOp.closed, BitVec.toNat_ofNat, pow_one, Nat.mod_eq_of_lt hlt, Nat.div_div_eq_div_mul, ← Nat.pow_succ',
    Nat.add_sub_cancel]

theorem sar_closed_step (x : BitVec w) (c : Bool) (j : Nat) :
    ShiftOp.sar.closed (ShiftOp.sar.closed x c 1).1 (ShiftOp.sar.closed x c 1).2 (j + 1) =
      ShiftOp.sar.closed x c (j + 1 + 1) := by
  have hhalf : (BitVec.ofInt w (x.toInt / 2 ^ 1)).toInt = x.toInt / 2 ^ 1 := by
    rw [← sshiftRight_eq, BitVec.toInt_sshiftRight, Int.shiftRight_eq_div_pow]
    norm_cast
  have hdiv (n : Nat) : x.toInt / 2 ^ 1 / 2 ^ n = x.toInt / 2 ^ (n + 1) := by
    rw [Int.ediv_ediv_of_nonneg (by decide), ← pow_add, Nat.add_comm]
  simp only [ShiftOp.closed, hhalf, hdiv, Nat.add_sub_cancel]

/-- A closed form with one step put before it (R413, R420-R433). -/
theorem closed_step (hw : 0 < w) (op : ShiftOp) (x : BitVec w) (c : Bool) (k : Nat) (hk : 1 ≤ k) :
    op.closed (shiftStep op x c).1 (shiftStep op x c).2 k = op.closed x c (k + 1) := by
  rw [shiftStep_eq_closed hw]
  obtain ⟨j, rfl⟩ : ∃ j, k = j + 1 := ⟨k - 1, by omega⟩
  cases op with
  | shl => exact shl_closed_step x c j
  | shr => exact shr_closed_step x c j
  | sar => exact sar_closed_step x c j
  | rol => simp only [ShiftOp.closed, rotateLeft_rotateLeft_one]
  | ror => simp only [ShiftOp.closed, rotateRight_rotateRight_one]
  | rcl => simp only [ShiftOp.closed, msb_cons_setWidth, rotateLeft_rotateLeft_one]
  | rcr => simp only [ShiftOp.closed, msb_cons_setWidth, rotateRight_rotateRight_one]

/-- THE CLOSED FORMS are what the steps come to (R413, R420-R433). -/
theorem shiftSteps_eq_closed (hw : 0 < w) (op : ShiftOp) (k : Nat) (hk : 1 ≤ k) (x : BitVec w) (c : Bool) :
    shiftSteps op k x c = op.closed x c k := by
  induction k, hk using Nat.le_induction generalizing x c with
  | base => exact shiftStep_eq_closed hw op x c
  | succ k hk ih => exact (ih _ _).trans (closed_step hw op x c k hk)

/-- A count of zero leaves the operand (R412). -/
theorem closed_zero (op : ShiftOp) (x : BitVec w) (c : Bool) : (op.closed x c 0).1 = x := by
  have hleft {n : Nat} (y : BitVec n) : y.rotateLeft 0 = y := by
    apply BitVec.eq_of_getLsbD_eq
    intro i hi
    have := getLsbD_rotateLeft_mod (k := 0) y hi
    rwa [Nat.add_zero, Nat.mod_eq_of_lt hi] at this
  have hright {n : Nat} (y : BitVec n) : y.rotateRight 0 = y := by
    apply BitVec.eq_of_getLsbD_eq
    intro i hi
    rw [getLsbD_rotateRight_mod y hi, Nat.add_zero, Nat.mod_eq_of_lt hi]
  cases op with
  | shl => simp [ShiftOp.closed]
  | shr => simp [ShiftOp.closed]
  | sar => simp [ShiftOp.closed]
  | rol => exact hleft x
  | ror => exact hright x
  | rcl => simp only [ShiftOp.closed, hleft, BitVec.setWidth_cons]
  | rcr => simp only [ShiftOp.closed, hright, BitVec.setWidth_cons]

theorem shiftSteps_result (hw : 0 < w) (op : ShiftOp) (k : Nat) (x : BitVec w) (c : Bool) :
    (shiftSteps op k x c).1 = (op.closed x c k).1 := by
  cases k with
  | zero => exact (closed_zero op x c).symm
  | succ k => rw [shiftSteps_eq_closed hw op (k + 1) (by omega)]

/-- OF after a count of one says whether the sign has changed (R414). -/
theorem shiftOf_eq (hw : 1 < w) (op : ShiftOp) (x : BitVec w) (c : Bool) :
    shiftOf op x (shiftStep op x c).1 (shiftStep op x c).2 = ((shiftStep op x c).1.msb != x.msb) := by
  have hbelow (b : Bool) : ((x >>> 1) ||| BitVec.ofNat w (b.toNat * 2 ^ (w - 1))).getLsbD (w - 2) = x.msb := by
    rw [getLsbD_downStep x b _ (by omega), if_neg (by omega), BitVec.msb_eq_getLsbD_last]
    congr 1
    omega
  cases op with
  | shl => exact Bool.xor_comm _ _
  | rol => exact Bool.xor_comm _ _
  | rcl => exact Bool.xor_comm _ _
  | ror =>
    simp only [shiftOf, shiftStep, hbelow]
  | rcr =>
    simp only [shiftOf, shiftStep, hbelow]
  | shr =>
    have hmsb : (x >>> 1).msb = false := by
      rw [BitVec.msb_eq_getLsbD_last, BitVec.getLsbD_ushiftRight]
      exact BitVec.getLsbD_of_ge _ _ (by omega)
    simp only [shiftOf, shiftStep, hmsb, Bool.false_bne]
  | sar =>
    have hmsb : ((x >>> 1) ||| BitVec.ofNat w (x.msb.toNat * 2 ^ (w - 1))).msb = x.msb := by
      rw [BitVec.msb_eq_getLsbD_last, getLsbD_downStep x _ _ (by omega), if_pos rfl]
    simp only [shiftOf, shiftStep, hmsb, bne_self_eq_false]

/-- THE FLAGS of a shift or rotate, in the words of the statements (R412, R414, R415). -/
theorem Flags.shift_eq (hw : 1 < w) (op : ShiftOp) (f : Flags) (n k : Nat) (x : BitVec w) :
    f.shift n op k x = op.flagsAfter f n k x := by
  have h0 : 0 < w := by omega
  by_cases hk : k = 0
  · subst hk
    cases op <;> rfl
  · have hsteps := shiftSteps_eq_closed h0 op k (by omega) x f.cf
    have hof : (if k = 1 then shiftOf op x (op.closed x f.cf k).1 (op.closed x f.cf k).2 else Config.freeBit n .of) =
        if k = 1 then (op.closed x f.cf k).1.msb != x.msb else Config.freeBit n .of := by
      by_cases h1 : k = 1
      · subst h1
        rw [if_pos rfl, if_pos rfl, ← shiftStep_eq_closed h0, shiftOf_eq hw]
      · rw [if_neg h1, if_neg h1]
    simp only [Flags.shift, ShiftOp.flagsAfter, if_neg hk, hsteps, hof, Flags.shiftSzp, Flags.szp_eq]

/-! The instructions -/

section
variable {s : State}

theorem State.shift8_ok {op : ShiftOp} {e : E8} {cnt : Byte} (h : s.canWriteE8 e = true) :
    s.shift8 op e cnt = .ok ((s.put8 e (op.closed (s.val8 e) s.flags.cf (cnt.toNat % 32)).1).setFlags
      (op.flagsAfter s.flags s.free (cnt.toNat % 32) (s.val8 e))).advance := by
  simp only [State.shift8, s.readE8_ok e (s.canReadE8_of_canWrite e h), run_bind_ok, s.writeE8_ok e _ h, leaving_ok,
    run_pure, shiftSteps_result (w := 8) (by decide), Flags.shift_eq (w := 8) (by decide)]
  rfl

theorem State.shift16_ok {op : ShiftOp} {e : E16} {cnt : Byte} (h : s.canWriteE16 e = true) :
    s.shift16 op e cnt = .ok ((s.put16 e (op.closed (s.val16 e) s.flags.cf (cnt.toNat % 32)).1).setFlags
      (op.flagsAfter s.flags s.free (cnt.toNat % 32) (s.val16 e))).advance := by
  simp only [State.shift16, s.readE16_ok e (s.canReadE16_of_canWrite e h), run_bind_ok, s.writeE16_ok e _ h, leaving_ok,
    run_pure, shiftSteps_result (w := 16) (by decide), Flags.shift_eq (w := 16) (by decide)]
  rfl

/-- The three counts of a form are one operation of the model (R410). -/
theorem ShiftOp.exec_ebOne (op : ShiftOp) (e : E8) : exec (op.ebOne e) s = s.finish (s.shift8 op e 1) := by
  cases op <;> rfl

theorem ShiftOp.exec_ebCl (op : ShiftOp) (e : E8) : exec (op.ebCl e) s = s.finish (s.shift8 op e (s.get8 .cl)) := by
  cases op <;> rfl

theorem ShiftOp.exec_ebDb (op : ShiftOp) (e : E8) (v : Byte) : exec (op.ebDb e v) s = s.finish (s.shift8 op e v) := by
  cases op <;> rfl

theorem ShiftOp.exec_ewOne (op : ShiftOp) (e : E16) : exec (op.ewOne e) s = s.finish (s.shift16 op e 1) := by
  cases op <;> rfl

theorem ShiftOp.exec_ewCl (op : ShiftOp) (e : E16) : exec (op.ewCl e) s = s.finish (s.shift16 op e (s.get8 .cl)) := by
  cases op <;> rfl

theorem ShiftOp.exec_ewDb (op : ShiftOp) (e : E16) (v : Byte) : exec (op.ewDb e v) s = s.finish (s.shift16 op e v) := by
  cases op <;> rfl

end

/-- Settles O29. -/
theorem shiftsAndRotates : Obligations.ShiftsAndRotates := by
  refine ⟨fun op s e h => ?byte, fun op s e h => ?word⟩
  case byte =>
    intro t
    have hdoes {i : Instr} {cnt : Byte} (hi : exec i s = s.finish (s.shift8 op e cnt)) :
        Does i s (t cnt) (s.cells8 e) :=
      .of_run hi (State.shift8_ok h) (frame_of (s.readPhys_put8 e _) rfl rfl rfl rfl)
    exact ⟨hdoes (op.exec_ebOne e), hdoes (op.exec_ebCl e), fun v => hdoes (op.exec_ebDb e v)⟩
  case word =>
    intro t
    have hdoes {i : Instr} {cnt : Byte} (hi : exec i s = s.finish (s.shift16 op e cnt)) :
        Does i s (t cnt) (s.cells16 e) :=
      .of_run hi (State.shift16_ok h) (frame_of (s.readPhys_put16 e _) rfl rfl rfl rfl)
    exact ⟨hdoes (op.exec_ewOne e), hdoes (op.exec_ewCl e), fun v => hdoes (op.exec_ewDb e v)⟩

end Sys2Proof.Machine
end

section
/-!
# Decimal adjusts (O30, O31)
-/

namespace Sys2Proof.Machine

variable {s t : State}

/-! The corrections in numbers -/

/-- A word from the numbers of its two bytes. -/
theorem Word.ofBytes_eq_ofNat {lo hi : Byte} {l h : Nat} (hl : lo.toNat = l % 256) (hh : hi.toNat = h % 256) :
    Word.ofBytes lo hi = BitVec.ofNat 16 (h % 256 * 256 + l % 256) := by
  apply BitVec.eq_of_toNat_eq
  rw [Word.ofBytes_toNat, BitVec.toNat_ofNat, hl, hh]
  omega

/-- The low four bits of a byte, as a number. -/
theorem Byte.lowDigit_toNat (a : Byte) : (a &&& 0x0F).toNat = a.toNat % 16 := by
  rw [BitVec.toNat_and]
  exact Nat.and_two_pow_sub_one_eq_mod a.toNat 4

/-- The low digit needs adjusting (R621-R624). -/
theorem lowAdjust_eq (al : Byte) (af : Bool) : lowAdjust al af = decide (9 < al.toNat % 16 ∨ af = true) := by
  rw [lowAdjust, Byte.lowDigit_toNat, Bool.decide_or, Bool.decide_eq_true]

/-- The high digit needs adjusting (R621, R622). -/
theorem highAdjust_eq (al : Byte) (cf : Bool) : highAdjust al cf = decide (0x9F < al.toNat ∨ cf = true) := by
  rw [highAdjust, Bool.decide_or, Bool.decide_eq_true]

/-- A correction `corr a k` adds `c` modulo 256. -/
def Corrects (corr : Byte → Byte → Byte) (k : Byte) (c : Nat) : Prop := ∀ a, (corr a k).toNat = (a.toNat + c) % 256

theorem corrects_add (k : Byte) : Corrects (fun a b => a + b) k k.toNat := fun a => BitVec.toNat_add a k

theorem corrects_sub (k : Byte) : Corrects (fun a b => a - b) k (256 - k.toNat) := fun a => by
  rw [BitVec.toNat_sub, Nat.add_comm]

/-- A correction made or not, as a number. -/
theorem Corrects.toNat_ite {corr : Byte → Byte → Byte} {k : Byte} {c : Nat} (h : Corrects corr k c) (b : Bool) (a : Byte) :
    (if b then corr a k else a).toNat = (if b then a.toNat + c else a.toNat) % 256 := by
  cases b with
  | true => exact h a
  | false => exact (Nat.mod_eq_of_lt a.isLt).symm

/-- The state with AX made of the numbers of its two bytes, and the flags replaced, behind the instruction. -/
def State.adjusted (s : State) (l h : Nat) (f : Flags) : State :=
  { s with regs := { s.regs with ax := BitVec.ofNat 16 (h % 256 * 256 + l % 256) }, flags := f }.advance

/-- DAA and DAS in numbers, with the corrections `c1` and `c2` (R621, R622). -/
def State.packedAdjust (s : State) (c1 c2 : Nat) : State :=
  let al := (s.get8 .al).toNat
  let low : Bool := 9 < al % 16 ∨ s.flags.af = true
  let a1 := (if low then al + c1 else al) % 256
  let high : Bool := 0x9F < a1 ∨ s.flags.cf = true
  let a2 := (if high then a1 + c2 else a1) % 256
  s.adjusted a2 (s.get8 .ah).toNat
    { s.flags.result (BitVec.ofNat 8 a2) with af := low, cf := high, of := Config.freeBit s.free .of }

/-- DAA and DAS are their corrections modulo 256. -/
theorem State.decimal_eq {corr : Byte → Byte → Byte} {c1 c2 : Nat} (h1 : Corrects corr 0x06 c1)
    (h2 : Corrects corr 0x60 c2) : s.decimal corr = s.packedAdjust c1 c2 := by
  unfold State.decimal State.packedAdjust
  simp only [lowAdjust_eq, highAdjust_eq]
  generalize decide (9 < (s.get8 .al).toNat % 16 ∨ s.flags.af = true) = low
  have hal := h1.toNat_ite low (s.get8 .al)
  generalize (if low = true then corr (s.get8 .al) 0x06 else s.get8 .al) = al at hal ⊢
  rw [← hal]
  generalize decide (0x9F < al.toNat ∨ s.flags.cf = true) = high
  have hres := h2.toNat_ite high al
  generalize (if high = true then corr al 0x60 else al) = res at hres ⊢
  rw [← hres]
  have hax : Word.ofBytes res s.regs.ax.hi = BitVec.ofNat 16 ((s.get8 .ah).toNat % 256 * 256 + res.toNat % 256) :=
    Word.ofBytes_eq_ofNat (Nat.mod_eq_of_lt res.isLt).symm (Nat.mod_eq_of_lt (s.get8 .ah).isLt).symm
  simp only [State.adjusted, ← hax, BitVec.ofNat_toNat, BitVec.setWidth_eq, ← Flags.szp_eq]
  rfl

theorem exec_daa : exec .daa s = .next (s.packedAdjust 0x06 0x60) :=
  congrArg _ (s.decimal_eq (corrects_add 0x06) (corrects_add 0x60))

theorem exec_das : exec .das s = .next (s.packedAdjust (256 - 0x06) (256 - 0x60)) :=
  congrArg _ (s.decimal_eq (corrects_sub 0x06) (corrects_sub 0x60))

/-- AAA and AAS in numbers (R623, R624). -/
theorem State.ascii_eq {corr : Byte → Byte → Byte} {c1 c2 : Nat} (h1 : Corrects corr 6 c1) (h2 : Corrects corr 1 c2) :
    let low : Bool := 9 < (s.get8 .al).toNat % 16 ∨ s.flags.af = true
    s.ascii corr = s.adjusted ((if low then (s.get8 .al).toNat + c1 else (s.get8 .al).toNat) % 16)
      (if low then (s.get8 .ah).toNat + c2 else (s.get8 .ah).toNat) (s.flags.ascii s.free low) := by
  intro low
  have hal := h1.toNat_ite low (s.get8 .al)
  have hah := h2.toNat_ite low (s.get8 .ah)
  have hax := Word.ofBytes_eq_ofNat (lo := (if low = true then corr (s.get8 .al) 6 else s.get8 .al) &&& 0x0F)
    (l := (if low then (s.get8 .al).toNat + c1 else (s.get8 .al).toNat) % 16) (by rw [Byte.lowDigit_toNat, hal]; omega) hah
  unfold State.ascii
  simp only [lowAdjust_eq, State.adjusted, ← hax]
  rfl

/-- AAM and AAD in numbers (R625, R626). -/
theorem State.asciiMul_eq (lo hi : Byte) {l h : Nat} (hl : lo = BitVec.ofNat 8 l) (hh : hi.toNat = h % 256) :
    ((s.setAx (Word.ofBytes lo hi)).setFlags (s.flags.asciiMul s.free lo)).advance =
      s.adjusted l h { s.flags.result (BitVec.ofNat 8 l) with
        of := Config.freeBit s.free .of, af := Config.freeBit s.free .af, cf := Config.freeBit s.free .cf } := by
  have hax := Word.ofBytes_eq_ofNat (lo := lo) (l := l) (by rw [hl, BitVec.toNat_ofNat]) hh
  simp only [State.adjusted, ← hax, ← hl, ← Flags.szp_eq]
  rfl

/-- AAM and AAD as instructions. -/
theorem Does.of_asciiMul {i : Instr} {lo hi : Byte} {l h : Nat}
    (hi' : exec i s = .next ((s.setAx (Word.ofBytes lo hi)).setFlags (s.flags.asciiMul s.free lo)).advance)
    (hl : lo = BitVec.ofNat 8 l) (hh : hi.toNat = h % 256) :
    Does i s (s.adjusted l h { s.flags.result (BitVec.ofNat 8 l) with
        of := Config.freeBit s.free .of, af := Config.freeBit s.free .af, cf := Config.freeBit s.free .cf }) [] :=
  .of_keep (hi'.trans (congrArg _ (s.asciiMul_eq lo hi hl hh))) rfl rfl rfl rfl

/-- Settles O30: each page's operations in numbers modulo 256. -/
theorem decimalAdjusts : Obligations.DecimalAdjusts := by
  refine ⟨⟨rfl, rfl, rfl, rfl, rfl, rfl⟩, fun s => ?_⟩
  intro al ah low done packed ascii split
  have hquot : (BitVec.ofNat 8 (al / 10)).toNat = al / 10 % 256 := BitVec.toNat_ofNat _ _
  have hsum : s.get8 .al + 10 * s.get8 .ah = BitVec.ofNat 8 (al + 10 * ah) := by
    apply BitVec.eq_of_toNat_eq
    rw [BitVec.toNat_add, BitVec.toNat_mul, BitVec.toNat_ofNat]
    exact Nat.add_mod_mod _ _ _
  refine ⟨?daa, ?das, ?aaa, ?aas, ?aam, ?aad⟩
  case daa => exact .of_keep exec_daa rfl rfl rfl rfl
  case das => exact .of_keep exec_das rfl rfl rfl rfl
  case aaa => exact .of_keep (congrArg _ (s.ascii_eq (corrects_add 6) (corrects_add 1))) rfl rfl rfl rfl
  case aas => exact .of_keep (congrArg _ (s.ascii_eq (corrects_sub 6) (corrects_sub 1))) rfl rfl rfl rfl
  case aam => exact .of_asciiMul rfl rfl hquot
  case aad => exact .of_asciiMul rfl hsum rfl

/-! Packed decimal numbers -/

/-- The two digits of a number below 100 in one byte (R620). -/
def packed (n : Nat) : Nat := n / 10 * 16 + n % 10

/-- What DAA and DAS leave in AL. -/
theorem State.adjusted_al (l h : Nat) (f : Flags) : ((s.adjusted l h f).get8 .al).toNat = l % 256 := by
  show (Word.lo (BitVec.ofNat 16 (h % 256 * 256 + l % 256))).toNat = _
  rw [Word.lo_toNat, BitVec.toNat_ofNat]
  omega

/-- A correction is made or not. -/
theorem correction_cases (p : Prop) [Decidable p] (m n : Nat) :
    p ∧ (if decide p = true then m else n) % 256 = m % 256 ∨ ¬p ∧ (if decide p = true then m else n) % 256 = n % 256 := by
  by_cases h : p
  · exact .inl ⟨h, by simp [h]⟩
  · exact .inr ⟨h, by simp [h]⟩

theorem packed_digits {x y : Nat} (hy : y < 10) : packed (10 * x + y) = 16 * x + y := by
  unfold packed
  omega

/-- A number below 100 by its digits. -/
theorem digits_of_lt {a : Nat} (h : a < 100) : ∃ x y, x < 10 ∧ y < 10 ∧ a = 10 * x + y :=
  ⟨a / 10, a % 10, by omega, by omega, by omega⟩

/-- The low digit adjusted: the sum of the digits `Y` below 10, what is over carried to the high digit (R621). -/
theorem lowDigit_adjusted {X Y a1 : Nat} (hY : Y ≤ 18)
    (h : (9 < Y % 16 ∨ 16 ≤ Y) ∧ a1 = ((16 * X + Y) % 256 + 0x06) % 256 ∨
      ¬(9 < Y % 16 ∨ 16 ≤ Y) ∧ a1 = (16 * X + Y) % 256 % 256) :
    ∃ Z W, W < 10 ∧ 10 * X + Y = 10 * Z + W ∧ a1 = (16 * Z + W) % 256 ∧ 16 * X + Y ≤ 16 * Z + W ∧
      16 * Z + W ≤ 16 * X + Y + 6 := by
  by_cases hc : Y < 10
  · exact ⟨X, Y, hc, rfl, by omega, le_rfl, by omega⟩
  · exact ⟨X + 1, Y - 10, by omega, by omega, by omega, by omega, by omega⟩

/-- The high digit adjusted: a sum `Z` of the high digits below 20 has its carry taken off (R621). -/
theorem highDigit_adjusted {Z W a2 : Nat} {c : Prop} (hZ : Z < 20) (hW : W < 10) (hc : c ↔ 256 ≤ 16 * Z + W)
    (h : (0x9F < (16 * Z + W) % 256 ∨ c) ∧ a2 = ((16 * Z + W) % 256 + 0x60) % 256 ∨
      ¬(0x9F < (16 * Z + W) % 256 ∨ c) ∧ a2 = (16 * Z + W) % 256 % 256) :
    a2 = packed ((10 * Z + W) % 100) ∧ (0x9F < (16 * Z + W) % 256 ∨ c ↔ 100 ≤ 10 * Z + W) := by
  rw [hc] at h ⊢
  by_cases h10 : Z < 10
  · rw [show (10 * Z + W) % 100 = 10 * Z + W by omega, packed_digits hW]
    omega
  · rw [show (10 * Z + W) % 100 = 10 * (Z - 10) + W by omega, packed_digits hW]
    omega

/-- The digits of a sum adjusted (R621): `n` the binary sum of two packed numbers. -/
theorem packed_add {a b : Nat} (ha : a < 100) (hb : b < 100) :
    let n := packed a + packed b
    let low : Bool := 9 < n % 256 % 16 ∨ 16 ≤ packed a % 16 + packed b % 16
    let a1 := (if low then n % 256 + 0x06 else n % 256) % 256
    let high : Bool := 0x9F < a1 ∨ 256 ≤ n
    let a2 := (if high then a1 + 0x60 else a1) % 256
    if 0xFA ≤ n ∧ n ≤ 0xFF then a2 = n - 0xFA ∧ high = false
    else a2 = packed ((a + b) % 100) ∧ (high = true ↔ 100 ≤ a + b) := by
  intro n low a1 high a2
  have ha1 := correction_cases (9 < n % 256 % 16 ∨ 16 ≤ packed a % 16 + packed b % 16) (n % 256 + 0x06) (n % 256)
  have ha2 := correction_cases (0x9F < a1 ∨ 256 ≤ n) (a1 + 0x60) a1
  have hhigh : high = true ↔ 0x9F < a1 ∨ 256 ≤ n := decide_eq_true_iff
  have hn : n = packed a + packed b := rfl
  change _ ∧ a1 = _ ∨ _ ∧ a1 = _ at ha1
  change _ ∧ a2 = _ ∨ _ ∧ a2 = _ at ha2
  clear_value a1 a2 high n
  obtain ⟨x, y, hx, hy, rfl⟩ := digits_of_lt ha
  obtain ⟨u, v, hu, hv, rfl⟩ := digits_of_lt hb
  rw [packed_digits hy, packed_digits hv] at hn ha1
  have hcarry : (16 * x + y) % 16 + (16 * u + v) % 16 = y + v := by omega
  have hdigit : n % 256 % 16 = (y + v) % 16 := by omega
  have hdigits : n = 16 * (x + u) + (y + v) := by omega
  rw [hcarry, hdigit, hdigits] at ha1
  obtain ⟨Z, W, hW, hsum, rfl, hle, hle'⟩ := lowDigit_adjusted (by omega) ha1
  rw [← hdigits] at hle hle'
  rw [← Bool.not_eq_true, hhigh]
  split
  case isTrue hwrap =>
    have hZ : Z < 17 := by omega
    omega
  case isFalse hwrap =>
    rw [show 10 * x + y + (10 * u + v) = 10 * Z + W by omega]
    exact highDigit_adjusted (by omega) hW (by omega) ha2

/-- The low digit of a difference adjusted: `Z` is the difference of the high digits, 16 added, with the borrow taken off
(R622). -/
theorem lowDigit_borrowed {x y u v a1 : Nat} (hu : u < 10) (hy : y < 10) (hv : v < 10)
    (h : (9 < (16 * x + y + 256 - (16 * u + v)) % 256 % 16 ∨ y < v) ∧
        a1 = ((16 * x + y + 256 - (16 * u + v)) % 256 + (256 - 0x06)) % 256 ∨
      ¬(9 < (16 * x + y + 256 - (16 * u + v)) % 256 % 16 ∨ y < v) ∧
        a1 = (16 * x + y + 256 - (16 * u + v)) % 256 % 256) :
    ∃ Z W, W < 10 ∧ 10 * x + y + 160 = 10 * u + v + (10 * Z + W) ∧ a1 = (16 * Z + W) % 256 := by
  by_cases hc : y < v
  · exact ⟨x + 15 - u, y + 10 - v, by omega, by omega, by omega⟩
  · exact ⟨x + 16 - u, y - v, by omega, by omega, by omega⟩

/-- The high digit of a difference adjusted, its borrow given back (R622). -/
theorem highDigit_borrowed {Z W a2 : Nat} {c : Prop} (hZ : 6 ≤ Z) (hZ' : Z < 26) (hW : W < 10) (hc : c ↔ Z < 16)
    (h : (0x9F < (16 * Z + W) % 256 ∨ c) ∧ a2 = ((16 * Z + W) % 256 + (256 - 0x60)) % 256 ∨
      ¬(0x9F < (16 * Z + W) % 256 ∨ c) ∧ a2 = (16 * Z + W) % 256 % 256) :
    a2 = packed ((10 * Z + W - 60) % 100) ∧ (0x9F < (16 * Z + W) % 256 ∨ c ↔ Z < 16) := by
  rw [hc] at h ⊢
  by_cases h16 : Z < 16
  · rw [show (10 * Z + W - 60) % 100 = 10 * (Z - 6) + W by omega, packed_digits hW]
    omega
  · rw [show (10 * Z + W - 60) % 100 = 10 * (Z - 16) + W by omega, packed_digits hW]
    omega

/-- The digits of a difference adjusted (R622). -/
theorem packed_sub {a b : Nat} (ha : a < 100) (hb : b < 100) :
    let n := (packed a + 256 - packed b) % 256
    let low : Bool := 9 < n % 16 ∨ packed a % 16 < packed b % 16
    let a1 := (if low then n + (256 - 0x06) else n) % 256
    let high : Bool := 0x9F < a1 ∨ packed a < packed b
    let a2 := (if high then a1 + (256 - 0x60) else a1) % 256
    a2 = packed ((a + 100 - b) % 100) ∧ (high = true ↔ a < b) := by
  intro n low a1 high a2
  have ha1 := correction_cases (9 < n % 16 ∨ packed a % 16 < packed b % 16) (n + (256 - 0x06)) n
  have ha2 := correction_cases (0x9F < a1 ∨ packed a < packed b) (a1 + (256 - 0x60)) a1
  have hhigh : high = true ↔ 0x9F < a1 ∨ packed a < packed b := decide_eq_true_iff
  have hn : n = (packed a + 256 - packed b) % 256 := rfl
  change _ ∧ a1 = _ ∨ _ ∧ a1 = _ at ha1
  change _ ∧ a2 = _ ∨ _ ∧ a2 = _ at ha2
  clear_value a1 a2 high n
  obtain ⟨x, y, hx, hy, rfl⟩ := digits_of_lt ha
  obtain ⟨u, v, hu, hv, rfl⟩ := digits_of_lt hb
  rw [packed_digits hy, packed_digits hv] at *
  have hborrow : (16 * x + y) % 16 < (16 * u + v) % 16 ↔ y < v := by omega
  rw [hborrow, hn] at ha1
  obtain ⟨Z, W, hW, hdiff, rfl⟩ := lowDigit_borrowed hu hy hv ha1
  have hless : 10 * x + y < 10 * u + v ↔ Z < 16 := by omega
  rw [hhigh, show 10 * x + y + 100 - (10 * u + v) = 10 * Z + W - 60 by omega, hless]
  exact highDigit_borrowed (by omega) (by omega) hW (by omega) ha2

/-! ADD and DAA, SUB and DAS -/

/-- AL after an operation that writes it and the flags. -/
theorem State.get8_al_of_set8 (s : State) (v : Byte) (f : Flags) :
    ((s.set8 .al v).setFlags f).advance.get8 .al = v := by
  apply BitVec.eq_of_toNat_eq
  show (Word.ofBytes v s.regs.ax.hi).lo.toNat = _
  rw [Word.lo_toNat, Word.ofBytes_toNat]
  have := v.isLt
  omega

/-- AL and CF after DAA or DAS, where AL, AF and CF before it are known. -/
theorem State.packedAdjust_al {n : Nat} {p q : Prop} [Decidable p] [Decidable q] (c1 c2 : Nat)
    (hal : (s.get8 .al).toNat = n) (haf : s.flags.af = decide p) (hcf : s.flags.cf = decide q) :
    let low : Bool := 9 < n % 16 ∨ p
    let a1 := (if low then n + c1 else n) % 256
    let high : Bool := 0x9F < a1 ∨ q
    ((s.packedAdjust c1 c2).get8 .al).toNat = (if high then a1 + c2 else a1) % 256 ∧
      (s.packedAdjust c1 c2).flags.cf = high := by
  intro low a1 high
  subst hal
  have hcf' (l h : Nat) (f : Flags) : (s.adjusted l h f).flags.cf = f.cf := rfl
  simp only [State.packedAdjust, State.adjusted_al, hcf', haf, hcf, decide_eq_true_eq, Nat.mod_mod, low, a1, high,
    and_self]

/-- AL, AF and CF after an addition to AL. -/
theorem exec_addAlDb_al {v : Byte} (h : exec (.addAlDb v) s = .next t) :
    let x := (s.get8 .al).toNat
    (t.get8 .al).toNat = (x + v.toNat) % 256 ∧ t.flags.af = decide (16 ≤ x % 16 + v.toNat % 16) ∧
      t.flags.cf = decide (256 ≤ x + v.toNat) := by
  have hrun : exec (.addAlDb v) s = .next ((s.set8 .al (addResult (s.get8 .al) v false)).setFlags
      (s.flags.add (s.get8 .al) v false)).advance := rfl
  cases h.symm.trans hrun
  refine ⟨?_, rfl, rfl⟩
  rw [State.get8_al_of_set8]
  exact BitVec.toNat_ofNat _ _

/-- AL, AF and CF after a subtraction from AL. -/
theorem exec_subAlDb_al {v : Byte} (h : exec (.subAlDb v) s = .next t) :
    let x := (s.get8 .al).toNat
    (t.get8 .al).toNat = (x + 256 - v.toNat) % 256 ∧ t.flags.af = decide (x % 16 < v.toNat % 16) ∧
      t.flags.cf = decide (x < v.toNat) := by
  have hrun : exec (.subAlDb v) s = .next ((s.set8 .al (subResult (s.get8 .al) v false)).setFlags
      (s.flags.sub (s.get8 .al) v false)).advance := rfl
  cases h.symm.trans hrun
  refine ⟨?_, rfl, rfl⟩
  rw [State.get8_al_of_set8, subResult, BitVec.toNat_ofInt]
  have := v.isLt
  simp only [Bool.toNat_false]
  omega

/-- Settles O31: the binary sum and difference adjusted digit by digit. -/
theorem packedDecimalArithmetic : Obligations.PackedDecimalArithmetic := by
  intro s t u a b ha hb bcd hal
  have hbyte (n : Nat) (hn : n < 100) : (BitVec.ofNat 8 (bcd n)).toNat = packed n := by
    rw [BitVec.toNat_ofNat]
    exact Nat.mod_eq_of_lt (by show packed n < _; unfold packed; omega)
  have hA : (s.get8 .al).toNat = packed a := (congrArg _ hal).trans (hbyte a ha)
  refine ⟨fun hadd hdaa => ?daa, fun hsub hdas => ?das⟩
  case daa =>
    cases hdaa.symm.trans exec_daa
    obtain ⟨htal, haf, hcf⟩ := exec_addAlDb_al hadd
    rw [hA, hbyte b hb] at htal haf hcf
    obtain ⟨hual, hucf⟩ := t.packedAdjust_al 0x06 0x60 htal haf hcf
    show if 0xFA ≤ packed a + packed b ∧ packed a + packed b ≤ 0xFF then _ else _
    rw [hual, hucf]
    exact packed_add ha hb
  case das =>
    cases hdas.symm.trans exec_das
    obtain ⟨htal, haf, hcf⟩ := exec_subAlDb_al hsub
    rw [hA, hbyte b hb] at htal haf hcf
    obtain ⟨hual, hucf⟩ := t.packedAdjust_al (256 - 0x06) (256 - 0x60) htal haf hcf
    rw [hual, hucf]
    exact packed_sub ha hb

end Sys2Proof.Machine
end

section
/-!
# Transfers of control within the segment, in real mode, and real-mode interrupts (O32, O33, O34, O35, O39, O40)
-/

namespace Sys2Proof.Machine

variable {s t : State} {i : Instr}

/-! Near targets -/

/-- The target of a one-byte displacement, in the words of the statements (R44, R451). -/
theorem State.rel8_eq (s : State) (d : Byte) : s.rel8 d = s.target d.toInt := by
  rw [State.rel8, State.target, BitVec.ofInt_add, BitVec.ofInt_natCast, BitVec.ofNat_toNat, BitVec.setWidth_eq]
  rfl

/-- The target of a two-byte displacement. -/
theorem State.rel16_eq (s : State) (d : Word) : s.nextIp + d = s.target d.toInt := by
  rw [State.target, BitVec.ofInt_add, BitVec.ofInt_natCast, BitVec.ofNat_toNat, BitVec.setWidth_eq, BitVec.ofInt_toInt]

theorem State.nearJump_ok {v : Word} (h : s.targetOk v = true) : s.nearJump v = .ok { s with ip := v, dec := {} } := by
  rw [State.nearJump, h]
  rfl

theorem State.nearJump_fault {v : Word} (h : s.targetOk v = false) : s.nearJump v = .error (excGp 0) := by
  rw [State.nearJump, h]
  rfl

theorem State.jumpIf_taken {c : Bool} {d : Byte} (hc : c = true) (h : s.targetOk (s.target d.toInt) = true) :
    s.jumpIf c d = .ok { s with ip := s.target d.toInt, dec := {} } := by
  rw [State.jumpIf, if_pos hc, State.rel8_eq, State.nearJump_ok h]

theorem State.jumpIf_fault {c : Bool} {d : Byte} (hc : c = true) (h : s.targetOk (s.target d.toInt) = false) :
    s.jumpIf c d = .error (excGp 0) := by
  rw [State.jumpIf, if_pos hc, State.rel8_eq, State.nearJump_fault h]

theorem State.jumpIf_not {c : Bool} {d : Byte} (hc : c = false) : s.jumpIf c d = .ok s.advance := by
  rw [hc]
  rfl

/-- In protected mode a target above the limit of CS is none (R450). -/
theorem State.targetOk_above {v : Word} (hp : s.prot = true) (h : s.cs.limit < v) : s.targetOk v = false := by
  have : ¬v.toNat ≤ s.cs.limit.toNat := Nat.not_le.mpr (BitVec.lt_def.mp h)
  simp [State.targetOk, hp, this]

theorem State.targetOk_real (v : Word) (hp : s.prot = false) : s.targetOk v = true := by simp [State.targetOk, hp]

/-! The conditional jumps -/

/-- Each conditional jump is the model's one conditional jump on its condition (R452, R453). -/
theorem exec_conditional (s : State) (d : Byte) :
    ∀ j ∈ conditionalJumps, exec (j.1 d) s = s.finish (s.jumpIf (j.2 s.flags) d) := by
  have of_cond {i : Instr} {b c : Bool} (h : exec i s = s.finish (s.jumpIf b d)) (hb : b = c) :
      exec i s = s.finish (s.jumpIf c d) := hb ▸ h
  simp only [conditionalJumps, List.forall_mem_cons, List.not_mem_nil, false_imp_iff, implies_true, and_true]
  refine ⟨?jo, ?jno, ?jb, ?jnb, ?je, ?jne, ?jbe, ?jnbe, ?js, ?jns, ?jp, ?jnp, ?jl, ?jnl, ?jle, ?jnle⟩
  all_goals exact of_cond rfl (by simp [bne, Bool.beq_eq_decide_eq])

/-- JCXZ and the loop forms (R454-R457). -/
theorem State.decCx_cx_ne (s : State) (c : Bool) : (s.decCx.regs.cx != 0 && c) = true ↔ s.regs.cx ≠ 1 ∧ c = true := by
  have : s.decCx.regs.cx = s.regs.cx - 1 := rfl
  rw [Bool.and_eq_true, bne_iff_ne, this, ne_eq, BitVec.sub_eq_iff_eq_add]
  rfl

theorem exec_loopForm (s : State) (d : Byte) :
    ∀ l ∈ [(Instr.loop, true), (Instr.loope, s.flags.zf), (Instr.loopne, !s.flags.zf)],
      exec (l.1 d) s = s.finish (s.decCx.jumpIf (s.decCx.regs.cx != 0 && l.2) d) := by
  simp only [List.forall_mem_cons, List.not_mem_nil, false_imp_iff, implies_true, and_true]
  exact ⟨rfl, rfl, rfl⟩

/-- Settles O32. -/
theorem conditionalJumps_hold : Obligations.ConditionalJumps := by
  intro s d dest down
  refine ⟨fun j hj => ⟨fun hc ht => ?taken, fun hc => ?not⟩, fun hcx ht => ?zero, fun hcx => ?nonzero,
    fun l hl => ⟨fun hcx hc ht => ?again, fun hc => ?done⟩⟩
  case taken => exact .of_run_keep (exec_conditional s d j hj) (State.jumpIf_taken hc ht) rfl rfl rfl rfl
  case not => exact .of_run_keep (exec_conditional s d j hj) (State.jumpIf_not hc) rfl rfl rfl rfl
  case zero => exact .of_run_keep rfl (State.jumpIf_taken (beq_iff_eq.mpr hcx) ht) rfl rfl rfl rfl
  case nonzero => exact .of_run_keep rfl (State.jumpIf_not (beq_eq_false_iff_ne.mpr hcx)) rfl rfl rfl rfl
  case again =>
    have hgo := (s.decCx_cx_ne l.2).mpr ⟨hcx, hc⟩
    exact .of_run_keep (exec_loopForm s d l hl) (State.jumpIf_taken (s := s.decCx) hgo ht) rfl rfl rfl rfl
  case done =>
    have hstay : (s.decCx.regs.cx != 0 && l.2) = false := by
      rw [← Bool.not_eq_true, s.decCx_cx_ne]
      rintro ⟨hcx, hc'⟩
      exact hc.elim hcx fun h => Bool.noConfusion (hc'.symm.trans h)
    exact .of_run_keep (exec_loopForm s d l hl) (State.jumpIf_not (s := s.decCx) hstay) rfl rfl rfl rfl

/-! Comparing and jumping -/

/-- The flags of a comparison of two words: ZF tells equality, CF the unsigned order, SF and OF together the signed one
(R359, R351). -/
theorem Flags.compared (f : Flags) (a b : Word) :
    let g := (f.difference a b false).2
    (g.zf = true ↔ a = b) ∧ (g.cf = true ↔ a.toNat < b.toNat) ∧ (g.sf ≠ g.of ↔ a.toInt < b.toInt) := by
  intro g
  have ha := a.isLt
  have hb := b.isLt
  have hr : (BitVec.ofInt 16 (a.toNat - b.toNat - (false.toNat : Nat))).toNat = (a.toNat + 2 ^ 16 - b.toNat) % 2 ^ 16 := by
    rw [BitVec.toNat_ofInt]
    simp only [Bool.toNat_false]
    omega
  have hzf : g.zf = decide ((BitVec.ofInt 16 (a.toNat - b.toNat - (false.toNat : Nat))).toNat = 0) := rfl
  have hcf : g.cf = decide ((a.toNat : Int) - b.toNat - (false.toNat : Nat) < 0 ∨
      2 ^ 16 ≤ (a.toNat : Int) - b.toNat - (false.toNat : Nat)) := rfl
  have hsf : g.sf = decide ((BitVec.ofInt 16 (a.toNat - b.toNat - (false.toNat : Nat))).toInt < 0) := rfl
  have hof : g.of = decide (2 * (a.toInt - b.toInt - (false.toNat : Nat)) < -2 ^ 16 ∨
      2 ^ 16 ≤ 2 * (a.toInt - b.toInt - (false.toNat : Nat))) := rfl
  rw [BitVec.toInt_eq_toNat_cond, hr] at hsf
  rw [hr] at hzf
  simp only [Bool.toNat_false] at hcf hof
  refine ⟨?_, ?_, ?_⟩
  · rw [hzf, decide_eq_true_iff, ← BitVec.toNat_inj]
    omega
  · rw [hcf, decide_eq_true_iff]
    omega
  · rw [hsf, hof, ne_eq, decide_eq_decide, BitVec.toInt_eq_toNat_cond, BitVec.toInt_eq_toNat_cond]
    split <;> split <;> split <;> omega

/-- A conditional jump in real mode whose condition says `c`. -/
theorem exec_jumpIf_real {b : Bool} {c : Prop} {d : Byte} (hi : exec i t = t.finish (t.jumpIf b d)) (hp : t.prot = false)
    (hb : b = true ↔ c) :
    (c → exec i t = .next { t with ip := t.target d.toInt, dec := {} }) ∧ (¬c → exec i t = .next t.advance) := by
  refine ⟨fun hc => ?_, fun hc => ?_⟩
  · rw [hi, State.jumpIf_taken (hb.mpr hc) (t.targetOk_real _ hp), State.finish_ok]
  · rw [hi, State.jumpIf_not (Bool.eq_false_iff.mpr fun h => hc (hb.mp h)), State.finish_ok]

/-- Settles O33: each condition said with the three that a comparison makes of its operands. -/
theorem jumpsOrderComparedOperands : Obligations.JumpsOrderComparedOperands := by
  intro s t a b d ha hcmp hp taken goes
  have ht : t.flags = (s.flags.difference a b false).2 := by
    have hrun : exec (.cmpAxDw b) s = _ := s.cmpE16_eq (.reg .ax) b rfl
    cases hcmp.symm.trans hrun
    rw [← ha]
    rfl
  obtain ⟨hz, hc, hl⟩ := s.flags.compared a b
  rw [← ht] at hz hc hl
  have hz' : (!t.flags.zf) = true ↔ ¬a = b := by rw [Bool.not_eq_true', ← Bool.not_eq_true, hz]
  have hc' : (!t.flags.cf) = true ↔ ¬a.toNat < b.toNat := by rw [Bool.not_eq_true', ← Bool.not_eq_true, hc]
  have hle : t.flags.sf = t.flags.of ↔ b.toInt ≤ a.toInt := by rw [← not_iff_not, ← ne_eq, hl, Int.not_le]
  have heq : a = b ↔ a.toInt = b.toInt := BitVec.toInt_inj.symm
  have heq' : a = b ↔ a.toNat = b.toNat := BitVec.toNat_inj.symm
  have go {i : Instr} {v : Bool} {c : Prop} (hi : exec i t = t.finish (t.jumpIf v d)) (hv : v = true ↔ c) : goes i c :=
    exec_jumpIf_real hi hp hv
  refine ⟨go rfl ?jl, go rfl ?jnl, go rfl ?jle, go rfl ?jnle, go rfl hc, go rfl ?jnb, go rfl ?jbe, go rfl ?jnbe,
    go rfl hz, go rfl ?jne⟩
  case jl => rw [bne_iff_ne, hl]
  case jnl => rw [beq_iff_eq, hle]
  case jle => rw [Bool.or_eq_true, bne_iff_ne, hz, hl, heq]; omega
  case jnle => rw [Bool.and_eq_true, beq_iff_eq, hz', hle, heq]; omega
  case jnb => rw [hc']; omega
  case jbe => rw [Bool.or_eq_true, hc, hz, heq']; omega
  case jnbe => rw [Bool.and_eq_true, hc', hz', heq']; omega
  case jne => exact hz'

/-! Near JMP, CALL and RET -/

theorem State.nearCall_ok {v : Word} (hw : s.canWrite .ss (s.regs.sp - 2) 2 = true) (h : s.targetOk v = true) :
    s.nearCall v = .ok { s.writePhys16 (s.stackAddr (-2)) s.nextIp with
      ip := v, dec := {}, regs := { s.regs with sp := s.regs.sp - 2 } } := by
  simp only [State.nearCall, State.canPush_one, hw, h, check_true, run_bind_ok, run_pure, State.pushRaw_eq, State.goto]

theorem State.nearCall_fault {v : Word} (hw : s.canWrite .ss (s.regs.sp - 2) 2 = true) (h : s.targetOk v = false) :
    s.nearCall v = .error (excGp 0) := by
  simp only [State.nearCall, State.canPush_one, hw, h, check_true, check_false, run_bind_ok, run_bind_error]

/-- A near call stores its return offset and nothing else. -/
theorem Does.of_nearCall {v : Word} (hi : exec i s = s.finish (s.nearCall v))
    (hw : s.canWrite .ss (s.regs.sp - 2) 2 = true) (h : s.targetOk v = true) :
    Does i s { s.writePhys16 (s.stackAddr (-2)) s.nextIp with
      ip := v, dec := {}, regs := { s.regs with sp := s.regs.sp - 2 } } (s.pushCells 1) :=
  .of_run hi (State.nearCall_ok hw h) (frame_of (s.readPhys_pushRaw s.nextIp) (by rw [s.pushRaw_eq])
    (by rw [s.pushRaw_eq]) (by rw [s.pushRaw_eq]) (by rw [s.pushRaw_eq]))

/-- The top of the stack read as the first word above SP. -/
theorem State.stackWord_ok {k : Word} (h : s.canRead .ss (s.regs.sp + k) 2 = true) :
    s.stackWord k = .ok (s.readPhys16 (s.stackAddr k)) := s.readSeg16_ok _ _ h

theorem State.stackWord_zero (h : s.canRead .ss s.regs.sp 2 = true) :
    s.stackWord 0 = .ok (s.readPhys16 (s.stackAddr 0)) := State.stackWord_ok (by simpa using h)

theorem State.retNear_ok {n : Word} (hr : s.canRead .ss s.regs.sp 2 = true)
    (h : s.targetOk (s.readPhys16 (s.stackAddr 0)) = true) :
    s.retNear n = .ok { s with
      ip := s.readPhys16 (s.stackAddr 0), dec := {}, regs := { s.regs with sp := s.regs.sp + 2 + n } } := by
  simp only [State.retNear, State.stackWord_zero hr, run_bind_ok, h, check_true, run_pure]
  rfl

theorem State.retNear_fault {n : Word} (hr : s.canRead .ss s.regs.sp 2 = true)
    (h : s.targetOk (s.readPhys16 (s.stackAddr 0)) = false) : s.retNear n = .error (excGp 0) := by
  simp only [State.retNear, State.stackWord_zero hr, run_bind_ok, h, check_false, run_bind_error]

theorem exec_jmpEw {e : E16} (h : s.canReadE16 e = true) : exec (.jmpEw e) s = s.finish (s.nearJump (s.val16 e)) := by
  show s.finish (s.readE16 e >>= fun v => s.nearJump v) = _
  rw [s.readE16_ok e h, run_bind_ok]

theorem exec_callEw {e : E16} (h : s.canReadE16 e = true) : exec (.callEw e) s = s.finish (s.nearCall (s.val16 e)) := by
  show s.finish (s.readE16 e >>= fun v => s.nearCall v) = _
  rw [s.readE16_ok e h, run_bind_ok]

theorem exec_jmpCw (d : Word) : exec (.jmpCw d) s = s.finish (s.nearJump (s.target d.toInt)) := by
  rw [← s.rel16_eq]
  rfl

theorem exec_callCw (d : Word) : exec (.callCw d) s = s.finish (s.nearCall (s.target d.toInt)) := by
  rw [← s.rel16_eq]
  rfl

theorem exec_jmpCb (d : Byte) : exec (.jmpCb d) s = s.finish (s.nearJump (s.target d.toInt)) := by
  rw [← s.rel8_eq]
  rfl

/-- A near target above the limit is #GP(0) with nothing changed (R450). -/
theorem exec_gp_of_error {r : Run State} (hi : exec i s = s.finish r) (hr : r = .error (excGp 0)) :
    exec i s = s.exception 13 (some 0) := by
  rw [hi, hr]
  rfl

/-- Settles O34. -/
theorem nearTransfers : Obligations.NearTransfers := by
  refine ⟨fun s => ?inside, fun s hp => ?above⟩
  case inside =>
    intro called
    refine ⟨fun d h => .of_run_keep (exec_jmpCb d) (State.nearJump_ok h) rfl rfl rfl rfl,
      fun d h => .of_run_keep (exec_jmpCw d) (State.nearJump_ok h) rfl rfl rfl rfl,
      fun e he h => .of_run_keep (exec_jmpEw he) (State.nearJump_ok h) rfl rfl rfl rfl,
      fun hw => ⟨fun d h => .of_nearCall (exec_callCw d) hw h, fun e he h => .of_nearCall (exec_callEw he) hw h⟩,
      fun hr => ?ret⟩
    intro v h
    refine ⟨.of_run_keep rfl ((State.retNear_ok hr h).trans ?_) rfl rfl rfl rfl,
      fun n => .of_run_keep rfl (State.retNear_ok hr h) rfl rfl rfl rfl⟩
    simp [v]
  case above =>
    intro gp
    have hloop {d : Byte} (h : s.cs.limit < s.target d.toInt) (l : (Byte → Instr) × Bool)
        (hl : l ∈ [(Instr.loop, true), (Instr.loope, s.flags.zf), (Instr.loopne, !s.flags.zf)])
        (hgo : s.regs.cx ≠ 1 ∧ l.2 = true) : exec (l.1 d) s = gp :=
      exec_gp_of_error (exec_loopForm s d l hl)
        (State.jumpIf_fault (s := s.decCx) ((s.decCx_cx_ne l.2).mpr hgo) (State.targetOk_above hp h))
    refine ⟨fun d h => ⟨?_, ?_, ?_, ?_, ?_, ?_⟩, fun d h => ⟨?_, fun hw => ?_⟩, fun e he h => ⟨?_, fun hw => ?_⟩,
      fun hr h => ⟨?_, fun n => ?_⟩⟩
    all_goals have hno := State.targetOk_above hp h
    · exact exec_gp_of_error (exec_jmpCb d) (State.nearJump_fault hno)
    · exact fun j hj hc => exec_gp_of_error (exec_conditional s d j hj) (State.jumpIf_fault hc hno)
    · exact fun hcx => exec_gp_of_error rfl (State.jumpIf_fault (beq_iff_eq.mpr hcx) hno)
    · exact fun hcx => hloop h (.loop, true) (by simp) ⟨hcx, rfl⟩
    · exact fun hcx hz => hloop h (.loope, s.flags.zf) (by simp) ⟨hcx, hz⟩
    · exact fun hcx hz => hloop h (.loopne, !s.flags.zf) (by simp) ⟨hcx, by rw [hz]; rfl⟩
    · exact exec_gp_of_error (exec_jmpCw d) (State.nearJump_fault hno)
    · exact exec_gp_of_error (exec_callCw d) (State.nearCall_fault hw hno)
    · exact exec_gp_of_error (exec_jmpEw he) (State.nearJump_fault hno)
    · exact exec_gp_of_error (exec_callEw he) (State.nearCall_fault hw hno)
    · exact exec_gp_of_error rfl (State.retNear_fault hr hno)
    · exact exec_gp_of_error rfl (State.retNear_fault hr hno)

/-! Several pushes -/

/-- One word further below SP. -/
theorem Word.sub_two_sub (w : Word) (n : Nat) :
    w - 2 - BitVec.ofNat 16 (2 * n) = w - BitVec.ofNat 16 (2 * (n + 1)) := by
  rw [BitVec.sub_sub, Nat.mul_succ, Nat.add_comm, BitVec.ofNat_add]
  rfl

theorem State.pushList_setSp (x : SegReg) (p q : Word) (l : List Word) (u : State) :
    (u.setSp p).pushList x q l = (u.pushList x q l).setSp p := by
  induction l generalizing u q with
  | nil => rfl
  | cons w l ih => rw [State.pushList, State.writePhys16_setSp, ih, State.pushList]

/-- Pushes one after the other are stores below SP, which moves once (R160). -/
theorem State.foldl_pushRaw (l : List Word) (s : State) :
    l.foldl State.pushRaw s = (s.pushList s.ss s.regs.sp l).setSp (s.regs.sp - BitVec.ofNat 16 (2 * l.length)) := by
  induction l generalizing s with
  | nil => simp [State.pushList, State.setSp]
  | cons v l ih =>
    have hss : (s.pushRaw v).ss = s.ss := by simp [State.pushRaw]
    have hlen := Word.sub_two_sub s.regs.sp l.length
    calc (v :: l).foldl State.pushRaw s
      _ = l.foldl State.pushRaw (s.pushRaw v) := rfl
      _ = ((s.pushRaw v).pushList s.ss (s.regs.sp - 2) l).setSp (s.regs.sp - 2 - BitVec.ofNat 16 (2 * l.length)) := by
        rw [ih, hss]
        rfl
      _ = _ := by
        rw [hlen, State.pushRaw, State.pushList_setSp]
        rfl

/-- The words of a list are stored in as many words below SP. -/
theorem State.readPhys_pushList (x : SegReg) (sp : Word) (l : List Word) (s : State) (a : PAddr)
    (h : a ∉ x.pushCells sp l.length) : (s.pushList x sp l).readPhys a = s.readPhys a := by
  induction l generalizing s sp with
  | nil => rfl
  | cons v l ih =>
    simp only [SegReg.pushCells, List.mem_flatMap, List.mem_range, not_exists, not_and] at h ih
    have h0 := h 0 (by simp)
    rw [State.pushList, ih]
    · exact s.readPhys_writePhys16_ne _ _ _ h0
    intro k hk
    have hk' := h (k + 1) (by simpa using hk)
    rwa [Word.sub_two_sub]

/-- The cells of pushes, said with the stack segment. -/
theorem State.pushCells_eq (s : State) (n : Nat) : s.pushCells n = s.ss.pushCells s.regs.sp n := by
  induction n with
  | zero => rfl
  | succ n ih => rw [State.pushCells, ih, SegReg.pushCells, SegReg.pushCells, List.range_succ, List.flatMap_append]; simp

theorem State.readPhys_pushes (l : List Word) (s : State) (a : PAddr) (h : a ∉ s.pushCells l.length) :
    (l.foldl State.pushRaw s).readPhys a = s.readPhys a := by
  rw [State.foldl_pushRaw]
  rw [State.pushCells_eq] at h
  exact frame_of (fun b hb => State.readPhys_pushList s.ss s.regs.sp l s b hb) rfl rfl rfl rfl a h

/-- Two pushes (R160). -/
theorem State.pushRaw2 (s : State) (v w : Word) : (s.pushRaw v).pushRaw w =
    ((s.writePhys16 (s.stackAddr (-2)) v).writePhys16 (s.stackAddr (-4)) w).setSp (s.regs.sp - 4) := by
  have h := State.foldl_pushRaw [v, w] s
  have h4 : s.regs.sp - 4 = s.regs.sp - 2 - 2 := by rw [BitVec.sub_sub]; rfl
  rw [State.stackAddr_neg, State.stackAddr_neg, h4]
  exact h.trans (congrArg _ h4)

/-! Far JMP, CALL and RET in real mode -/

theorem State.farReal_eq (s : State) (sel off : Word) :
    s.farReal sel off = { s with cs := s.cs.real sel, ip := off, dec := {} } := by
  rw [State.farReal, SegReg.realLoad_eq]

theorem State.farTransfer_real (hp : s.prot = false) (k : FarKind) (sel off : Word) :
    s.farTransfer k sel off = s.farTransferReal k sel off := by
  rw [State.farTransfer, hp]
  rfl

theorem State.farCall_real (hp : s.prot = false) (h : s.canPush 2 = true) (sel off : Word) :
    s.farTransfer .call sel off = .ok { (s.writePhys16 (s.stackAddr (-2)) s.cs.sel).writePhys16 (s.stackAddr (-4)) s.nextIp with
        regs := { s.regs with sp := s.regs.sp - 4 }, cs := s.cs.real sel, ip := off, dec := {} } := by
  rw [State.farTransfer_real hp, State.farTransferReal, h, check_true, run_bind_ok, run_pure, State.pushRaw2,
    State.farReal_eq]
  simp [State.setSp]

/-- The far forms whose pointer is in memory, as those that are given it (R464, R468). -/
theorem exec_jmpEd {m : Mem} (h : s.canReadMem m 4 = true) : exec (.jmpEd (.mem m)) s =
    s.finish (s.farTransfer .jmp (s.readPhys16 (s.addr m + 2)) (s.readPhys16 (s.addr m))) := by
  show s.finish (s.readPointer (.mem m) >>= fun p => s.farTransfer .jmp p.2 p.1) = _
  rw [s.readPointer_ok m h, run_bind_ok]

theorem exec_callEd {m : Mem} (h : s.canReadMem m 4 = true) : exec (.callEd (.mem m)) s =
    s.finish (s.farTransfer .call (s.readPhys16 (s.addr m + 2)) (s.readPhys16 (s.addr m))) := by
  show s.finish (s.readPointer (.mem m) >>= fun p => s.farTransfer .call p.2 p.1) = _
  rw [s.readPointer_ok m h, run_bind_ok]

theorem State.retFar_real {n : Word} (hp : s.prot = false) (h0 : s.canRead .ss s.regs.sp 2 = true)
    (h2 : s.canRead .ss (s.regs.sp + 2) 2 = true) : s.retFar n =
      .ok { s with
        cs := s.cs.real (s.readPhys16 (s.stackAddr 2)), ip := s.readPhys16 (s.stackAddr 0), dec := {}
        regs := { s.regs with sp := s.regs.sp + 4 + n } } := by
  rw [State.retFar, hp, Bool.not_false, if_pos rfl, State.retFarReal, State.stackWord_zero h0, run_bind_ok,
    State.stackWord_ok h2, run_bind_ok, State.farReal_eq]
  rfl

/-- Settles O35. -/
theorem realModeFarTransfers : Obligations.RealModeFarTransfers := by
  intro s hp gone called
  have hjmp (sel off : Word) : s.farTransfer .jmp sel off = .ok (gone s sel off) :=
    (State.farTransfer_real hp .jmp sel off).trans (congrArg _ (s.farReal_eq sel off))
  have hframe (sel off : Word) : ∀ a, a ∉ s.pushCells 2 → (gone called sel off).readPhys a = s.readPhys a := by
    have h := State.readPhys_pushes [s.cs.sel, s.nextIp] s
    simp only [List.foldl_cons, List.foldl_nil, State.pushRaw2] at h
    exact frame_of h rfl rfl rfl rfl
  refine ⟨fun off sel => .of_run_keep rfl (hjmp sel off) rfl rfl rfl rfl,
    fun m h => .of_run_keep (exec_jmpEd h) (hjmp _ _) rfl rfl rfl rfl,
    fun h => ⟨fun off sel => .of_run rfl (State.farCall_real hp h sel off) (hframe sel off),
      fun m hm => .of_run (exec_callEd hm) (State.farCall_real hp h _ _) (hframe _ _)⟩, fun h0 h2 => ?ret⟩
  intro back
  exact ⟨.of_run_keep rfl (State.retFar_real hp h0 h2) rfl rfl rfl rfl,
    fun n => .of_run_keep rfl (State.retFar_real hp h0 h2) rfl rfl rfl rfl⟩

/-! Interrupts in real mode -/

/-- INT n in real mode, and what of memory it leaves alone. -/
theorem Does.of_softInt {v : Byte} (hi : exec i s = s.softInt v) (h : s.canEnterReal v = true) :
    Does i s (s.realEntry v s.nextIp) (s.pushCells 3) := by
  refine ⟨?_, fun a => s.readPhys_realEntry v s.nextIp a⟩
  rw [hi, State.softInt, s.deliver_realEntry _ h]

theorem exec_into_set (h : s.flags.of = true) : exec .into s = s.softInt 4 := if_pos h

theorem exec_into_clear (h : s.flags.of = false) : exec .into s = .next s.advance := if_neg (by simp [h])

/-- IRET in real mode, its three words read (R500, D10). -/
theorem State.iret_real (hp : s.prot = false) (h0 : s.canRead .ss s.regs.sp 2 = true)
    (h2 : s.canRead .ss (s.regs.sp + 2) 2 = true) (h4 : s.canRead .ss (s.regs.sp + 4) 2 = true) : s.iret =
      .ok { s with
        regs := { s.regs with sp := s.regs.sp + 6 }
        cs := s.cs.real (s.readPhys16 (s.stackAddr 2))
        ip := s.readPhys16 (s.stackAddr 0)
        flags := { Flags.ofWord (s.readPhys16 (s.stackAddr 4)) with iopl := s.flags.iopl, nt := s.flags.nt }
        nmiInService := false
        dec := {} } := by
  have hcpl : s.cpl = 0 := by rw [State.cpl, hp]; rfl
  have hflags (w : Word) : s.loadFlags w = { Flags.ofWord w with iopl := s.flags.iopl, nt := s.flags.nt } := by
    rw [State.loadFlags_eq, hcpl, hp]
    simp
  rw [State.iret, hp, Bool.not_false, if_pos rfl, State.iretReal, State.stackWord_zero h0, run_bind_ok,
    State.stackWord_ok h2, run_bind_ok, State.stackWord_ok h4, run_bind_ok, hflags, State.farReal_eq]
  rfl

/-- Settles O39. -/
theorem realModeInterrupts : Obligations.RealModeInterrupts := by
  refine ⟨fun s hp => ⟨fun n h => .of_softInt rfl h, fun h => .of_softInt rfl h,
    fun hof h => .of_softInt (exec_into_set hof) h, fun hof => .of_keep (exec_into_clear hof) rfl rfl rfl rfl,
    fun h0 h2 h4 => ?iret⟩, fun s vec code h => s.exception_realEntry vec code h⟩
  intro f fl t
  exact .of_run_keep rfl (State.iret_real hp h0 h2 h4) rfl rfl rfl rfl

/-! IRET undoes a real-mode entry -/

/-- Two words that do not overlap in their segment do not overlap in memory (R126, R133). -/
theorem SegReg.wordCells_disjoint (x : SegReg) {a b : Word} (ha : a.toNat + 2 ≤ 0x10000) (hb : b.toNat + 2 ≤ 0x10000)
    (h : a.toNat + 2 ≤ b.toNat ∨ b.toNat + 2 ≤ a.toNat) : ∀ c ∈ wordCells (x.lin a), c ∉ wordCells (x.lin b) := by
  have next {w : Word} (hw : w.toNat + 2 ≤ 0x10000) : x.lin w + 1 = x.lin (w + 1) ∧ (w + 1).toNat = w.toNat + 1 := by
    refine ⟨(x.lin_add w 1 (by omega)).symm, ?_⟩
    rw [BitVec.toNat_add]
    exact Nat.mod_eq_of_lt (by show w.toNat + 1 < _; omega)
  obtain ⟨ha1, ha2⟩ := next ha
  obtain ⟨hb1, hb2⟩ := next hb
  have hne {v w : Word} (hvw : v.toNat ≠ w.toNat) : x.lin v ≠ x.lin w := by
    rw [ne_eq, x.lin_inj, ← BitVec.toNat_inj]
    exact hvw
  simp only [wordCells, ha1, hb1, List.mem_cons, List.not_mem_nil, or_false, not_or]
  rintro c (rfl | rfl)
  · exact ⟨hne (by omega), hne (by omega)⟩
  · exact ⟨hne (by omega), hne (by omega)⟩

/-- A word below SP that may be written, as a number: it does not wrap (R130). -/
theorem State.canPush_le {n k : Nat} (h : s.canPush n = true) (hk : k < n) :
    (s.regs.sp - BitVec.ofNat 16 (2 * (k + 1))).toNat + 2 ≤ 0x10000 := by
  induction n with
  | zero => omega
  | succ n ih =>
    simp only [State.canPush, Bool.and_eq_true] at h
    obtain ⟨h1, h2⟩ := h
    by_cases hkn : k = n
    · subst hkn
      exact s.canRead_le _ _ _ (s.canRead_of_canWrite _ _ _ h2)
    · exact ih h1 (by omega)

/-- None of `n` words below `sp` wraps (R130). -/
def NoWrap (sp : Word) (n : Nat) : Prop := ∀ k, k < n → (sp - BitVec.ofNat 16 (2 * (k + 1))).toNat + 2 ≤ 0x10000

theorem State.noWrap_of_canPush {n : Nat} (h : s.canPush n = true) : NoWrap s.regs.sp n := fun _ hk => s.canPush_le h hk

/-- Two of the words below `sp` do not overlap. -/
theorem SegReg.pushCells_disjoint (x : SegReg) {sp : Word} {n j k : Nat} (h : NoWrap sp n) (hn : n < 0x8000) (hj : j < n)
    (hk : k < n) (hjk : j ≠ k) : ∀ c ∈ wordCells (x.lin (sp - BitVec.ofNat 16 (2 * (j + 1)))),
      c ∉ wordCells (x.lin (sp - BitVec.ofNat 16 (2 * (k + 1)))) := by
  have hj' := h j hj
  have hk' := h k hk
  refine x.wordCells_disjoint hj' hk' ?_
  simp only [BitVec.toNat_sub, BitVec.toNat_ofNat] at hj' hk' ⊢
  omega

/-- A word outside the words of a list reads as before. -/
theorem State.readPhys16_pushList_ne (x : SegReg) (sp : Word) (l : List Word) (s : State) (b : PAddr)
    (h : ∀ c ∈ wordCells b, c ∉ x.pushCells sp l.length) : (s.pushList x sp l).readPhys16 b = s.readPhys16 b := by
  rw [State.readPhys16, State.readPhys16, State.readPhys_pushList x sp l s b (h b (by simp [wordCells])),
    State.readPhys_pushList x sp l s (b + 1) (h (b + 1) (by simp [wordCells]))]

/-- THE WORDS PUSHED READ BACK, in RAM and where none of them wraps (R126, R160). -/
theorem State.readPhys16_pushList (x : SegReg) (sp : Word) (l : List Word) (s : State) (hw : NoWrap sp l.length)
    (hl : l.length < 0x8000) (hram : s.ram (x.pushCells sp l.length)) (k : Nat) (hk : k < l.length) :
    (s.pushList x sp l).readPhys16 (x.lin (sp - BitVec.ofNat 16 (2 * (k + 1)))) = l[k] := by
  induction l generalizing s sp k with
  | nil => exact absurd hk (Nat.not_lt_zero k)
  | cons v l ih =>
    have hcell (j : Nat) (hj : j < l.length + 1) : s.ram (wordCells (x.lin (sp - BitVec.ofNat 16 (2 * (j + 1))))) :=
      fun a ha => hram a (List.mem_flatMap.mpr ⟨j, List.mem_range.mpr hj, ha⟩)
    have hsub (j : Nat) : sp - 2 - BitVec.ofNat 16 (2 * (j + 1)) = sp - BitVec.ofNat 16 (2 * (j + 1 + 1)) :=
      Word.sub_two_sub sp (j + 1)
    rw [State.pushList]
    cases k with
    | zero =>
      have hother : ∀ c ∈ wordCells (x.lin (sp - 2)), c ∉ x.pushCells (sp - 2) l.length := by
        intro c hc hmem
        obtain ⟨j, hj, hcj⟩ := List.mem_flatMap.mp hmem
        rw [hsub] at hcj
        exact x.pushCells_disjoint hw hl (Nat.zero_lt_succ _) (Nat.succ_lt_succ (List.mem_range.mp hj)) (Nat.succ_ne_zero j).symm
          c hc hcj
      exact (State.readPhys16_pushList_ne x (sp - 2) l _ _ hother).trans
        (s.readPhys16_writePhys16 _ v (hcell 0 (Nat.zero_lt_succ _)))
    | succ k =>
      have hw' : NoWrap (sp - 2) l.length := fun j hj => by
        rw [hsub]
        exact hw (j + 1) (Nat.succ_lt_succ hj)
      have hram' : (s.writePhys16 (x.lin (sp - 2)) v).ram (x.pushCells (sp - 2) l.length) := by
        intro a ha
        obtain ⟨j, hj, haj⟩ := List.mem_flatMap.mp ha
        rw [hsub] at haj
        rw [State.writePhys16_memMap]
        exact hcell (j + 1) (Nat.succ_lt_succ (List.mem_range.mp hj)) a haj
      rw [← hsub]
      exact ih (sp - 2) _ hw' (Nat.lt_of_succ_lt hl) hram' k (Nat.lt_of_succ_lt_succ hk)

/-- The state in which a real-mode entry has pushed its three words and loaded CS:IP and the flags (R830). -/
theorem State.enter_real_eq {e : Event} (hp : s.prot = false) (h : s.enter e = .ok t) : s.canPush 3 = true ∧
    ∃ sel off, t = { (s.pushList s.ss s.regs.sp [s.flags.toWord, s.cs.sel, e.ret]).setSp (s.regs.sp - 6) with
      flags := { s.flags with ie := false, tf := false }, cs := s.cs.real sel, ip := off, dec := {} } := by
  rw [State.enter, hp, if_neg Bool.false_ne_true] at h
  simp only [State.enterReal, run_bind_eq_ok, check_ok, exists_const, run_pure, Except.ok.injEq] at h
  obtain ⟨-, hroom, rfl⟩ := h
  refine ⟨hroom, ((((s.pushRaw s.flags.toWord).pushRaw s.cs.sel).pushRaw e.ret).realVector e.vec).2,
    ((((s.pushRaw s.flags.toWord).pushRaw s.cs.sel).pushRaw e.ret).realVector e.vec).1, ?_⟩
  generalize ((((s.pushRaw s.flags.toWord).pushRaw s.cs.sel).pushRaw e.ret).realVector e.vec) = v
  have hpush := State.foldl_pushRaw [s.flags.toWord, s.cs.sel, e.ret] s
  have hcs : (((s.pushRaw s.flags.toWord).pushRaw s.cs.sel).pushRaw e.ret).cs = s.cs := by simp [State.pushRaw]
  have hfl : (((s.pushRaw s.flags.toWord).pushRaw s.cs.sel).pushRaw e.ret).flags = s.flags := by simp [State.pushRaw]
  rw [State.farReal_eq, hfl]
  simp only [hcs]
  rw [show ((s.pushRaw s.flags.toWord).pushRaw s.cs.sel).pushRaw e.ret = _ from hpush]
  rfl

theorem State.pushList_eq (x : SegReg) (sp : Word) (l : List Word) (s : State) :
    s.pushList x sp l = { s with mem := (s.pushList x sp l).mem, hostOut := (s.pushList x sp l).hostOut } := by
  induction l generalizing s sp with
  | nil => rfl
  | cons v l ih =>
    rw [State.pushList, ih]
    exact congrArg (fun u : State => { u with
      mem := ((s.writePhys16 (x.lin (sp - 2)) v).pushList x (sp - 2) l).mem
      hostOut := ((s.writePhys16 (x.lin (sp - 2)) v).pushList x (sp - 2) l).hostOut }) (s.writePhys16_eq _ _)

section
variable (x : SegReg) (sp : Word) (l : List Word) (s : State)

@[simp] theorem State.pushList_regs : (s.pushList x sp l).regs = s.regs := by rw [State.pushList_eq]
@[simp] theorem State.pushList_ss : (s.pushList x sp l).ss = s.ss := by rw [State.pushList_eq]
@[simp] theorem State.pushList_msw : (s.pushList x sp l).msw = s.msw := by rw [State.pushList_eq]
@[simp] theorem State.pushList_memMap : (s.pushList x sp l).memMap = s.memMap := by rw [State.pushList_eq]

end

/-- The FLAGS word holds every flag (R45). -/
theorem Flags.ofWord_toWord (f : Flags) : Flags.ofWord f.toWord = f := by
  obtain ⟨cf, pf, af, zf, sf, tf, ie, df, of, iopl, nt⟩ := f
  have hiopl : ((Flags.mk cf pf af zf sf tf ie df of iopl nt).toWord).extractLsb' 12 2 = iopl := by
    ext i hi
    simp only [BitVec.getElem_extractLsb', Flags.toWord, bit, BitVec.getLsbD_append]
    interval_cases i <;> simp
  simp only [Flags.ofWord, hiopl]
  simp only [Flags.toWord, bit, Flags.mk.injEq, BitVec.getLsbD_append]
  simp

/-- Settles O40: the three words read back. -/
theorem iretUndoesRealModeEntry : Obligations.IretUndoesRealModeEntry := by
  intro s t e hp hram hcs henter
  obtain ⟨hroom, sel, off, ht⟩ := State.enter_real_eq hp henter
  have hwrap := State.noWrap_of_canPush hroom
  rw [State.pushCells_eq] at hram ⊢
  have htp : t.prot = false := by simpa [ht, State.prot] using hp
  have hregs : t.regs = { s.regs with sp := s.regs.sp - 6 } := by simp [ht]
  have hsp : t.regs.sp = s.regs.sp - 6 := by rw [hregs]
  have hss : t.ss = s.ss := by simp [ht]
  have hmem (a : PAddr) : t.readPhys a = (s.pushList s.ss s.regs.sp [s.flags.toWord, s.cs.sel, e.ret]).readPhys a := by
    rw [ht]
    rfl
  have hoff (k : Nat) (hk : k < 3) : s.regs.sp - 6 + BitVec.ofNat 16 (4 - 2 * k) = s.regs.sp - BitVec.ofNat 16 (2 * (k + 1)) := by
    interval_cases k
    · bv_omega
    · bv_omega
    · bv_omega
  have hread (k : Nat) (hk : k < 3) : t.canRead .ss (t.regs.sp + BitVec.ofNat 16 (4 - 2 * k)) 2 = true ∧
      t.readPhys16 (t.stackAddr (BitVec.ofNat 16 (4 - 2 * k))) = [s.flags.toWord, s.cs.sel, e.ret][k]'hk := by
    refine ⟨?_, ?_⟩
    · rw [hsp, hoff k hk, State.canRead, htp, if_neg Bool.false_ne_true]
      exact decide_eq_true (hwrap k hk)
    · rw [State.stackAddr, hsp, hss, hoff k hk, State.readPhys16, hmem, hmem]
      exact State.readPhys16_pushList s.ss s.regs.sp [s.flags.toWord, s.cs.sel, e.ret] s hwrap (by norm_num) hram k hk
  obtain ⟨hr4, hw4⟩ := hread 0 (by decide)
  obtain ⟨hr2, hw2⟩ := hread 1 (by decide)
  obtain ⟨hr0, hw0⟩ := hread 2 (by decide)
  have h := State.iret_real htp (by simpa using hr0) hr2 hr4
  refine ⟨_, (congrArg t.finish h :), ?_, ?_, ?_, hw0, ?_⟩
  · show { t.regs with sp := t.regs.sp + 6 } = s.regs
    simp [hregs]
  · show { Flags.ofWord (t.readPhys16 (t.stackAddr 4)) with iopl := t.flags.iopl, nt := t.flags.nt } = s.flags
    rw [show t.readPhys16 (t.stackAddr 4) = s.flags.toWord from hw4, Flags.ofWord_toWord, ht]
  · show t.cs.real (t.readPhys16 (t.stackAddr 2)) = s.cs
    rw [show t.readPhys16 (t.stackAddr 2) = s.cs.sel from hw2, ht]
    exact hcs.symm
  · intro a ha
    exact (hmem a).trans (State.readPhys_pushList s.ss s.regs.sp _ s a ha)

end Sys2Proof.Machine
end

section
/-!
# Strings and ports (O46, O47, O48)
-/

namespace Sys2Proof.Machine

variable {s t : State} {i : Instr}

/-! One element -/

/-- SI, DI or both stepped past one element of `n` bytes (R550). -/
def State.stepped (s : State) (si di : Bool) (n : Word) : Regs :=
  { s.regs with
    si := if si then s.regs.si + s.strStep n else s.regs.si
    di := if di then s.regs.di + s.strStep n else s.regs.di }

/-- Where the source and the destination element lie (R550). -/
def State.srcAddr (s : State) : PAddr := (s.seg (s.override .ds)).lin s.regs.si

def State.dstAddr (s : State) : PAddr := s.es.lin s.regs.di

section
variable {u : State} (n : Word) (hr : u.regs = s.regs) (hd : u.flags.df = s.flags.df)
include hd

theorem State.strStep_congr : u.strStep n = s.strStep n := by rw [State.strStep, State.strStep, hd]

include hr

theorem State.advSi_eq : u.advSi n = { u with regs := s.stepped true false n } := by
  rw [State.advSi, State.set16, State.strStep_congr n hd, hr]
  rfl

theorem State.advDi_eq : u.advDi n = { u with regs := s.stepped false true n } := by
  rw [State.advDi, State.set16, State.strStep_congr n hd, hr]
  rfl

theorem State.advBoth_eq : (u.advSi n).advDi n = { u with regs := s.stepped true true n } := by
  rw [State.advSi_eq n hr hd, State.advDi, State.set16]
  have : { u with regs := s.stepped true false n }.strStep n = s.strStep n := State.strStep_congr n hd
  rw [this]
  rfl

end

/-! The string primitives, when their references pass (R560-R566) -/

section
variable (h1 : s.canRead (s.override .ds) s.regs.si 1 = true) (h2 : s.canRead (s.override .ds) s.regs.si 2 = true)
  (hr1 : s.canRead .es s.regs.di 1 = true) (hr2 : s.canRead .es s.regs.di 2 = true)
  (hw1 : s.canWrite .es s.regs.di 1 = true) (hw2 : s.canWrite .es s.regs.di 2 = true) (hio : s.ioAllowed = true)

include h1 hw1 in
theorem State.movs8_ok :
    s.movs8 = .ok { s.writePhys s.dstAddr (s.readPhys s.srcAddr) with regs := s.stepped true true 1 } := by
  rw [State.movs8, State.srcSeg, s.readSeg8_ok _ _ h1, run_bind_ok, s.writeSeg8_ok _ _ _ hw1, run_bind_ok, run_pure,
    State.advBoth_eq (s := s) 1 (s.writePhys_regs _ _) (by simp)]
  rfl

include h2 hw2 in
theorem State.movs16_ok :
    s.movs16 = .ok { s.writePhys16 s.dstAddr (s.readPhys16 s.srcAddr) with regs := s.stepped true true 2 } := by
  rw [State.movs16, State.srcSeg, s.readSeg16_ok _ _ h2, run_bind_ok, s.writeSeg16_ok _ _ _ hw2, run_bind_ok, run_pure,
    State.advBoth_eq (s := s) 2 (s.writePhys16_regs _ _) (by simp)]
  rfl

include h1 hr1 in
theorem State.cmps8_ok :
    s.cmps8 = .ok { s with
      regs := s.stepped true true 1
      flags := s.flags.sub (s.readPhys s.srcAddr) ((s.reading .second).readPhys s.dstAddr) false } := by
  have hr : (s.reading .second).canRead .es s.regs.di 1 = true := hr1
  rw [State.cmps8, State.srcSeg, s.readSeg8_ok _ _ h1, run_bind_ok, (s.reading .second).readSeg8_ok _ _ hr, run_bind_ok,
    run_pure]
  rfl

include h2 hr2 in
theorem State.cmps16_ok :
    s.cmps16 = .ok { s with
      regs := s.stepped true true 2
      flags := s.flags.sub (s.readPhys16 s.srcAddr) ((s.reading .second).readPhys16 s.dstAddr) false } := by
  have hr : (s.reading .second).canRead .es s.regs.di 2 = true := hr2
  rw [State.cmps16, State.srcSeg, s.readSeg16_ok _ _ h2, run_bind_ok, (s.reading .second).readSeg16_ok _ _ hr, run_bind_ok,
    run_pure]
  rfl

include hr1 in
theorem State.scas8_ok :
    s.scas8 = .ok { s with
      regs := s.stepped false true 1
      flags := s.flags.sub (s.get8 .al) (s.readPhys s.dstAddr) false } := by
  rw [State.scas8, s.readSeg8_ok _ _ hr1, run_bind_ok, run_pure]
  rfl

include hr2 in
theorem State.scas16_ok :
    s.scas16 = .ok { s with
      regs := s.stepped false true 2
      flags := s.flags.sub (s.get16 .ax) (s.readPhys16 s.dstAddr) false } := by
  rw [State.scas16, s.readSeg16_ok _ _ hr2, run_bind_ok, run_pure]
  rfl

include h1 in
theorem State.lods8_ok :
    s.lods8 = .ok ({ s with regs := s.stepped true false 1 }.set8 .al (s.readPhys s.srcAddr)) := by
  rw [State.lods8, State.srcSeg, s.readSeg8_ok _ _ h1, run_bind_ok, run_pure]
  rfl

include h2 in
theorem State.lods16_ok :
    s.lods16 = .ok { s with regs := { s.stepped true false 2 with ax := s.readPhys16 s.srcAddr } } := by
  rw [State.lods16, State.srcSeg, s.readSeg16_ok _ _ h2, run_bind_ok, run_pure]
  rfl

include hw1 in
theorem State.stos8_ok :
    s.stos8 = .ok { s.writePhys s.dstAddr (s.get8 .al) with regs := s.stepped false true 1 } := by
  rw [State.stos8, s.writeSeg8_ok _ _ _ hw1, run_bind_ok, run_pure,
    State.advDi_eq (s := s) 1 (s.writePhys_regs _ _) (by simp)]
  rfl

include hw2 in
theorem State.stos16_ok :
    s.stos16 = .ok { s.writePhys16 s.dstAddr (s.get16 .ax) with regs := s.stepped false true 2 } := by
  rw [State.stos16, s.writeSeg16_ok _ _ _ hw2, run_bind_ok, run_pure,
    State.advDi_eq (s := s) 2 (s.writePhys16_regs _ _) (by simp)]
  rfl

include hw1 hio in
theorem State.ins8_ok :
    s.ins8 = .ok { s.writePhys s.dstAddr (s.portIn8 s.regs.dx) with regs := s.stepped false true 1 } := by
  rw [State.ins8, hio, check_true, run_bind_ok, s.writeSeg8_ok _ _ _ hw1, run_bind_ok, run_pure,
    State.advDi_eq (s := s) 1 (s.writePhys_regs _ _) (by simp)]
  rfl

include hw2 hio in
theorem State.ins16_ok :
    s.ins16 = .ok { s.writePhys16 s.dstAddr (s.portIn16 s.regs.dx) with regs := s.stepped false true 2 } := by
  rw [State.ins16, hio, check_true, run_bind_ok, s.writeSeg16_ok _ _ _ hw2, run_bind_ok, run_pure,
    State.advDi_eq (s := s) 2 (s.writePhys16_regs _ _) (by simp)]
  rfl

include h1 hio in
theorem State.outs8_ok :
    s.outs8 = .ok { s.portOut8 s.regs.dx (s.readPhys s.srcAddr) with regs := s.stepped true false 1 } := by
  rw [State.outs8, hio, check_true, run_bind_ok, State.srcSeg, s.readSeg8_ok _ _ h1, run_bind_ok, run_pure]
  rfl

include h2 hio in
theorem State.outs16_ok :
    s.outs16 = .ok { s.portOut16 s.regs.dx (s.readPhys16 s.srcAddr) with regs := s.stepped true false 2 } := by
  rw [State.outs16, hio, check_true, run_bind_ok, State.srcSeg, s.readSeg16_ok _ _ h2, run_bind_ok, run_pure]
  rfl

end

/-! Without a repeat prefix -/

theorem State.moving_once {op : Run State} (hrep : s.dec.rep = none) (h : op = .ok t) : s.moving op = .ok t.advance := by
  rw [State.moving, hrep, h]
  rfl

theorem State.comparing_once {op : Run State} (hrep : s.dec.rep = none) (h : op = .ok t) :
    s.comparing op = .ok t.advance := by
  rw [State.comparing, hrep, h]
  rfl

/-- A string instruction that stores its element. -/
theorem Does.of_stringStore {op : Run State} {u : State} {cells : List PAddr} {g : Regs} (hi : exec i s = s.finish (s.moving op))
    (hrep : s.dec.rep = none) (h : op = .ok { u with regs := g }) (hm : ∀ a, a ∉ cells → u.readPhys a = s.readPhys a) :
    Does i s { u with regs := g }.advance cells :=
  .of_run hi (State.moving_once hrep h) (frame_of hm rfl rfl rfl rfl)

/-- Settles O46. -/
theorem stringPrimitives : Obligations.StringPrimitives := by
  intro s hrep x src dst by_ si' di' both
  have hsub {w : Nat} (hw : 0 < w) (a b : BitVec w) : s.flags.sub a b false = (s.flags.difference a b false).2 :=
    (snd_of_pair (Flags.sub_eq hw s.flags a b false)).symm
  refine ⟨fun h hw => ?movsb, fun h hw => ?movsw, fun h hr => ?cmpsb, fun h hr => ?cmpsw, fun hr => ?scasb,
    fun hr => ?scasw, fun h => ?lodsb, fun h => ?lodsw, fun hw => ?stosb, fun hw => ?stosw⟩
  case movsb => exact .of_stringStore rfl hrep (State.movs8_ok h hw) fun a ha => s.readPhys_writePhys_ne _ _ _ (by simpa using ha)
  case movsw => exact .of_stringStore rfl hrep (State.movs16_ok h hw) fun a ha => s.readPhys_writePhys16_ne _ _ _ ha
  case cmpsb =>
    rw [← hsub (by decide)]
    exact .of_run_keep rfl (State.comparing_once hrep (State.cmps8_ok h hr)) rfl rfl rfl rfl
  case cmpsw =>
    rw [← hsub (by decide)]
    exact .of_run_keep rfl (State.comparing_once hrep (State.cmps16_ok h hr)) rfl rfl rfl rfl
  case scasb =>
    rw [← hsub (by decide)]
    exact .of_run_keep rfl (State.comparing_once hrep (State.scas8_ok hr)) rfl rfl rfl rfl
  case scasw =>
    rw [← hsub (by decide)]
    exact .of_run_keep rfl (State.comparing_once hrep (State.scas16_ok hr)) rfl rfl rfl rfl
  case lodsb => exact .of_run_keep rfl (State.moving_once hrep (State.lods8_ok h)) rfl rfl rfl rfl
  case lodsw => exact .of_run_keep rfl (State.moving_once hrep (State.lods16_ok h)) rfl rfl rfl rfl
  case stosb => exact .of_stringStore rfl hrep (State.stos8_ok hw) fun a ha => s.readPhys_writePhys_ne _ _ _ (by simpa using ha)
  case stosw => exact .of_stringStore rfl hrep (State.stos16_ok hw) fun a ha => s.readPhys_writePhys16_ne _ _ _ ha

/-! Ports -/

section
variable (hio : s.ioAllowed = true) (p : Word)
include hio

theorem State.in8_ok : s.in8 p = .ok (s.set8 .al (s.portIn8 p)).advance := by rw [State.in8, hio]; rfl
theorem State.in16_ok : s.in16 p = .ok (s.set16 .ax (s.portIn16 p)).advance := by rw [State.in16, hio]; rfl
theorem State.out8_ok : s.out8 p = .ok (s.portOut8 p (s.get8 .al)).advance := by rw [State.out8, hio]; rfl
theorem State.out16_ok : s.out16 p = .ok (s.portOut16 p (s.get16 .ax)).advance := by rw [State.out16, hio]; rfl

end

/-- Settles O48. -/
theorem portInstructions : Obligations.PortInstructions := by
  refine ⟨fun s hlevel => ?ports, fun s hrep hlevel => ?strings⟩
  case ports =>
    have hio := State.ioAllowed_of hlevel
    intro dx out8 out16
    refine ⟨fun n => ?immediate, .of_run_keep rfl (State.in8_ok hio dx) rfl rfl rfl rfl,
      .of_run_keep rfl (State.in16_ok hio dx) rfl rfl rfl rfl, .of_run_keep rfl (State.out8_ok hio dx) rfl rfl rfl rfl,
      .of_run_keep rfl (State.out16_ok hio dx) rfl rfl rfl rfl⟩
    intro p
    have hp : p = n.setWidth 16 := BitVec.ofNat_toNat ..
    rw [hp]
    exact ⟨.of_run_keep rfl (State.in8_ok hio _) rfl rfl rfl rfl, .of_run_keep rfl (State.in16_ok hio _) rfl rfl rfl rfl,
      .of_run_keep rfl (State.out8_ok hio _) rfl rfl rfl rfl, .of_run_keep rfl (State.out16_ok hio _) rfl rfl rfl rfl⟩
  case strings =>
    have hio := State.ioAllowed_of hlevel
    intro x src dst by_ si' di'
    refine ⟨fun hw => ?insb, fun hw => ?insw, fun h => ?outsb, fun h => ?outsw⟩
    case insb =>
      exact .of_stringStore rfl hrep (State.ins8_ok hw hio) fun a ha => s.readPhys_writePhys_ne _ _ _ (by simpa using ha)
    case insw =>
      exact .of_stringStore rfl hrep (State.ins16_ok hw hio) fun a ha => s.readPhys_writePhys16_ne _ _ _ ha
    case outsb => exact .of_run_keep rfl (State.moving_once hrep (State.outs8_ok h hio)) rfl rfl rfl rfl
    case outsw => exact .of_run_keep rfl (State.moving_once hrep (State.outs16_ok h hio)) rfl rfl rfl rfl

/-! Repeats -/

/-- The state with what is remembered of the instruction replaced. -/
def State.withDec (s : State) (d : Dec) : State := { s with dec := d }

/-- The state in which no repeat prefix is remembered. -/
def State.unrepeated (s : State) : State := s.withDec { s.dec with rep := none }

theorem State.writePhys_withDec (d : Dec) (a : PAddr) (v : Byte) :
    (s.withDec d).writePhys a v = (s.writePhys a v).withDec d := by
  unfold State.writePhys State.withDec
  cases kindAt s.memMap a <;> rfl

theorem State.writePhys16_withDec (d : Dec) (a : PAddr) (v : Word) :
    (s.withDec d).writePhys16 a v = (s.writePhys16 a v).withDec d := by
  rw [State.writePhys16, State.writePhys_withDec, State.writePhys_withDec]
  rfl

/-- ONE ELEMENT of a string instruction: the operation answers, does not look at a repeat prefix, and leaves alone what
the repeat needs (R551). -/
def Element (op : State → Run State) (s : State) : Prop :=
  ∃ t, op s = .ok t ∧ op s.unrepeated = .ok (t.withDec s.unrepeated.dec) ∧ t.ip = s.ip ∧ t.dec = s.dec ∧
    t.regs.cx = s.regs.cx

/-- What a string instruction behind a repeat prefix comes to (R551, R552). -/
def Repeats (s : State) (i : Instr) (passes : Bool) : Prop :=
  let compares := i ∈ [Instr.cmpsb, .cmpsw, .scasb, .scasw]
  (s.dec.rep = some .rep ∨ (s.dec.rep = some .repne ∧ compares)) →
  (s.regs.cx = 0 → Does i s s.advance []) ∧
  (s.regs.cx ≠ 0 → passes = true →
    ∃ t, exec i { s with dec := { s.dec with rep := none } } = .next t ∧
      let u := { t with regs := { t.regs with cx := s.regs.cx - 1 } }
      let ends := s.regs.cx = 1 ∨ (compares ∧
        (s.dec.rep = some .rep ∧ t.flags.zf = false ∨ s.dec.rep = some .repne ∧ t.flags.zf = true))
      (ends → exec i s = .next u) ∧
      (¬ends → exec i s = .next { u with ip := s.ip, dec := { phase := .repeating } }))

/-- A repeated instruction with CX not zero: the element, and then the end of the iteration, which `stops` decides by
ZF (R551, R552). -/
theorem repeats_of {op : State → Run State} {stops : Bool → Bool}
    (hone : exec i s.unrepeated = s.unrepeated.finish (op s.unrepeated >>= fun t => pure t.advance))
    (hmany : exec i s = s.finish (op s >>= fun t => pure (t.decCx.iterated (stops t.flags.zf)))) (hel : Element op s) :
    ∃ t, exec i s.unrepeated = .next t ∧
      let u := { t with regs := { t.regs with cx := s.regs.cx - 1 } }
      (s.regs.cx = 1 ∨ stops t.flags.zf = true → exec i s = .next u) ∧
      (¬(s.regs.cx = 1 ∨ stops t.flags.zf = true) → exec i s = .next { u with ip := s.ip, dec := { phase := .repeating } }) := by
  obtain ⟨t, ht, ht', hip, hdec, hcx⟩ := hel
  have hlast : (stops t.flags.zf || t.decCx.regs.cx == 0) = true ↔ s.regs.cx = 1 ∨ stops t.flags.zf = true := by
    have : t.decCx.regs.cx = s.regs.cx - 1 := congrArg (fun c => c - 1) hcx
    rw [Bool.or_eq_true, beq_iff_eq, this, BitVec.sub_eq_iff_eq_add, or_comm]
    rfl
  have hnext : (t.withDec s.unrepeated.dec).nextIp = t.nextIp := by
    show t.ip + BitVec.ofNat 16 s.dec.len = t.ip + BitVec.ofNat 16 t.dec.len
    rw [hdec]
  refine ⟨(t.withDec s.unrepeated.dec).advance, ?once, fun he => ?last, fun he => ?more⟩
  case once => rw [hone, ht', run_bind_ok, run_pure, State.finish_ok]
  case last =>
    rw [hmany, ht, run_bind_ok, run_pure, State.finish_ok, State.iterated, if_pos (hlast.mpr he), State.advance,
      State.advance, hnext, ← hcx]
    rfl
  case more =>
    rw [hmany, ht, run_bind_ok, run_pure, State.finish_ok, State.iterated, if_neg fun h => he (hlast.mp h), ← hcx, ← hip]
    rfl

/-- The string instructions that compare nothing (R551, R553). -/
theorem repeats_moving {op : State → Run State} {passes : Bool} (hi : ∀ u, exec i u = u.finish (u.moving (op u)))
    (hn : i ∉ [Instr.cmpsb, .cmpsw, .scasb, .scasw]) (hel : passes = true → Element op s) : Repeats s i passes := by
  intro hrep
  replace hrep := hrep.resolve_right fun h => hn h.2
  refine ⟨fun hcx => ?zero, fun hcx hp => ?element⟩
  case zero => exact .of_run_keep (hi s) (by rw [State.moving, hrep]; exact if_pos hcx) rfl rfl rfl rfl
  case element =>
    have hone : exec i s.unrepeated = s.unrepeated.finish (op s.unrepeated >>= fun t => pure t.advance) := hi _
    have hmany : exec i s = s.finish (op s >>= fun t => pure (t.decCx.iterated false)) := by
      rw [hi, State.moving, hrep]
      exact congrArg _ (if_neg hcx)
    obtain ⟨t, ht, hlast, hmore⟩ := repeats_of (stops := fun _ => false) hone hmany (hel hp)
    refine ⟨t, ht, fun he => hlast (he.imp_right fun h => absurd h.1 hn), fun he => hmore ?_⟩
    rintro (h | h)
    · exact he (.inl h)
    · cases h

/-- The string instructions that compare (R551). -/
theorem repeats_comparing {op : State → Run State} {passes : Bool} (hi : ∀ u, exec i u = u.finish (u.comparing (op u)))
    (hc : i ∈ [Instr.cmpsb, .cmpsw, .scasb, .scasw]) (hel : passes = true → Element op s) : Repeats s i passes := by
  intro hrep
  obtain ⟨r, hr⟩ : ∃ r, s.dec.rep = some r := by
    rcases hrep with h | ⟨h, -⟩
    · exact ⟨_, h⟩
    · exact ⟨_, h⟩
  refine ⟨fun hcx => ?zero, fun hcx hp => ?element⟩
  case zero => exact .of_run_keep (hi s) (by rw [State.comparing, hr]; exact if_pos hcx) rfl rfl rfl rfl
  case element =>
    have hone : exec i s.unrepeated = s.unrepeated.finish (op s.unrepeated >>= fun t => pure t.advance) := hi _
    have hmany : exec i s = s.finish (op s >>= fun t => pure (t.decCx.iterated (r.endsBy t.flags.zf))) := by
      rw [hi, State.comparing, hr]
      exact congrArg _ (if_neg hcx)
    obtain ⟨t, ht, hlast, hmore⟩ := repeats_of hone hmany (hel hp)
    have hends : r.endsBy t.flags.zf = true ↔
        i ∈ [Instr.cmpsb, .cmpsw, .scasb, .scasw] ∧ (s.dec.rep = some .rep ∧ t.flags.zf = false ∨ s.dec.rep = some .repne ∧ t.flags.zf = true) := by
      cases r <;> simp only [Rep.endsBy, hr, hc] <;> simp
    rw [hends] at hlast hmore
    exact ⟨t, ht, hlast, hmore⟩

/-! Each operation is an element where its references pass -/

/-- An operation that stores a byte and steps registers. -/
theorem Element.of_store8 {op : State → Run State} {a : PAddr} {v : Byte} {g : Regs}
    (h : op s = .ok { s.writePhys a v with regs := g })
    (h' : op s.unrepeated = .ok { s.unrepeated.writePhys a v with regs := g }) (hcx : g.cx = s.regs.cx) : Element op s := by
  rw [State.unrepeated, State.writePhys_withDec] at h'
  exact ⟨_, h, h', s.writePhys_ip a v, s.writePhys_dec a v, hcx⟩

/-- An operation that stores a word and steps registers. -/
theorem Element.of_store16 {op : State → Run State} {a : PAddr} {v : Word} {g : Regs}
    (h : op s = .ok { s.writePhys16 a v with regs := g })
    (h' : op s.unrepeated = .ok { s.unrepeated.writePhys16 a v with regs := g }) (hcx : g.cx = s.regs.cx) :
    Element op s := by
  rw [State.unrepeated, State.writePhys16_withDec] at h'
  exact ⟨_, h, h', s.writePhys16_ip a v, s.writePhys16_dec a v, hcx⟩

/-- An operation that stores nothing in memory. -/
theorem Element.of_keep {op : State → Run State} (h : op s = .ok t) (h' : op s.unrepeated = .ok (t.withDec s.unrepeated.dec))
    (hip : t.ip = s.ip) (hdec : t.dec = s.dec) (hcx : t.regs.cx = s.regs.cx) : Element op s :=
  ⟨t, h, h', hip, hdec, hcx⟩

theorem and_of {b c : Bool} (h : (b && c) = true) : b = true ∧ c = true := Bool.and_eq_true_iff.mp h

/-- Settles O47. -/
theorem repeatedStrings : Obligations.RepeatedStrings := by
  refine ⟨fun s => ?repeats, fun s hrep => ?refused⟩
  case repeats =>
    show ∀ p ∈ s.stringElements, Repeats s p.1 p.2
    simp only [State.stringElements, List.forall_mem_cons, List.not_mem_nil, false_imp_iff, implies_true, and_true]
    refine ⟨?movsb, ?movsw, ?cmpsb, ?cmpsw, ?scasb, ?scasw, ?lodsb, ?lodsw, ?stosb, ?stosw, ?insb, ?insw, ?outsb, ?outsw⟩
    case movsb =>
      exact repeats_moving (fun _ => rfl) (by simp) fun h =>
        .of_store8 (State.movs8_ok (and_of h).1 (and_of h).2)
          (State.movs8_ok (s := s.unrepeated) (and_of h).1 (and_of h).2) rfl
    case movsw =>
      exact repeats_moving (fun _ => rfl) (by simp) fun h =>
        .of_store16 (State.movs16_ok (and_of h).1 (and_of h).2)
          (State.movs16_ok (s := s.unrepeated) (and_of h).1 (and_of h).2) rfl
    case cmpsb =>
      exact repeats_comparing (fun _ => rfl) (by simp) fun h =>
        .of_keep (State.cmps8_ok (and_of h).1 (and_of h).2)
          (State.cmps8_ok (s := s.unrepeated) (and_of h).1 (and_of h).2) rfl rfl rfl
    case cmpsw =>
      exact repeats_comparing (fun _ => rfl) (by simp) fun h =>
        .of_keep (State.cmps16_ok (and_of h).1 (and_of h).2)
          (State.cmps16_ok (s := s.unrepeated) (and_of h).1 (and_of h).2) rfl rfl rfl
    case scasb =>
      exact repeats_comparing (fun _ => rfl) (by simp) fun h =>
        .of_keep (State.scas8_ok h)
          (State.scas8_ok (s := s.unrepeated) h) rfl rfl rfl
    case scasw =>
      exact repeats_comparing (fun _ => rfl) (by simp) fun h =>
        .of_keep (State.scas16_ok h)
          (State.scas16_ok (s := s.unrepeated) h) rfl rfl rfl
    case lodsb =>
      exact repeats_moving (fun _ => rfl) (by simp) fun h =>
        .of_keep (State.lods8_ok h)
          (State.lods8_ok (s := s.unrepeated) h) rfl rfl rfl
    case lodsw =>
      exact repeats_moving (fun _ => rfl) (by simp) fun h =>
        .of_keep (State.lods16_ok h)
          (State.lods16_ok (s := s.unrepeated) h) rfl rfl rfl
    case stosb =>
      exact repeats_moving (fun _ => rfl) (by simp) fun h =>
        .of_store8 (State.stos8_ok h)
          (State.stos8_ok (s := s.unrepeated) h) rfl
    case stosw =>
      exact repeats_moving (fun _ => rfl) (by simp) fun h =>
        .of_store16 (State.stos16_ok h)
          (State.stos16_ok (s := s.unrepeated) h) rfl
    case insb =>
      exact repeats_moving (fun _ => rfl) (by simp) fun h =>
        .of_store8 (State.ins8_ok (and_of h).2 (and_of h).1)
          (State.ins8_ok (s := s.unrepeated) (and_of h).2 (and_of h).1) rfl
    case insw =>
      exact repeats_moving (fun _ => rfl) (by simp) fun h =>
        .of_store16 (State.ins16_ok (and_of h).2 (and_of h).1)
          (State.ins16_ok (s := s.unrepeated) (and_of h).2 (and_of h).1) rfl
    case outsb =>
      exact repeats_moving (fun _ => rfl) (by simp) fun h =>
        .of_keep (State.outs8_ok (and_of h).2 (and_of h).1)
          (State.outs8_ok (s := s.unrepeated) (and_of h).2 (and_of h).1) rfl rfl rfl
    case outsw =>
      exact repeats_moving (fun _ => rfl) (by simp) fun h =>
        .of_keep (State.outs16_ok (and_of h).2 (and_of h).1)
          (State.outs16_ok (s := s.unrepeated) (and_of h).2 (and_of h).1) rfl rfl rfl
  case refused =>
    have hmoving {op : Run State} : s.finish (s.moving op) = .refused .repneNotListed := by
      rw [State.moving, hrep]
      rfl
    simp only [List.forall_mem_cons, List.not_mem_nil, false_imp_iff, implies_true, and_true]
    exact ⟨hmoving, hmoving, hmoving, hmoving, hmoving, hmoving, hmoving, hmoving, hmoving, hmoving⟩

end Sys2Proof.Machine
end

section
/-!
# Selectors and lists of tests

The numbers of a selector, and a meaning's checks as the list of tests the statements write: `passTests` makes them in
order, so that a meaning is its tests and then what it comes to.
-/

namespace Sys2Proof.Machine

variable {s t : State} {i : Instr}

/-! Selectors as numbers -/

theorem rplOf_toNat (sel : Word) : (rplOf sel).toNat = sel.toNat % 4 := by
  simp [rplOf]

theorem selector_high_toNat (sel : Word) : (sel.extractLsb' 2 14).toNat = sel.toNat / 4 := by
  have := sel.isLt
  rw [BitVec.extractLsb'_toNat, Nat.shiftRight_eq_div_pow]
  omega

/-- A selector with another RPL, as a number. -/
theorem withRpl_eq (sel : Word) (p : BitVec 2) :
    withRpl sel p = BitVec.ofNat 16 (sel.toNat - sel.toNat % 4 + p.toNat) := by
  have happend : withRpl sel p = sel.extractLsb' 2 14 ++ p := by
    unfold withRpl
    apply BitVec.eq_of_getLsbD_eq
    intro i hi
    rw [BitVec.getLsbD_append]
    interval_cases i <;> simp
  have := p.isLt
  rw [happend]
  apply BitVec.eq_of_toNat_eq
  rw [BitVec.toNat_append, ← Nat.shiftLeft_add_eq_or_of_lt p.isLt, Nat.shiftLeft_eq, selector_high_toNat, BitVec.toNat_ofNat]
  omega

/-- A selector with its own RPL. -/
theorem withRpl_self (sel : Word) : withRpl sel (rplOf sel) = sel := by
  have := sel.isLt
  apply BitVec.eq_of_toNat_eq
  rw [withRpl_eq, rplOf_toNat, BitVec.toNat_ofNat]
  omega

/-- The null selectors are 0 to 3 (R134). -/
theorem isNull_eq (sel : Word) : isNull sel = decide (sel.toNat < 4) := by
  have hmask : sel &&& 0xFFFC = withRpl sel 0 := by
    unfold withRpl
    simp
  have := sel.isLt
  rw [isNull, hmask, withRpl_eq, Bool.eq_iff_iff, beq_iff_eq, decide_eq_true_iff, ← BitVec.toNat_inj]
  simp only [BitVec.toNat_ofNat, BitVec.ofNat_eq_ofNat]
  omega

theorem not_isNull_eq (sel : Word) : (!isNull sel) = decide (4 ≤ sel.toNat) := by
  simp only [isNull_eq, ← decide_not, Nat.not_lt]

/-- The index of a selector as a number. -/
theorem selector_index_toNat (sel : Word) : (sel &&& (0xFFF8 : Word)).toNat = sel.toNat / 8 * 8 := by
  have h := congrArg BitVec.toNat (selector_index sel)
  have := sel.isLt
  rw [BitVec.toNat_setWidth, BitVec.toNat_ofNat, Nat.mod_eq_of_lt (by have := (sel &&& (0xFFF8 : Word)).isLt; omega)] at h
  omega

/-- Privilege levels compared as numbers. -/
theorem gateAllowed_eq (sel : Word) (d : Desc) :
    (decide (s.cpl ≤ arDpl d.ar) && decide (rplOf sel ≤ arDpl d.ar)) = s.mayUse sel d := by
  simp only [State.mayUse, BitVec.le_def]

/-! Descriptors -/

/-- What a selector that names a descriptor says: it lies inside its table, at its index (R135). -/
theorem State.desc?_eq (s : State) (sel : Word) : s.desc? sel = if s.inTable sel then some (s.entry sel) else none := by
  have h := s.desc_eq sel (excGp 0)
  unfold State.desc at h
  cases hd : s.desc? sel with
  | none => simp [State.inTable, hd]
  | some d =>
    have hin : s.inTable sel = true := by simp [State.inTable, hd]
    rw [hd, hin] at h
    simpa [hin] using h

theorem State.desc?_some {sel : Word} {d : Desc} (h : s.desc? sel = some d) : s.inTable sel = true ∧ s.entry sel = d := by
  have hin : s.inTable sel = true := by simp [State.inTable, h]
  rw [s.desc?_eq, hin, if_pos rfl] at h
  exact ⟨hin, Option.some.inj h⟩

theorem State.desc?_none {sel : Word} (h : s.desc? sel = none) : s.inTable sel = false := by simp [State.inTable, h]

/-- A selector in the GDT: without TI, inside its table. -/
theorem State.inGdt_eq (s : State) (sel : Word) : s.inGdt sel = (!sel.getLsbD 2 && s.inTable sel) := by
  cases hti : sel.getLsbD 2 with
  | true => simp [State.inGdt, hti]
  | false =>
    simp only [State.inGdt, hti, State.inTable, State.desc?, State.tableOf, Bool.not_false, Bool.true_and,
      Bool.false_eq_true, if_false]
    split <;> simp_all

theorem State.gdtAddr_eq (s : State) (sel : Word) : s.gdtAddr sel = s.gdtr.base + BitVec.ofNat 24 (sel.toNat / 8 * 8) := by
  rw [State.gdtAddr, selector_index]

theorem State.entry_gdt {sel : Word} (h : sel.getLsbD 2 = false) : s.entry sel = s.descAt (s.gdtAddr sel) := by
  rw [State.entry, h, State.gdtAddr_eq]
  rfl

/-! Lists of tests -/

/-- Tests made in their order. -/
def passTests : List Test → Run Unit
  | [] => .ok ()
  | t :: l => check t.ok t.stop >>= fun _ => passTests l

theorem passTests_cons {α : Type} (t : Test) (l : List Test) (f : Unit → Run α) :
    (passTests (t :: l) >>= f) = (check t.ok t.stop >>= fun _ => passTests l >>= f) := by
  obtain ⟨b, e⟩ := t
  cases b <;> rfl

theorem passTests_nil {α : Type} (f : Unit → Run α) : (passTests [] >>= f) = f () := rfl

theorem passTests_append {α : Type} (l m : List Test) (f : Unit → Run α) :
    (passTests (l ++ m) >>= f) = (passTests l >>= fun _ => passTests m >>= f) := by
  induction l with
  | nil => rfl
  | cons t l ih => rw [List.cons_append, passTests_cons, ih, passTests_cons]

/-- Tests of which one fails stop with what the first of them says. -/
theorem passTests_error {l : List Test} {e : Stop} (h : firstFailing l = some e) : passTests l = .error e := by
  induction l with
  | nil => cases h
  | cons t l ih =>
    obtain ⟨b, x⟩ := t
    cases b with
    | true => exact ih (by simpa using h)
    | false => simpa [passTests] using h

/-- Tests that all pass. -/
theorem passTests_ok {l : List Test} (h : ∀ t ∈ l, t.ok = true) : passTests l = .ok () := by
  induction l with
  | nil => rfl
  | cons t l ih =>
    rw [List.forall_mem_cons] at h
    rw [passTests, h.1, check_true, run_bind_ok, ih h.2]

/-- Two checks that raise the same are one. -/
theorem check_and {α : Type} (b c : Bool) (e : Stop) (f : Unit → Run α) :
    (check (b && c) e >>= f) = (check b e >>= fun _ => check c e >>= f) := by
  cases b <;> rfl

/-- What an instruction comes to whose meaning stops. -/
theorem State.finish_error (s : State) (e : Stop) : s.finish (.error e) = s.stopped e := by
  cases e <;> rfl

/-- An instruction that is its tests and then something else comes to what the first failing test says. -/
theorem State.Tests.of_run {l : List Test} {f : Unit → Run State} (h : exec i s = s.finish (passTests l >>= f)) :
    s.Tests i l := fun e he => by
  rw [h, passTests_error he, run_bind_error, s.finish_error]

/-- Reading a system descriptor that must stand in the GDT, as its tests (R478, R676, R678, R841). -/
theorem State.system_checks {α : Type} (s : State) (k : BitVec 4) (sel x : Word) (f : Desc → Run α) :
    (do check (s.inGdt sel) (excGp (selCode sel + x))
        check (arIsType (s.descAt (s.gdtAddr sel)).ar k) (excGp (selCode sel + x))
        check (arPresent (s.descAt (s.gdtAddr sel)).ar) (excNp (selCode sel + x))
        f (s.descAt (s.gdtAddr sel))) =
      (passTests (s.systemTests k sel x) >>= fun _ => f (s.entry sel)) := by
  rw [State.systemTests, State.inGdt_eq]
  simp only [passTests_cons, passTests_nil]
  cases hti : sel.getLsbD 2 with
  | true => rfl
  | false =>
    rw [State.entry_gdt hti]
    rfl

end Sys2Proof.Machine
end

section
/-!
# The system instructions (O53, O54, O55, O56, O57)
-/

namespace Sys2Proof.Machine

variable {s t : State} {i : Instr}

theorem State.privileged_ok (h : s.cpl = 0) : s.privileged = .ok () := by rw [State.privileged, h]; rfl

theorem State.privileged_fault (h : s.cpl ≠ 0) : s.privileged = .error (excGp 0) := by
  rw [State.privileged, beq_eq_false_iff_ne.mpr h]
  rfl

theorem State.protOnly_ok (h : s.prot = true) : s.protOnly = .ok () := by rw [State.protOnly, h]; rfl

theorem State.protOnly_fault (h : s.prot = false) : s.protOnly = .error excUd := by rw [State.protOnly, h]; rfl

/-! LGDT, LIDT, SGDT, SIDT -/

theorem Word.lo_ofBytes (lo hi : Byte) : (Word.ofBytes lo hi).lo = lo := by
  apply BitVec.eq_of_toNat_eq
  rw [Word.lo_toNat, Word.ofBytes_toNat]
  have := lo.isLt
  omega

/-- The six bytes of a table register (R671). -/
theorem State.readTable_ok {m : Mem} (h : s.cpl = 0) (hr : s.canReadMem m 6 = true) : s.readTable (.mem m) =
    .ok { limit := s.readPhys16 (s.addr m), base := s.readPhys (s.addr m + 4) ++ s.readPhys16 (s.addr m + 2) } := by
  have h48 := s.readSeg48_ok (s.eaSeg m) (s.eaOff m) hr
  simp only [State.readTable, E16.memOnly, run_bind_ok, State.privileged_ok h, h48, run_pure]
  rw [show (s.readPhys16 ((s.seg (s.eaSeg m)).lin (s.eaOff m) + 4)).lo = s.readPhys (s.addr m + 4) from Word.lo_ofBytes _ _]
  rfl

theorem not_mem_wordCells {a b : PAddr} (h0 : b ≠ a) (h1 : b ≠ a + 1) : b ∉ wordCells a := by
  simp only [wordCells, List.mem_cons, List.not_mem_nil, or_false, not_or]
  exact ⟨h0, h1⟩

/-- The state with the six bytes of a table register stored (R671, R674, R675). -/
def State.putTable (s : State) (a : PAddr) (r : TableReg) (pad : Byte) : State :=
  (((s.writePhys16 a r.limit).writePhys16 (a + 2) (BitVec.ofNat 16 r.base.toNat)).writePhys (a + 4)
    (BitVec.ofNat 8 (r.base.toNat / 2 ^ 16))).writePhys (a + 5) pad

theorem State.storeTable_ok {m : Mem} (r : TableReg) (h : s.canWrite (s.eaSeg m) (s.eaOff m) 6 = true) :
    s.storeTable (.mem m) r = .ok (s.putTable (s.addr m) r (Config.freeByte s.free .tablePad)).advance := by
  have hlow : r.base.extractLsb' 0 16 = BitVec.ofNat 16 r.base.toNat := by
    apply BitVec.eq_of_toNat_eq
    simp
  have hhigh : r.base.extractLsb' 16 8 = BitVec.ofNat 8 (r.base.toNat / 2 ^ 16) := by
    apply BitVec.eq_of_toNat_eq
    rw [BitVec.extractLsb'_toNat, Nat.shiftRight_eq_div_pow, BitVec.toNat_ofNat]
  simp only [State.storeTable, E16.memOnly, run_bind_ok, h, check_true, run_pure, hlow, hhigh]
  rfl

theorem State.readPhys_putTable (a b : PAddr) (r : TableReg) (pad : Byte)
    (h : b ∉ [a, a + 1, a + 2, a + 3, a + 4, a + 5]) : (s.putTable a r pad).readPhys b = s.readPhys b := by
  have h3 : a + 2 + 1 = a + 3 := BitVec.add_assoc ..
  simp only [List.mem_cons, List.not_mem_nil, or_false, not_or] at h
  obtain ⟨h0, h1, h2, h3', h4, h5⟩ := h
  rw [State.putTable, State.readPhys_writePhys_ne _ _ _ _ h5, State.readPhys_writePhys_ne _ _ _ _ h4,
    State.readPhys_writePhys16_ne _ _ _ _ (not_mem_wordCells h2 (h3 ▸ h3')),
    State.readPhys_writePhys16_ne _ _ _ _ (not_mem_wordCells h0 h1)]

/-- Settles O53. -/
theorem descriptorTableRegisters : Obligations.DescriptorTableRegisters := by
  intro s m a
  refine ⟨fun h hr => ?load, fun hw => ?store⟩
  case load =>
    intro r
    have hread : s.readTable (.mem m) = .ok r := State.readTable_ok h hr
    have hok (f : TableReg → State) : (s.readTable (.mem m) >>= fun t => pure (f t)) = .ok (f r) := by
      rw [hread]
      rfl
    exact ⟨.of_run_keep rfl (hok fun r => { s with gdtr := r }.advance) rfl rfl rfl rfl,
      .of_run_keep rfl (hok fun r => { s with idtr := r }.advance) rfl rfl rfl rfl⟩
  case store =>
    intro cells stored
    have hframe (r : TableReg) (pad : Byte) : ∀ b, b ∉ cells → (stored r pad).readPhys b = s.readPhys b :=
      frame_of (fun b hb => State.readPhys_putTable a b r pad hb) rfl rfl rfl rfl
    exact ⟨⟨_, .of_run rfl (State.storeTable_ok s.gdtr hw) (hframe _ _)⟩,
      ⟨_, .of_run rfl (State.storeTable_ok s.idtr hw) (hframe _ _)⟩⟩

/-! SMSW, LMSW, CLTS, SLDT, STR -/

/-- The MSW word as a number (R66, R71). -/
theorem Msw.toWord_eq (m : Msw) :
    m.toWord = BitVec.ofNat 16 (0xFFF0 + 8 * m.ts.toNat + 4 * m.em.toNat + 2 * m.mp.toNat + m.pe.toNat) := by
  have h : ∀ pe mp em ts : Bool, (Msw.mk pe mp em ts).toWord =
      BitVec.ofNat 16 (0xFFF0 + 8 * ts.toNat + 4 * em.toNat + 2 * mp.toNat + pe.toNat) := by decide
  exact h m.pe m.mp m.em m.ts

theorem State.smsw_ok {e : E16} (h : s.canWriteE16 e = true) : s.smsw e = .ok (s.put16 e s.msw.toWord).advance := by
  rw [State.smsw, s.writeE16_ok e _ h]
  rfl

theorem State.storeSel_ok {e : E16} (v : Word) (hp : s.prot = true) (h : s.canWriteE16 e = true) :
    s.storeSel e v = .ok (s.put16 e v).advance := by
  rw [State.storeSel, State.protOnly_ok hp, run_bind_ok, s.writeE16_ok e _ h]
  rfl

/-- Settles O55. -/
theorem statusWordAndSelectors : Obligations.StatusWordAndSelectors := by
  intro s
  refine ⟨fun e h => ⟨?smsw, fun hp => ⟨?sldt, ?str⟩⟩, fun h0 => ⟨fun e h => ?lmsw, ?clts⟩, fun h0 => ?fault, rfl⟩
  case smsw =>
    rw [← s.msw.toWord_eq]
    exact .of_run rfl (State.smsw_ok h) (frame_of (s.readPhys_put16 e _) rfl rfl rfl rfl)
  case sldt => exact .of_run rfl (State.storeSel_ok _ hp h) (frame_of (s.readPhys_put16 e _) rfl rfl rfl rfl)
  case str => exact .of_run rfl (State.storeSel_ok _ hp h) (frame_of (s.readPhys_put16 e _) rfl rfl rfl rfl)
  case lmsw =>
    intro v
    refine .of_run_keep (r := s.lmsw e) rfl ?_ rfl rfl rfl rfl
    rw [State.lmsw, State.privileged_ok h0, run_bind_ok, s.readE16_ok e h]
    rfl
  case clts =>
    refine .of_run_keep (r := s.clts) rfl ?_ rfl rfl rfl rfl
    rw [State.clts, State.privileged_ok h0]
    rfl
  case fault =>
    refine exec_gp_of_error (r := s.clts) rfl ?_
    rw [State.clts, State.privileged_fault h0]
    rfl

/-! LLDT and LTR -/

theorem exec_lldtEw {e : E16} (hp : s.prot = true) (h0 : s.cpl = 0) (h : s.canReadE16 e = true) :
    exec (.lldtEw e) s = s.finish (if isNull (s.val16 e) then
        pure { s with ldtr := { s.ldtr with sel := s.val16 e, valid := false } }.advance
      else passTests (s.systemTests 2 (s.val16 e) 0) >>= fun _ => pure { s.lockBus with
        ldtr := { sel := s.val16 e, base := (s.entry (s.val16 e)).base, limit := (s.entry (s.val16 e)).limit,
                  valid := true } }.advance) := by
  show s.finish (s.lldt e) = _
  rw [State.lldt, State.protOnly_ok hp, run_bind_ok, State.privileged_ok h0, run_bind_ok, s.readE16_ok e h, run_bind_ok]
  have hc := State.system_checks s 2 (s.val16 e) 0 fun d => pure { s.lockBus with
    ldtr := { sel := s.val16 e, base := d.base, limit := d.limit, valid := true } }.advance
  rw [← hc]
  simp only [BitVec.add_zero, BitVec.ofNat_eq_ofNat]

theorem exec_ltrEw {e : E16} (hp : s.prot = true) (h0 : s.cpl = 0) (h : s.canReadE16 e = true) :
    exec (.ltrEw e) s = s.finish (passTests (s.systemTests 1 (s.val16 e) 0) >>= fun _ =>
      pure { s.lockBus.writePhys ((s.entry (s.val16 e)).addr + 5) ((s.entry (s.val16 e)).ar ||| 2) with
        tr := { sel := s.val16 e, base := (s.entry (s.val16 e)).base, limit := (s.entry (s.val16 e)).limit,
                valid := true } }.advance) := by
  show s.finish (s.ltr e) = _
  rw [State.ltr, State.protOnly_ok hp, run_bind_ok, State.privileged_ok h0, run_bind_ok, s.readE16_ok e h, run_bind_ok]
  have hc := State.system_checks s 1 (s.val16 e) 0 (fun d => pure { s.lockBus.writePhys (d.addr + 5) (d.ar ||| 2) with
        tr := { sel := s.val16 e, base := d.base, limit := d.limit, valid := true } }.advance)
  rw [← hc]
  simp only [BitVec.add_zero, BitVec.ofNat_eq_ofNat]

/-- The tests on a system descriptor, when it stands in the GDT as `d` and is present and of its type. -/
theorem State.systemTests_pass {k : BitVec 4} {sel x : Word} (hti : sel.getLsbD 2 = false)
    (hlim : sel.toNat / 8 * 8 + 7 ≤ s.gdtr.limit.toNat) (htype : arIsType (s.entry sel).ar k = true)
    (hp : arPresent (s.entry sel).ar = true) : passTests (s.systemTests k sel x) = .ok () := by
  have hin : s.inTable sel = true := by
    have h := s.inGdt_eq sel
    rw [hti, Bool.not_false, Bool.true_and] at h
    rw [← h, State.inGdt, hti, selector_index_toNat]
    simpa using hlim
  have hgdt : (!sel.getLsbD 2 && s.inTable sel) = true := by rw [hti, hin]; rfl
  refine passTests_ok ?_
  simp only [State.systemTests, List.forall_mem_cons, List.not_mem_nil, false_imp_iff, implies_true, and_true]
  exact ⟨hgdt, htype, hp⟩

/-- Settles O54. -/
theorem systemSegmentLoads : Obligations.SystemSegmentLoads := by
  intro s e hp h0 h v a d loaded
  have hlldt := exec_lldtEw hp h0 h
  have hltr := exec_ltrEw hp h0 h
  refine ⟨fun hnull => ?null, fun hti hlim hpres => ?good, fun hnull => ?lldtTests, .of_run hltr⟩
  case null =>
    rw [if_pos (by rw [isNull_eq]; exact decide_eq_true hnull)] at hlldt
    exact .of_run_keep hlldt rfl rfl rfl rfl rfl
  case good =>
    have hentry : s.entry v = d := (State.entry_gdt hti).trans (congrArg s.descAt (s.gdtAddr_eq v))
    refine ⟨fun hnull htype => ?lldt, fun htype => ?ltr⟩
    case lldt =>
      rw [if_neg (by rw [isNull_eq]; simpa using hnull), State.systemTests_pass hti hlim (by rw [hentry]; exact htype)
        (by rw [hentry]; exact hpres), run_bind_ok, hentry] at hlldt
      exact .of_run_keep hlldt rfl rfl rfl rfl rfl
    case ltr =>
      rw [State.systemTests_pass hti hlim (by rw [hentry]; exact htype) (by rw [hentry]; exact hpres), run_bind_ok,
        hentry] at hltr
      exact .of_run hltr rfl (frame_of (fun b hb => State.readPhys_writePhys_ne s.lockBus _ _ _ (by simpa using hb))
        rfl rfl rfl rfl)
  case lldtTests =>
    rw [if_neg (by rw [isNull_eq]; simpa using hnull)] at hlldt
    exact .of_run hlldt

/-! ARPL, LAR, LSL, VERR, VERW -/

/-- ARPL where the source's RPL is the greater one (R690). -/
theorem State.arpl_raise {e : E16} {r : Reg16} (hp : s.prot = true) (h : s.canWriteE16 e = true)
    (hlt : rplOf (s.val16 e) < rplOf (s.get16 r)) :
    s.arpl e r = .ok ((s.put16 e (withRpl (s.val16 e) (rplOf (s.get16 r)))).setZf true).advance := by
  rw [State.arpl, State.protOnly_ok hp, run_bind_ok, s.readE16_ok e (s.canReadE16_of_canWrite e h), run_bind_ok]
  simp only [if_pos hlt]
  rw [s.writeE16_ok e _ h]
  rfl

theorem State.arpl_keep {e : E16} {r : Reg16} (hp : s.prot = true) (h : s.canReadE16 e = true)
    (hlt : ¬rplOf (s.val16 e) < rplOf (s.get16 r)) : s.arpl e r = .ok (s.setZf false).advance := by
  rw [State.arpl, State.protOnly_ok hp, run_bind_ok, s.readE16_ok e h, run_bind_ok]
  simp only [if_neg hlt]
  rfl

theorem State.testSel_eq {e : E16} {find : Word → Option Desc} {put : Desc → State → State} (hp : s.prot = true)
    (h : s.canReadE16 e = true) : s.testSel e find put = .ok (s.tested (find (s.val16 e)) put) := by
  rw [State.testSel, State.protOnly_ok hp, run_bind_ok, s.readE16_ok e h]
  rfl

/-- The four selector-testing instructions look a selector up and filter what they find by a test (R689-R694). -/
theorem State.lookup_some {v : Word} {d : Desc} (hv : 4 ≤ v.toNat) (hd : s.desc? v = some d) : s.lookup v = some d := by
  rw [State.lookup, if_neg (by rw [isNull_eq]; simpa using hv), hd]

theorem State.lookup_none {v : Word} (h : v.toNat < 4 ∨ s.desc? v = none) : s.lookup v = none := by
  rw [State.lookup, isNull_eq]
  rcases h with h | h
  · rw [if_pos (decide_eq_true h)]
  · rw [h]
    exact ite_self _

/-- What a selector-testing instruction that finds a descriptor leaves before its register is loaded (R689). -/
theorem State.markTested_eq (s : State) (d : Desc) : (s.markTested d).setZf true =
    { (if arSegment d.ar = true then s.access d else s) with flags := { s.flags with zf := true } } := by
  unfold State.markTested
  cases arSegment d.ar with
  | false => rfl
  | true =>
    have hflags : (s.access d).flags = s.flags := by
      rw [State.access, State.writePhys_flags]
      rfl
    show { s.access d with flags := { (s.access d).flags with zf := true } } = _
    rw [hflags]
    rfl

theorem State.readPhys_markTested (d : Desc) (a : PAddr) (h : a ∉ [d.addr + 5]) :
    (s.markTested d).readPhys a = s.readPhys a := by
  unfold State.markTested
  cases arSegment d.ar with
  | false => rfl
  | true => exact State.readPhys_writePhys_ne s.lockBus _ _ _ (by simpa using h)

/-- A selector-testing instruction that finds nothing only clears ZF. -/
theorem Does.of_tested_none {e : E16} {find : Word → Option Desc} {put : Desc → State → State}
    (hi : exec i s = s.finish (s.testSel e find put)) (hp : s.prot = true) (h : s.canReadE16 e = true)
    (hd : find (s.val16 e) = none) : Does i s { s with flags := { s.flags with zf := false } }.advance [] :=
  .of_run_keep hi ((State.testSel_eq hp h).trans (by rw [hd]; rfl)) rfl rfl rfl rfl

/-- One that finds a descriptor loads its register from it. -/
theorem Does.of_tested_some {e : E16} {find : Word → Option Desc} {put : Desc → State → State} {d : Desc}
    (hi : exec i s = s.finish (s.testSel e find put)) (hp : s.prot = true) (h : s.canReadE16 e = true)
    (hd : find (s.val16 e) = some d) (hput : ∀ u a, (put d u).readPhys a = u.readPhys a) :
    Does i s (put d { (if arSegment d.ar = true then s.access d else s) with flags := { s.flags with zf := true } }).advance
      [d.addr + 5] := by
  rw [← State.markTested_eq]
  refine .of_run hi ((State.testSel_eq hp h).trans (by rw [hd]; rfl)) fun a ha => ?_
  exact (hput _ a).trans (State.readPhys_markTested d a ha)

/-- The privilege test of the selector-testing instructions, in the words of the statements (R689). -/
theorem State.visible_eq (s : State) (v : Word) (d : Desc) :
    s.visible v d.ar = true ↔ d.isConforming = true ∨ s.mayUse v d = true := by
  rw [State.visible, gateAllowed_eq, Bool.or_eq_true]
  rfl

/-- LAR's descriptor as a word (R691). -/
theorem Byte.append_zero (b : Byte) : b ++ 0#8 = BitVec.ofNat 16 (256 * b.toNat) := by
  apply BitVec.eq_of_toNat_eq
  have := b.isLt
  rw [BitVec.toNat_append, BitVec.toNat_ofNat, Nat.shiftLeft_eq, BitVec.toNat_ofNat, Nat.zero_mod, Nat.or_zero]
  omega

/-- Settles O56. -/
theorem selectorInstructions : Obligations.SelectorInstructions := by
  refine ⟨fun s e r hp h => ?arpl, fun s e r hp h => ?tests⟩
  case arpl =>
    intro d p
    have hlt : rplOf (s.val16 e) < rplOf (s.get16 r) ↔ d % 4 < p := by rw [BitVec.lt_def, rplOf_toNat, rplOf_toNat]
    refine ⟨fun hless hw => ?_, fun hless => ?_⟩
    · have hok := State.arpl_raise hp hw (hlt.mpr hless)
      rw [withRpl_eq, rplOf_toNat] at hok
      have hflags (x : Word) : (s.put16 e x).setZf true = { s.put16 e x with flags := { s.flags with zf := true } } :=
        congrArg (fun f : Flags => { s.put16 e x with flags := { f with zf := true } }) (s.put16_flags e x)
      rw [hflags] at hok
      exact .of_run rfl hok (frame_of (s.readPhys_put16 e _) rfl rfl rfl rfl)
    · exact .of_run_keep rfl (State.arpl_keep hp h fun h' => Nat.not_lt.mpr hless (hlt.mp h')) rfl rfl rfl rfl
  case tests =>
    intro v fails marked seen
    refine ⟨fun hnone => ?none, fun d hv hd => ?some⟩
    case none =>
      have hl := State.lookup_none hnone
      have hfind (p : Desc → Bool) : (s.lookup (s.val16 e)).filter p = none := by rw [show s.lookup (s.val16 e) = none from hl]; rfl
      exact ⟨.of_tested_none rfl hp h (hfind _), .of_tested_none rfl hp h (hfind _), .of_tested_none rfl hp h (hfind _),
        .of_tested_none rfl hp h (hfind _)⟩
    case some =>
      have hl : s.lookup (s.val16 e) = some d := State.lookup_some hv hd
      have hmiss {p : Desc → Bool} (hq : ¬p d = true) : (s.lookup (s.val16 e)).filter p = none := by
        rw [hl, Option.filter_some, if_neg hq]
      have hhit {p : Desc → Bool} (hq : p d = true) : (s.lookup (s.val16 e)).filter p = some d := by
        rw [hl, Option.filter_some, if_pos hq]
      refine ⟨fun hn => ?hidden, fun hlim => ?lsl, fun hread => ?verr, fun hwrite => ?verw, fun hs => ?seen⟩
      case hidden =>
        have hv' : ¬s.visible (s.val16 e) d.ar = true := fun hvis => hn ((s.visible_eq v d).mp hvis)
        have hand (b : Bool) : ¬(b && s.visible (s.val16 e) d.ar) = true := fun hb => hv' (and_of hb).2
        exact ⟨.of_tested_none rfl hp h (hmiss hv'), .of_tested_none rfl hp h (hmiss (hand _)),
          .of_tested_none rfl hp h (hmiss (hand _)), .of_tested_none rfl hp h (hmiss (hand _))⟩
      case lsl => exact .of_tested_none rfl hp h (hmiss (by rw [hlim]; exact Bool.false_ne_true))
      case verr => exact .of_tested_none rfl hp h (hmiss (by rw [hread]; exact Bool.false_ne_true))
      case verw => exact .of_tested_none rfl hp h (hmiss (by rw [hwrite]; exact Bool.false_ne_true))
      case seen =>
        have hvis : s.visible (s.val16 e) d.ar = true := (s.visible_eq v d).mpr hs
        have hand {b : Bool} (hb : b = true) : (b && s.visible (s.val16 e) d.ar) = true := by rw [hb, hvis]; rfl
        have hset (u : State) (w : Word) (a : PAddr) : (u.set16 r w).readPhys a = u.readPhys a := rfl
        rw [← Byte.append_zero]
        exact ⟨.of_tested_some (put := fun d t => t.set16 r (d.ar ++ 0#8)) rfl hp h (hhit hvis) fun u a => hset u _ a,
          fun hb => .of_tested_some (put := fun d t => t.set16 r d.limit) rfl hp h (hhit (hand hb)) fun u a => hset u _ a,
          fun hb => .of_tested_some (put := fun _ t => t) rfl hp h (hhit (hand hb)) fun _ _ => rfl,
          fun hb => .of_tested_some (put := fun _ t => t) rfl hp h (hhit (hand hb)) fun _ _ => rfl⟩

/-! Privilege -/

theorem exec_ud_of_error {r : Run State} (hi : exec i s = s.finish r) (hr : r = .error excUd) :
    exec i s = s.exception 6 none := by
  rw [hi, hr]
  rfl

/-- Settles O57: the first check of each of these instructions. -/
theorem privilegeExceptions : Obligations.PrivilegeExceptions := by
  refine ⟨fun s hp h0 => ?privileged, fun s e r hp => ?real, fun s q r => ?register, fun s hp hio => ?trusted⟩
  case privileged =>
    have first {α : Type} {f : Unit → Run α} : (s.privileged >>= f) = .error (excGp 0) := by
      rw [State.privileged_fault h0]
      rfl
    have second {f : Unit → Run State} : (s.protOnly >>= fun _ => s.privileged >>= f) = .error (excGp 0) := by
      rw [State.protOnly_ok hp, run_bind_ok, first]
    have table {m : Mem} {f : TableReg → Run State} : (s.readTable (.mem m) >>= f) = .error (excGp 0) := by
      rw [State.readTable, E16.memOnly, run_bind_ok, first]
      rfl
    have halt : (check (s.cpl == 0) (excGp 0) >>= fun _ => pure { s.advance with runState := .halted }) = .error (excGp 0) :=
      first
    exact ⟨exec_gp_of_error rfl halt, exec_gp_of_error (r := s.clts) rfl first,
      fun m => ⟨exec_gp_of_error rfl table, exec_gp_of_error rfl table⟩,
      fun e => ⟨exec_gp_of_error (r := s.lldt e) rfl second, exec_gp_of_error (r := s.ltr e) rfl second,
        exec_gp_of_error (r := s.lmsw e) rfl first⟩⟩
  case real =>
    have first {f : Unit → Run State} : (s.protOnly >>= f) = .error excUd := by
      rw [State.protOnly_fault hp]
      rfl
    simp only [List.forall_mem_cons, List.not_mem_nil, false_imp_iff, implies_true, and_true]
    exact ⟨exec_ud_of_error (r := s.storeSel e _) rfl first, exec_ud_of_error (r := s.storeSel e _) rfl first,
      exec_ud_of_error (r := s.lldt e) rfl first, exec_ud_of_error (r := s.ltr e) rfl first,
      exec_ud_of_error (r := s.testSel e _ _) rfl first, exec_ud_of_error (r := s.testSel e _ _) rfl first,
      exec_ud_of_error (r := s.arpl e r) rfl first, exec_ud_of_error (r := s.testSel e _ _) rfl first,
      exec_ud_of_error (r := s.testSel e _ _) rfl first⟩
  case register =>
    simp only [List.forall_mem_cons, List.not_mem_nil, false_imp_iff, implies_true, and_true]
    exact ⟨rfl, rfl, rfl, rfl, rfl, rfl, rfl, rfl, rfl, rfl⟩
  case trusted =>
    have hno : s.ioAllowed = false := by
      rw [State.ioAllowed, hp, Bool.not_true, Bool.false_or]
      exact decide_eq_false fun h => Nat.not_lt.mpr (BitVec.le_def.mp h) hio
    have first {f : Unit → Run State} : (check s.ioAllowed (excGp 0) >>= f) = .error (excGp 0) := by
      rw [hno]
      rfl
    refine ⟨?_, fun n => ?_, ?_⟩
    all_goals simp only [List.forall_mem_cons, List.not_mem_nil, false_imp_iff, implies_true, and_true]
    · exact ⟨exec_gp_of_error (r := s.in8 _) rfl first, exec_gp_of_error (r := s.in16 _) rfl first,
        exec_gp_of_error (r := s.out8 _) rfl first, exec_gp_of_error (r := s.out16 _) rfl first,
        exec_gp_of_error (r := s.setIf _) rfl first, exec_gp_of_error (r := s.setIf _) rfl first,
        exec_gp_of_error (r := s.lockPrefix) rfl first⟩
    · exact ⟨exec_gp_of_error (r := s.in8 _) rfl first, exec_gp_of_error (r := s.in16 _) rfl first,
        exec_gp_of_error (r := s.out8 _) rfl first, exec_gp_of_error (r := s.out16 _) rfl first⟩
    · have moving {op : Run State} (hop : op = .error (excGp 0))
          (hrep : s.dec.rep = none ∨ s.dec.rep = some .rep ∧ s.regs.cx ≠ 0) : s.moving op = .error (excGp 0) := by
        rw [State.moving, hop]
        rcases hrep with h | ⟨h, hcx⟩
        · rw [h]
          rfl
        · rw [h]
          exact if_neg hcx
      exact ⟨fun hrep => exec_gp_of_error rfl (moving (op := s.ins8) first hrep),
        fun hrep => exec_gp_of_error rfl (moving (op := s.ins16) first hrep),
        fun hrep => exec_gp_of_error rfl (moving (op := s.outs8) first hrep),
        fun hrep => exec_gp_of_error rfl (moving (op := s.outs16) first hrep)⟩

end Sys2Proof.Machine
end

section
/-!
# Loads of segment registers in protected mode (O17, O18)
-/

namespace Sys2Proof.Machine

variable {s t : State} {i : Instr}

/-! The loads as their tests -/

/-- The tests on a data segment (R153). -/
def State.dataTests (s : State) (sel : Word) : List Test :=
  let d := s.entry sel
  let ec := selCode sel
  [⟨s.inTable sel, excGp ec⟩, ⟨d.isDataOrReadable, excGp ec⟩, ⟨d.isConforming || s.mayUse sel d, excGp ec⟩,
   ⟨arPresent d.ar, excNp ec⟩]

/-- The tests on a stack segment loaded by an instruction (R153). -/
def State.ssTests (s : State) (sel : Word) : List Test :=
  let d := s.entry sel
  let ec := selCode sel
  [⟨decide (4 ≤ sel.toNat), excGp 0⟩, ⟨s.inTable sel, excGp ec⟩,
   ⟨rplOf sel == s.cpl && (d.isWritableData && arDpl d.ar == s.cpl), excGp ec⟩, ⟨arPresent d.ar, excSs ec⟩]

/-- `LoadDataSeg` is its tests and the load of the cache. -/
theorem State.loadDataProt_eq (s : State) (x : SReg) (sel : Word) :
    s.loadDataProt x sel = (passTests (s.dataTests sel) >>= fun _ => pure (s.loadCache x sel (s.entry sel))) := by
  simp only [State.loadDataProt, State.dataTests, passTests_cons, passTests_nil, State.desc_bind, State.mayUse, BitVec.le_def,
    Bool.and_comm]

/-- `LoadSS` is its tests and the load of the cache. -/
theorem State.loadSsProt_eq (s : State) (sel : Word) :
    s.loadSsProt sel = (passTests (s.ssTests sel) >>= fun _ => pure (s.loadCache .ss sel (s.entry sel))) := by
  simp only [State.loadSsProt, State.ssTests, passTests_cons, passTests_nil, State.desc_bind, check_and, not_isNull_eq]

theorem State.loadData_prot (hp : s.prot = true) (x : SReg) {v : Word} (hv : 4 ≤ v.toNat) :
    s.loadData x v = (passTests (s.dataTests v) >>= fun _ => pure (s.loadCache x v (s.entry v))) := by
  rw [State.loadData, if_pos hp, if_neg (by rw [isNull_eq]; simpa using hv), State.loadDataProt_eq]

theorem State.loadSs_prot (hp : s.prot = true) (v : Word) :
    s.loadSs v = (passTests (s.ssTests v) >>= fun _ => pure (s.loadCache .ss v (s.entry v))) := by
  rw [State.loadSs, if_pos hp, State.loadSsProt_eq]

/-- A null selector in DS or ES is loaded without a test (R141). -/
theorem State.loadData_null (hp : s.prot = true) (x : SReg) {v : Word} (hv : v.toNat < 4) :
    s.loadData x v = .ok (s.loadNull x v) := by
  rw [State.loadData, if_pos hp, if_pos (by rw [isNull_eq]; exact decide_eq_true hv)]

/-! Loads that succeed -/

theorem State.loadData_ok_of {v : Word} {d : Desc} (x : SReg) (h : s.loadsData v d = true) :
    s.loadData x v = .ok (s.loadCache x v d) := by
  simp only [State.loadsData, isNull_eq, Bool.and_eq_true, decide_eq_true_eq, Bool.not_eq_true', decide_eq_false_iff_not,
    Nat.not_lt] at h
  obtain ⟨⟨⟨⟨⟨hp, hv⟩, hd⟩, htype⟩, hpriv⟩, hpres⟩ := h
  obtain ⟨hin, rfl⟩ := State.desc?_some hd
  have hpass : passTests (s.dataTests v) = .ok () := by
    refine passTests_ok ?_
    simp only [State.dataTests, List.forall_mem_cons, List.not_mem_nil, false_imp_iff, implies_true, and_true]
    exact ⟨hin, htype, hpriv, hpres⟩
  rw [State.loadData_prot hp x hv, hpass]
  rfl

theorem State.loadSs_ok_of {v : Word} {d : Desc} (h : s.loadsStack v d = true) :
    s.loadSs v = .ok (s.loadCache .ss v d) := by
  simp only [State.loadsStack, isNull_eq, Bool.and_eq_true, decide_eq_true_eq, Bool.not_eq_true', decide_eq_false_iff_not,
    Nat.not_lt] at h
  obtain ⟨⟨⟨⟨⟨⟨hp, hv⟩, hd⟩, htype⟩, hrpl⟩, hdpl⟩, hpres⟩ := h
  obtain ⟨hin, rfl⟩ := State.desc?_some hd
  have hpass : passTests (s.ssTests v) = .ok () := by
    refine passTests_ok ?_
    simp only [State.ssTests, List.forall_mem_cons, List.not_mem_nil, false_imp_iff, implies_true, and_true]
    exact ⟨decide_eq_true hv, hin, Bool.and_eq_true_iff.mpr ⟨hrpl, Bool.and_eq_true_iff.mpr ⟨htype, hdpl⟩⟩, hpres⟩
  rw [State.loadSs_prot hp, hpass]
  rfl

/-- What a load of a cache leaves of the registers. -/
theorem State.access_regs (s : State) (d : Desc) : (s.access d).regs = s.regs := s.underLock.writePhys_regs _ _

/-- A load of a segment register writes nothing but the Accessed bit. -/
theorem State.readPhys_access (d : Desc) (a : PAddr) (h : a ∉ [d.addr + 5]) : (s.access d).readPhys a = s.readPhys a :=
  State.readPhys_writePhys_ne s.underLock _ _ _ (by simpa using h)

theorem State.setSp_of_regs {u : State} (h : u.regs = s.regs) (v : Word) :
    u.setSp v = { u with regs := { s.regs with sp := v } } := by
  rw [State.setSp, h]

/-- Settles O17. -/
theorem protectedModeSegmentLoads : Obligations.ProtectedModeSegmentLoads := by
  refine ⟨fun s => ⟨fun e d h hd => ⟨?_, ?_⟩, fun d h => ?popData, fun r m d h => ?pointer,
    fun e h hp hv => ⟨?_, ?_⟩, fun h hp => ?popNull, fun r m h hp => ?pointerNull⟩,
    fun s => ⟨fun e d h hd => ?_, fun d h => ?popStack⟩⟩
  · exact .of_load (exec_movEsEw h) (State.loadData_ok_of .es hd) rfl (frame_of (State.readPhys_access d) rfl rfl rfl rfl)
  · exact .of_load (exec_movDsEw h) (State.loadData_ok_of .ds hd) rfl (frame_of (State.readPhys_access d) rfl rfl rfl rfl)
  case popData =>
    intro v r hd
    have hr := s.access_regs d
    refine ⟨.of_load (exec_popEs h) (State.loadData_ok_of .es hd) ?_ (frame_of (State.readPhys_access d) rfl rfl rfl rfl),
      .of_load (exec_popDs h) (State.loadData_ok_of .ds hd) ?_ (frame_of (State.readPhys_access d) rfl rfl rfl rfl)⟩
    · exact congrArg State.advance (State.setSp_of_regs (u := { s.access d with es := d.loaded v }) hr _)
    · exact congrArg State.advance (State.setSp_of_regs (u := { s.access d with ds := d.loaded v }) hr _)
  case pointer =>
    intro off sel hd
    exact ⟨.of_load (exec_ldsRwEd h) (State.loadData_ok_of .ds hd) rfl (frame_of (State.readPhys_access d) rfl rfl rfl rfl),
      .of_load (exec_lesRwEd h) (State.loadData_ok_of .es hd) rfl (frame_of (State.readPhys_access d) rfl rfl rfl rfl)⟩
  · exact .of_load (exec_movEsEw h) (State.loadData_null hp .es hv) rfl fun _ _ => rfl
  · exact .of_load (exec_movDsEw h) (State.loadData_null hp .ds hv) rfl fun _ _ => rfl
  case popNull =>
    intro v r hv
    exact ⟨.of_load (exec_popEs h) (State.loadData_null hp .es hv) rfl fun _ _ => rfl,
      .of_load (exec_popDs h) (State.loadData_null hp .ds hv) rfl fun _ _ => rfl⟩
  case pointerNull =>
    intro off v hv
    exact ⟨.of_load (exec_ldsRwEd h) (State.loadData_null hp .ds hv) rfl fun _ _ => rfl,
      .of_load (exec_lesRwEd h) (State.loadData_null hp .es hv) rfl fun _ _ => rfl⟩
  · exact .of_load (exec_movSsEw h) (State.loadSs_ok_of hd) rfl (frame_of (State.readPhys_access d) rfl rfl rfl rfl)
  case popStack =>
    intro v hd r
    exact .of_load (exec_popSs h) (State.loadSs_ok_of hd)
      (congrArg State.advance (State.setSp_of_regs (u := { s.access d with ss := d.loaded v, inhibit := true })
        (s.access_regs d) _)) (frame_of (State.readPhys_access d) rfl rfl rfl rfl)

/-! Loads that fail -/

/-- An instruction that loads DS or ES with `v` is that load and a step that cannot fail. -/
theorem State.loadsDataFrom_exec {v : Word} (h : s.loadsDataFrom i v) :
    ∃ (x : SReg) (f : State → State), exec i s = s.finish (s.loadData x v >>= fun t => pure (f t)) := by
  rcases h with ⟨e, he, rfl, hi⟩ | ⟨hr, rfl, hi⟩ | ⟨r, m, hm, rfl, hi⟩
  · simp only [List.mem_cons, List.not_mem_nil, or_false] at hi
    rcases hi with rfl | rfl
    · exact ⟨_, _, exec_movDsEw he⟩
    · exact ⟨_, _, exec_movEsEw he⟩
  · simp only [List.mem_cons, List.not_mem_nil, or_false] at hi
    rcases hi with rfl | rfl
    · exact ⟨_, _, exec_popDs hr⟩
    · exact ⟨_, _, exec_popEs hr⟩
  · simp only [List.mem_cons, List.not_mem_nil, or_false] at hi
    rcases hi with rfl | rfl
    · exact ⟨_, _, exec_ldsRwEd hm⟩
    · exact ⟨_, _, exec_lesRwEd hm⟩

theorem State.loadsSsFrom_exec {v : Word} (h : s.loadsSsFrom i v) :
    ∃ f : State → State, exec i s = s.finish (s.loadSs v >>= fun t => pure (f t)) := by
  rcases h with ⟨e, he, rfl, rfl⟩ | ⟨hr, rfl, rfl⟩
  · exact ⟨_, exec_movSsEw he⟩
  · exact ⟨_, exec_popSs hr⟩

/-- An instruction that loads DS or ES comes to what the first failing test says. -/
theorem State.tests_of_loadsData {v : Word} (hp : s.prot = true) (hv : 4 ≤ v.toNat) (h : s.loadsDataFrom i v) :
    s.Tests i (s.dataTests v) := by
  obtain ⟨x, f, hi⟩ := State.loadsDataFrom_exec h
  intro e he
  rw [hi, State.loadData_prot hp x hv, passTests_error he]
  exact s.finish_error e

theorem State.tests_of_loadsSs {v : Word} (hp : s.prot = true) (h : s.loadsSsFrom i v) : s.Tests i (s.ssTests v) := by
  obtain ⟨f, hi⟩ := State.loadsSsFrom_exec h
  intro e he
  rw [hi, State.loadSs_prot hp, passTests_error he]
  exact s.finish_error e

/-- Settles O18. -/
theorem segmentLoadExceptions : Obligations.SegmentLoadExceptions := by
  refine ⟨fun s i v hp hi => ?stack, fun s i v hp hi => ?data⟩
  case stack =>
    intro ec
    have htests := State.tests_of_loadsSs hp hi
    refine ⟨fun hv => htests (excGp 0) ?_, fun hv hd => htests (excGp ec) ?_,
      fun d hv hd => ⟨fun hbad => htests (excGp ec) ?_, fun htype hrpl hdpl hpres => htests (excSs ec) ?_⟩⟩
    · simp [State.ssTests, hv]
    · simp [State.ssTests, hv, State.desc?_none hd, ec, selCode]
    · obtain ⟨hin, rfl⟩ := State.desc?_some hd
      have hno : (rplOf v == s.cpl && ((s.entry v).isWritableData && arDpl (s.entry v).ar == s.cpl)) = false := by
        rw [← Bool.not_eq_true]
        simp only [Bool.and_eq_true, beq_iff_eq]
        rintro ⟨h1, h2, h3⟩
        rcases hbad with h | h | h
        · exact Bool.noConfusion (h.symm.trans h2)
        · exact h h1
        · exact h h3
      simp [State.ssTests, hv, hin, hno, ec, selCode]
    · obtain ⟨hin, rfl⟩ := State.desc?_some hd
      simp [State.ssTests, hv, hin, htype, hrpl, hdpl, hpres, ec, selCode]
  case data =>
    intro ec
    refine ⟨fun hv hd => State.tests_of_loadsData hp hv hi (excGp ec) ?_,
      fun d hv hd => ⟨fun hbad => State.tests_of_loadsData hp hv hi (excGp ec) ?_,
        fun htype hpriv hpres => State.tests_of_loadsData hp hv hi (excNp ec) ?_⟩⟩
    · simp [State.dataTests, State.desc?_none hd, ec, selCode]
    · obtain ⟨hin, rfl⟩ := State.desc?_some hd
      rcases hbad with h | ⟨h1, h2⟩
      · simp [State.dataTests, hin, h, ec, selCode]
      · simp [State.dataTests, hin, h1, h2, ec, selCode]
    · obtain ⟨hin, rfl⟩ := State.desc?_some hd
      have hpriv' : ((s.entry v).isConforming || s.mayUse v (s.entry v)) = true := Bool.or_eq_true_iff.mpr hpriv
      simp [State.dataTests, hin, htype, hpriv', hpres, ec, selCode]

end Sys2Proof.Machine
end

section
/-!
# ENTER and LEAVE (O51)
-/

namespace Sys2Proof.Machine

variable {s t : State} {i : Instr}

/-! Words pushed one after the other -/

theorem State.writePhys_ram {a : PAddr} {v : Byte} (h : kindAt s.memMap a = .ram) :
    s.writePhys a v = { s with mem := (s.writePhys a v).mem } := by
  simp only [State.writePhys, h]

theorem State.writePhys16_ram {a : PAddr} {v : Word} (h : s.ram (wordCells a)) :
    s.writePhys16 a v = { s with mem := (s.writePhys16 a v).mem } := by
  have h0 : kindAt s.memMap a = .ram := h a (by simp [wordCells])
  have h1 : kindAt (s.writePhys a v.lo).memMap (a + 1) = .ram := by
    rw [State.writePhys_memMap]
    exact h (a + 1) (by simp [wordCells])
  rw [State.writePhys16, State.writePhys_ram h1, State.writePhys_ram h0]

theorem SegReg.mem_pushCells {x : SegReg} {sp : Word} {n : Nat} {a : PAddr} : a ∈ x.pushCells sp n ↔
    ∃ k < n, a ∈ wordCells (x.lin (sp - BitVec.ofNat 16 (2 * (k + 1)))) := by
  simp only [SegReg.pushCells, List.mem_flatMap, List.mem_range]

theorem SegReg.pushCells_subset (x : SegReg) (sp : Word) {m n : Nat} (h : m ≤ n) :
    x.pushCells sp m ⊆ x.pushCells sp n := by
  intro a ha
  obtain ⟨k, hk, hak⟩ := SegReg.mem_pushCells.mp ha
  exact SegReg.mem_pushCells.mpr ⟨k, hk.trans_le h, hak⟩

theorem SegReg.pushCells_succ_subset (x : SegReg) (sp : Word) (n : Nat) :
    x.pushCells (sp - 2) n ⊆ x.pushCells sp (n + 1) := by
  intro a ha
  obtain ⟨k, hk, hak⟩ := SegReg.mem_pushCells.mp ha
  rw [Word.sub_two_sub sp (k + 1)] at hak
  exact SegReg.mem_pushCells.mpr ⟨k + 1, Nat.succ_lt_succ hk, hak⟩

/-- Words pushed to RAM change nothing but memory (R122). -/
theorem State.pushList_ram (x : SegReg) (sp : Word) (l : List Word) (s : State) (h : s.ram (x.pushCells sp l.length)) :
    s.pushList x sp l = { s with mem := (s.pushList x sp l).mem } := by
  induction l generalizing s sp with
  | nil => rfl
  | cons v l ih =>
    have hfirst : s.ram (wordCells (x.lin (sp - 2))) := fun a ha =>
      h a (SegReg.mem_pushCells.mpr ⟨0, Nat.zero_lt_succ _, ha⟩)
    have hrest : (s.writePhys16 (x.lin (sp - 2)) v).ram (x.pushCells (sp - 2) l.length) := by
      intro a ha
      rw [State.writePhys16_memMap]
      exact h a (x.pushCells_succ_subset sp l.length ha)
    rw [State.pushList, ih _ _ hrest]
    exact congrArg (fun u : State => { u with
      mem := ((s.writePhys16 (x.lin (sp - 2)) v).pushList x (sp - 2) l).mem }) (State.writePhys16_ram hfirst)

/-- The last word of a list goes to the cells below all the others. -/
theorem State.pushList_append (x : SegReg) (sp : Word) (l : List Word) (v : Word) (s : State) :
    s.pushList x sp (l ++ [v]) =
      (s.pushList x sp l).writePhys16 (x.lin (sp - BitVec.ofNat 16 (2 * (l.length + 1)))) v := by
  induction l generalizing s sp with
  | nil => rfl
  | cons w l ih =>
    rw [List.cons_append, State.pushList, ih, Word.sub_two_sub sp (l.length + 1)]
    rfl

/-! The words of a frame -/

theorem enterWords_pos (l : Nat) : 0 < enterWords l := by
  unfold enterWords
  split <;> omega

/-- The display words that ENTER copies, each as it stands when its turn comes (R651). -/
def State.displayWords (s : State) : Nat → List Word
  | 0 => []
  | n + 1 => s.displayWords n ++ [(s.pushList s.ss s.regs.sp (s.regs.bp :: s.displayWords n)).readPhys16
      (s.ss.lin (s.regs.bp - BitVec.ofNat 16 (2 * (n + 1))))]

/-- All the words that ENTER pushes: BP, the display copied, the new frame (R651). -/
def State.frameWords (s : State) (l : Nat) : List Word :=
  s.regs.bp :: (s.displayWords (l - 1) ++ if l = 0 then [] else [s.regs.sp - 2])

theorem State.displayWords_length (s : State) (n : Nat) : (s.displayWords n).length = n := by
  induction n with
  | zero => rfl
  | succ n ih => simp [State.displayWords, ih]

theorem State.frameWords_length (s : State) (l : Nat) : (s.frameWords l).length = enterWords l := by
  by_cases h : l = 0
  · simp [State.frameWords, enterWords, h, State.displayWords]
  · simp only [State.frameWords, enterWords, if_neg h, List.length_cons, List.length_append, List.length_nil,
      s.displayWords_length]
    omega

theorem State.copyDisplay_eq (s : State) (n : Nat) :
    s.copyDisplay (s.writePhys16 (s.ss.lin (s.regs.sp - 2)) s.regs.bp) n =
      s.pushList s.ss s.regs.sp (s.regs.bp :: s.displayWords n) := by
  induction n with
  | zero => rfl
  | succ n ih =>
    rw [State.copyDisplay, State.displayWords, ← List.cons_append, State.pushList_append, List.length_cons,
      s.displayWords_length, ih, Word.sub_two_sub s.regs.sp (n + 1)]

/-- ENTER'S STORES ARE PUSHES of the frame's words (R651). -/
theorem State.enterWrites_eq (s : State) (l : Nat) :
    s.enterWrites l = s.pushList s.ss s.regs.sp (s.frameWords l) := by
  by_cases h : l = 0
  · simp only [State.enterWrites, State.frameWords, h, if_true, s.copyDisplay_eq, List.append_nil]
  · have hlen : (s.regs.bp :: s.displayWords (l - 1)).length + 1 = enterWords l := by
      simp only [enterWords, if_neg h, List.length_cons, s.displayWords_length]
      omega
    simp only [State.enterWrites, State.frameWords, if_neg h, s.copyDisplay_eq]
    rw [← List.cons_append, State.pushList_append, hlen]

/-- A display word whose cells ENTER does not write is the word that stood there before. -/
theorem State.displayWords_getElem (s : State) {n k : Nat} (hk : k < n) (h : k < (s.displayWords n).length)
    (hcells : ∀ a ∈ wordCells (s.ss.lin (s.regs.bp - BitVec.ofNat 16 (2 * (k + 1)))),
      a ∉ s.ss.pushCells s.regs.sp (n + 1)) :
    (s.displayWords n)[k] = s.readPhys16 (s.ss.lin (s.regs.bp - BitVec.ofNat 16 (2 * (k + 1)))) := by
  induction n with
  | zero => exact absurd hk (Nat.not_lt_zero k)
  | succ n ih =>
    have hless : ∀ a ∈ wordCells (s.ss.lin (s.regs.bp - BitVec.ofNat 16 (2 * (k + 1)))),
        a ∉ s.ss.pushCells s.regs.sp (n + 1) :=
      fun a ha hmem => hcells a ha (s.ss.pushCells_subset s.regs.sp (Nat.le_succ (n + 1)) hmem)
    by_cases hkn : k < n
    · simp only [State.displayWords]
      rw [List.getElem_append_left (by rw [s.displayWords_length]; exact hkn)]
      exact ih hkn _ hless
    · obtain rfl : k = n := by omega
      simp only [State.displayWords]
      rw [List.getElem_append_right (by rw [s.displayWords_length])]
      simp only [List.getElem_singleton]
      refine State.readPhys16_pushList_ne s.ss s.regs.sp _ s _ ?_
      rw [List.length_cons, s.displayWords_length]
      exact hless

/-! The instructions -/

theorem State.canRead_of_canPush {n : Nat} (h : s.canPush n = true) (hn : 0 < n) :
    s.canRead .ss (s.regs.sp - 2) 2 = true := by
  induction n with
  | zero => exact absurd hn (Nat.lt_irrefl 0)
  | succ n ih =>
    simp only [State.canPush, Bool.and_eq_true] at h
    obtain ⟨hfirst, hlast⟩ := h
    cases n with
    | zero => exact s.canRead_of_canWrite _ _ _ hlast
    | succ n => exact ih hfirst (Nat.zero_lt_succ n)

theorem State.canReadDisplay_of (n : Nat)
    (h : ∀ k, 1 ≤ k → k < n + 1 → s.canRead .ss (s.regs.bp - BitVec.ofNat 16 (2 * k)) 2 = true) :
    s.canReadDisplay n = true := by
  induction n with
  | zero => rfl
  | succ n ih =>
    simp only [State.canReadDisplay, Bool.and_eq_true]
    exact ⟨ih fun k h1 hk => h k h1 (by omega), h (n + 1) (by omega) (by omega)⟩

/-- The state after ENTER at level `l`. -/
def State.entered (s : State) (size : Word) (l : Nat) : State :=
  (((s.pushList s.ss s.regs.sp (s.frameWords l)).set16 .bp (s.regs.sp - 2)).setSp (s.enterSp size l)).advance

theorem State.entered_eq {size : Word} {l : Nat} (hram : s.ram (s.pushCells (enterWords l))) :
    s.entered size l = { { s with regs := { s.regs with bp := s.regs.sp - 2, sp := s.enterSp size l } }.advance with
      mem := (s.pushList s.ss s.regs.sp (s.frameWords l)).mem } := by
  rw [State.pushCells_eq, ← s.frameWords_length l] at hram
  rw [State.entered, State.pushList_ram s.ss s.regs.sp (s.frameWords l) s hram]
  rfl

/-- ENTER whose words, display and new SP pass their checks (R651, D30). -/
theorem State.enterFrame_ok {size : Word} {level : Byte} {l : Nat} (hl : l = level.toNat % 32)
    (hpush : s.canPush (enterWords l) = true)
    (hread : ∀ k, 1 ≤ k → k < l → s.canRead .ss (s.regs.bp - BitVec.ofNat 16 (2 * k)) 2 = true)
    (hsp : s.prot = true → s.ss.inLimit (s.enterSp size l) 1 = true) :
    s.enterFrame size level = .ok (s.entered size l) := by
  subst hl
  have hdisplay : s.canReadDisplay (level.toNat % 32 - 1) = true :=
    State.canReadDisplay_of _ fun k h1 hk => hread k h1 (by omega)
  have hnew : (!s.prot || s.ss.inLimit (s.enterSp size (level.toNat % 32)) 1) = true := by
    cases hp : s.prot with
    | false => rfl
    | true => simpa using hsp hp
  simp only [State.enterFrame, hpush, hdisplay, hnew, check_true, run_bind_ok, run_pure, s.enterWrites_eq, State.entered]

/-- What the words of the frame read back as. -/
theorem State.readPhys16_entered {size : Word} {l : Nat} (hl : l < 32) (hpush : s.canPush (enterWords l) = true)
    (hram : s.ram (s.pushCells (enterWords l))) {k : Nat} (hk : k < enterWords l) :
    (s.entered size l).readPhys16 (s.ss.lin (s.regs.sp - BitVec.ofNat 16 (2 * (k + 1)))) =
      (s.frameWords l)[k]'(by rw [s.frameWords_length]; exact hk) := by
  have hlen := s.frameWords_length l
  have hsize : enterWords l < 0x8000 := by
    unfold enterWords
    split <;> omega
  rw [State.pushCells_eq, ← hlen] at hram
  have hwrap : NoWrap s.regs.sp (s.frameWords l).length := by
    rw [hlen]
    exact State.noWrap_of_canPush hpush
  exact State.readPhys16_pushList s.ss s.regs.sp (s.frameWords l) s hwrap (by rw [hlen]; exact hsize) hram k
    (by rw [hlen]; exact hk)

theorem State.readPhys_entered (size : Word) {l : Nat} (a : PAddr) (h : a ∉ s.pushCells (enterWords l)) :
    (s.entered size l).readPhys a = s.readPhys a := by
  rw [State.pushCells_eq, ← s.frameWords_length l] at h
  exact State.readPhys_pushList s.ss s.regs.sp (s.frameWords l) s a h

/-- BP is the first of the words. -/
theorem State.readPhys16_entered_bp {size : Word} {l : Nat} (hl : l < 32) (hpush : s.canPush (enterWords l) = true)
    (hram : s.ram (s.pushCells (enterWords l))) :
    (s.entered size l).readPhys16 (s.ss.lin (s.regs.sp - 2)) = s.regs.bp := by
  exact State.readPhys16_entered hl hpush hram (enterWords_pos l)

theorem State.leaveFrame_ok (h : s.canRead .ss s.regs.bp 2 = true) : s.leaveFrame = .ok
    { s with regs := { s.regs with sp := s.regs.bp + 2, bp := s.readPhys16 (s.ss.lin s.regs.bp) } }.advance := by
  simp only [State.leaveFrame, s.readSeg16_ok _ _ h, run_bind_ok, run_pure]
  rfl

/-- Settles O51: ENTER's stores are pushes of the frame's words, and LEAVE reads the first of them back. -/
theorem enterAndLeave : Obligations.EnterAndLeave := by
  refine ⟨?enter, ?leave, ?undo⟩
  case enter =>
    intro s size level l n frame sp hpush hread hsp hram
    have hl : l < 32 := Nat.mod_lt _ (by norm_num)
    refine ⟨s.entered size l, .of_run (r := s.enterFrame size level) rfl (State.enterFrame_ok rfl hpush hread hsp)
      (fun a ha => State.readPhys_entered size a ha), ?_, State.readPhys16_entered_bp hl hpush hram, ?_, ?_⟩
    · rw [State.entered_eq hram]
      rfl
    case refine_2 =>
      intro hpos
      have hn : n = l + 1 := if_neg (by omega)
      have hlast := State.readPhys16_entered (size := size) hl hpush hram (k := l) (by simp [enterWords, show l ≠ 0 by omega])
      have hword : (s.frameWords l)[l]'(by rw [s.frameWords_length, enterWords, if_neg (by omega)]; omega) = frame := by
        obtain ⟨m, hm⟩ : ∃ m, l = m + 1 := ⟨l - 1, by omega⟩
        simp [hm, State.frameWords, s.displayWords_length]
        rfl
      rw [hn, hlast, hword]
    case refine_3 =>
      intro hcells k h1 hk
      obtain ⟨j, rfl⟩ : ∃ j, k = j + 1 := ⟨k - 1, by omega⟩
      have hn : n = l + 1 := if_neg (by omega)
      have hj : j < (s.displayWords (l - 1)).length := by
        rw [s.displayWords_length]
        omega
      have hread := State.readPhys16_entered (size := size) hl hpush hram (k := j + 1)
        (by simp only [enterWords, if_neg (show l ≠ 0 by omega)]; omega)
      have hword : (s.displayWords (l - 1))[j] = _ := s.displayWords_getElem (by omega) hj fun a ha hmem =>
        hcells (j + 1) h1 hk a ha (by
          rw [State.pushCells_eq, hn]
          exact s.ss.pushCells_subset s.regs.sp (by omega) hmem)
      rw [show frame - BitVec.ofNat 16 (2 * (j + 1)) = s.regs.sp - BitVec.ofNat 16 (2 * (j + 1 + 1)) from
        Word.sub_two_sub s.regs.sp (j + 1), hread, ← hword]
      simp only [State.frameWords, List.getElem_cons_succ]
      exact List.getElem_append_left hj
  case leave =>
    intro s h
    exact .of_run_keep (r := s.leaveFrame) rfl (State.leaveFrame_ok h) rfl rfl rfl rfl
  case undo =>
    intro s t size level l n hpush hread hsp hram ht
    have hl : l < 32 := Nat.mod_lt _ (by norm_num)
    have hdoes : exec (.enterDwDb size level) s = .next (s.entered size l) :=
      (congrArg s.finish (State.enterFrame_ok rfl hpush hread hsp)).trans (s.finish_ok _)
    obtain rfl : s.entered size l = t := by
      rw [hdoes] at ht
      injection ht
    have hbp : (s.entered size l).canRead .ss (s.regs.sp - 2) 2 = true := by
      rw [State.entered_eq hram]
      exact State.canRead_of_canPush hpush (enterWords_pos l)
    refine ⟨_, (congrArg _ (State.leaveFrame_ok (s := s.entered size l) hbp)).trans (State.finish_ok _ _), ?_, ?_⟩
    · have hregs : (s.entered size l).regs = { s.regs with bp := s.regs.sp - 2, sp := s.enterSp size l } := by
        rw [State.entered_eq hram]
        rfl
      have hss : (s.entered size l).ss = s.ss := by
        rw [State.entered_eq hram]
        rfl
      have hword := State.readPhys16_entered_bp (size := size) hl hpush hram
      have hspback : s.regs.sp - 2 + 2 = s.regs.sp := BitVec.sub_add_cancel _ _
      simp only [State.advance_regs, hregs, hss, hword, hspback]
    · rw [State.entered_eq hram]
      exact BitVec.add_zero _

end Sys2Proof.Machine
end

section
/-!
# PUSHA and POPA (O21)
-/

namespace Sys2Proof.Machine

variable {s t : State} {i : Instr}

/-! A block of words and its words -/

theorem Word.add_even_toNat {off : Word} {n k : Nat} (h : off.toNat + 2 * n ≤ 0x10000) (hk : k < n) :
    (off + BitVec.ofNat 16 (2 * k)).toNat = off.toNat + 2 * k := by
  rw [BitVec.toNat_add, BitVec.toNat_ofNat]
  omega

/-- A block of words that does not wrap lies within a limit exactly when each of its words does (R142, R143). -/
theorem SegReg.inLimit_words (x : SegReg) {off : Word} {n : Nat} (hn : 0 < n) (h : off.toNat + 2 * n ≤ 0x10000) :
    x.inLimit off (2 * n) = true ↔ ∀ k < n, x.inLimit (off + BitVec.ofNat 16 (2 * k)) 2 = true := by
  have hoff {k : Nat} (hk : k < n) := Word.add_even_toNat h hk
  simp only [SegReg.inLimit]
  split
  · simp only [Bool.and_eq_true, decide_eq_true_eq]
    constructor
    · intro hx k hk
      rw [hoff hk]
      omega
    · intro hx
      have h0 := hx 0 hn
      rw [hoff hn] at h0
      omega
  · simp only [decide_eq_true_eq]
    constructor
    · intro hx k hk
      rw [hoff hk]
      omega
    · intro hx
      have hlast := hx (n - 1) (by omega)
      rw [hoff (by omega)] at hlast
      omega

theorem forall_and_left {n : Nat} {p : Prop} {q : Nat → Prop} (hn : 0 < n) :
    (∀ k < n, p ∧ q k) ↔ p ∧ ∀ k < n, q k :=
  ⟨fun h => ⟨(h 0 hn).1, fun k hk => (h k hk).2⟩, fun h k hk => ⟨h.1, h.2 k hk⟩⟩

theorem State.canRead_words (hp : s.prot = true) (x : SReg) {off : Word} {n : Nat} (hn : 0 < n)
    (h : off.toNat + 2 * n ≤ 0x10000) :
    s.canRead x off (2 * n) = true ↔ ∀ k < n, s.canRead x (off + BitVec.ofNat 16 (2 * k)) 2 = true := by
  simp only [State.canRead, hp, if_true, Bool.and_eq_true, forall_and_left hn, SegReg.inLimit_words _ hn h]

theorem State.canWrite_words (hp : s.prot = true) (x : SReg) {off : Word} {n : Nat} (hn : 0 < n)
    (h : off.toNat + 2 * n ≤ 0x10000) :
    s.canWrite x off (2 * n) = true ↔ ∀ k < n, s.canWrite x (off + BitVec.ofNat 16 (2 * k)) 2 = true := by
  simp only [State.canWrite, hp, if_true, Bool.and_eq_true, forall_and_left hn, SegReg.inLimit_words _ hn h]

theorem State.canPush_iff (n : Nat) :
    s.canPush n = true ↔ ∀ k < n, s.canWrite .ss (s.regs.sp - BitVec.ofNat 16 (2 * (k + 1))) 2 = true := by
  induction n with
  | zero => simp [State.canPush]
  | succ n ih => simp only [State.canPush, Bool.and_eq_true, ih, Nat.forall_lt_succ_right]

theorem State.canPop_iff (sp : Word) (n : Nat) :
    s.canPop sp n = true ↔ ∀ k < n, s.canRead .ss (sp + BitVec.ofNat 16 (2 * k)) 2 = true := by
  induction n with
  | zero => simp [State.canPop]
  | succ n ih => simp only [State.canPop, Bool.and_eq_true, ih, Nat.forall_lt_succ_right]

/-- The words below `sp` are those of the block below it, taken from its other end. -/
theorem Word.block_below (sp : Word) {n k : Nat} (hk : k < n) :
    sp - BitVec.ofNat 16 (2 * n) + BitVec.ofNat 16 (2 * (n - 1 - k)) = sp - BitVec.ofNat 16 (2 * (k + 1)) := by
  obtain ⟨j, rfl⟩ : ∃ j, n = j + (k + 1) := ⟨n - (k + 1), by omega⟩
  have hj : j + (k + 1) - 1 - k = j := by omega
  rw [hj, Nat.mul_add 2 j, BitVec.ofNat_add, ← BitVec.sub_sub, BitVec.sub_eq_add_neg (sp - _), BitVec.add_assoc,
    BitVec.add_comm (-_), ← BitVec.add_assoc, BitVec.sub_add_cancel, ← BitVec.sub_eq_add_neg]

/-- The block of eight words below an SP that does not wrap fits. -/
theorem Word.sub_sixteen_le {sp : Word} (h : sp = 0 ∨ 16 ≤ sp.toNat) : (sp - 16).toNat ≤ 0xFFF0 := by
  rw [BitVec.toNat_sub]
  rcases h with h | h
  · rw [h]
    decide
  · show (0x10000 - 16 + sp.toNat) % 0x10000 ≤ 0xFFF0
    omega

/-! PUSHA and POPA that do not wrap -/

theorem State.pushWords_eq (l : List Word) (s : State) : s.pushWords l = l.foldl State.pushRaw s := by
  induction l generalizing s with
  | nil => rfl
  | cons v l ih => exact ih (s.pushRaw v)

theorem State.canPush_eight (hp : s.prot = true) (h : s.regs.sp = 0 ∨ 16 ≤ s.regs.sp.toNat) :
    s.canWrite .ss (s.regs.sp - 16) 16 = s.canPush 8 := by
  have hoff : (s.regs.sp - 16).toNat + 2 * 8 ≤ 0x10000 := Nat.add_le_add_right (Word.sub_sixteen_le h) 16
  rw [Bool.eq_iff_iff, State.canPush_iff]
  refine (State.canWrite_words hp .ss (by norm_num) hoff).trans ⟨fun hw k hk => ?_, fun hw k hk => ?_⟩
  · rw [← Word.block_below s.regs.sp hk]
    exact hw (7 - k) (by omega)
  · have hback := Word.block_below s.regs.sp (n := 8) (k := 7 - k) (by omega)
    rw [show 8 - 1 - (7 - k) = k by omega] at hback
    exact (congrArg (fun a => s.canWrite .ss a 2 = true) hback).mpr (hw (7 - k) (by omega))

/-- PUSHA where the stack does not wrap: one check and eight pushes (R317). -/
theorem State.pusha_eq (h : s.prot = true → s.regs.sp = 0 ∨ 16 ≤ s.regs.sp.toNat) :
    s.pusha = (do
      check (s.canPush 8) (s.segFault .ss)
      pure (s.pushWords s.pushaWords).advance) := by
  cases hp : s.prot with
  | false => simp only [State.pusha, hp, Bool.false_eq_true, if_false]
  | true =>
    have hwrap : pushaWraps s.regs.sp = false := by
      rcases h hp with h | h
      · rw [h]
        rfl
      · simp [pushaWraps, h]
    simp only [State.pusha, hp, hwrap, if_true, Bool.false_eq_true, if_false, State.canPush_eight hp (h hp)]

/-- POPA where the stack does not wrap: one check and eight words read (R321). -/
theorem State.popa_eq (h : s.prot = true → s.regs.sp.toNat ≤ 0xFFF0) :
    s.popa = (do
      check (s.canPop s.regs.sp 8) (s.segFault .ss)
      pure ((s.popWords s.regs.sp popaRegs).setSp (s.regs.sp + 16)).advance) := by
  cases hp : s.prot with
  | false => simp only [State.popa, hp, Bool.false_eq_true, if_false]
  | true =>
    have hle := h hp
    have hcan : s.canRead .ss s.regs.sp 16 = s.canPop s.regs.sp 8 := by
      rw [Bool.eq_iff_iff, State.canPop_iff]
      exact State.canRead_words hp .ss (n := 8) (by norm_num) (by omega)
    simp only [State.popa, hp, if_true, if_neg (show ¬ 0xFFF0 < s.regs.sp.toNat by omega), hcan]

/-- The words of `l` pushed, SP at `p`, and the instruction completed. -/
def State.afterPushes (s : State) (l : List Word) (p : Word) : State :=
  ((s.pushList s.ss s.regs.sp l).setSp p).advance

section
variable (l : List Word) (p : Word)

theorem State.afterPushes_eq (s : State) : s.afterPushes l p =
    { s.pushList s.ss s.regs.sp l with regs := { s.regs with sp := p } }.advance :=
  congrArg (fun r => { s.pushList s.ss s.regs.sp l with regs := { r with sp := p } }.advance)
    (State.pushList_regs s.ss s.regs.sp l s)

theorem State.afterPushes_ram (h : s.ram (s.pushCells l.length)) : s.afterPushes l p =
    { { s with regs := { s.regs with sp := p } }.advance with mem := (s.pushList s.ss s.regs.sp l).mem } := by
  rw [State.pushCells_eq] at h
  rw [State.afterPushes, State.pushList_ram s.ss s.regs.sp l s h]
  rfl

theorem State.afterPushes_sp (s : State) : (s.afterPushes l p).regs.sp = p := rfl

theorem State.afterPushes_ss (s : State) : (s.afterPushes l p).ss = s.ss :=
  (congrArg State.ss (s.afterPushes_eq l p)).trans (State.pushList_ss s.ss s.regs.sp l s)

theorem State.afterPushes_prot (s : State) : (s.afterPushes l p).prot = s.prot :=
  (congrArg State.prot (s.afterPushes_eq l p)).trans
    (congrArg Msw.pe (State.pushList_msw s.ss s.regs.sp l s))

theorem State.readPhys_afterPushes (a : PAddr) (h : a ∉ s.pushCells l.length) :
    (s.afterPushes l p).readPhys a = s.readPhys a := by
  rw [State.pushCells_eq] at h
  exact State.readPhys_pushList s.ss s.regs.sp l s a h

theorem State.readPhys16_afterPushes (h : s.canPush l.length = true) (hl : l.length < 0x8000)
    (hram : s.ram (s.pushCells l.length)) {k : Nat} (hk : k < l.length) :
    (s.afterPushes l p).readPhys16 (s.ss.lin (s.regs.sp - BitVec.ofNat 16 (2 * (k + 1)))) = l[k] := by
  rw [State.pushCells_eq] at hram
  exact State.readPhys16_pushList s.ss s.regs.sp l s (State.noWrap_of_canPush h) hl hram k hk

theorem State.canRead_afterPushes (h : s.canPush l.length = true) (hram : s.ram (s.pushCells l.length)) {k : Nat}
    (hk : k < l.length) :
    (s.afterPushes l p).canRead .ss (s.regs.sp - BitVec.ofNat 16 (2 * (k + 1))) 2 = true := by
  rw [State.afterPushes_ram l p hram]
  exact s.canRead_of_canWrite .ss _ 2 ((State.canPush_iff l.length).mp h k hk)

end

/-- An instruction has no length left once it has completed. -/
theorem State.advance_advance (u : State) (r : Regs) :
    { u.advance with regs := r }.advance = { u.advance with regs := r } :=
  congrArg (fun v => { u.advance with regs := r, ip := v }) (BitVec.add_zero _)

/-- The state after a PUSHA that does not wrap. -/
def State.pushedAll (s : State) : State := s.afterPushes s.pushaWords (s.regs.sp - 16)

theorem State.pushedAll_sp (s : State) : s.pushedAll.regs.sp = s.regs.sp - 16 := s.afterPushes_sp s.pushaWords _

theorem State.pushedAll_ss (s : State) : s.pushedAll.ss = s.ss := s.afterPushes_ss s.pushaWords _

theorem State.pushedAll_prot (s : State) : s.pushedAll.prot = s.prot := s.afterPushes_prot s.pushaWords _

theorem State.pushedAll_advance (s : State) (r : Regs) :
    { s.pushedAll with regs := r }.advance = { s.pushedAll with regs := r } :=
  State.advance_advance ((s.pushList s.ss s.regs.sp s.pushaWords).setSp (s.regs.sp - 16)) r

theorem State.pusha_ok (h : s.canPush 8 = true) (hw : s.prot = true → s.regs.sp = 0 ∨ 16 ≤ s.regs.sp.toNat) :
    s.pusha = .ok s.pushedAll := by
  rw [State.pusha_eq hw, h, check_true, run_bind_ok, run_pure, State.pushWords_eq, State.foldl_pushRaw]
  exact congrArg Except.ok rfl

/-- The eight stores of a PUSHA that does not wrap (R317). -/
theorem State.pushList_pushaWords (s : State) : s.pushList s.ss s.regs.sp s.pushaWords =
    (let w (k v : Word) (t : State) : State := t.writePhys16 (s.stackAddr k) v
     s |> w (-2) s.regs.ax |> w (-4) s.regs.cx |> w (-6) s.regs.dx |> w (-8) s.regs.bx
      |> w (-10) s.regs.sp |> w (-12) s.regs.bp |> w (-14) s.regs.si |> w (-16) s.regs.di) := by
  simp only [State.pushaWords, State.pushList, State.stackAddr_neg, BitVec.sub_sub, BitVec.reduceAdd,
    BitVec.ofNat_eq_ofNat]

/-- Registers loaded one after the other, the `k`th word into a register that holds `x` giving `v k x`. -/
def Regs.load (v : Nat → Word → Word) (r : Regs) : List (Nat × Reg16) → Regs
  | [] => r
  | (k, q) :: rs => (r.set q (v k (r.get q))).load v rs

theorem Regs.load_popaRegs (v : Nat → Word → Word) (r : Regs) : r.load v popaRegs =
    { di := v 0 r.di, si := v 1 r.si, bp := v 2 r.bp, sp := r.sp, bx := v 4 r.bx, dx := v 5 r.dx, cx := v 6 r.cx,
      ax := v 7 r.ax } := rfl

theorem State.popWords_eq (s : State) (r : Regs) (sp : Word) (rs : List (Nat × Reg16)) :
    { s with regs := r }.popWords sp rs =
      { s with regs := r.load (fun k _ => s.readPhys16 (s.ss.lin (sp + BitVec.ofNat 16 (2 * k)))) rs } := by
  induction rs generalizing r with
  | nil => rfl
  | cons p rs ih => exact ih _

/-- The registers that POPA loads (R321). -/
def State.popped (s : State) : Regs :=
  let w (k : Word) : Word := s.readPhys16 (s.stackAddr k)
  { ax := w 14, cx := w 12, dx := w 10, bx := w 8, sp := s.regs.sp + 16, bp := w 4, si := w 2, di := w 0 }

theorem State.popa_ok (h : ∀ k < 8, s.canRead .ss (s.regs.sp + BitVec.ofNat 16 (2 * k)) 2 = true)
    (hw : s.prot = true → s.regs.sp.toNat ≤ 0xFFF0) : s.popa = .ok { s with regs := s.popped }.advance := by
  rw [State.popa_eq hw, (State.canPop_iff s.regs.sp 8).mpr h, check_true, run_bind_ok, run_pure,
    State.popWords_eq s s.regs, Regs.load_popaRegs]
  rfl

/-! PUSHA and POPA that wrap -/

/-- What a POPA that wraps makes of a register that holds `x`: the `k`th word or, where it cannot be read or is not
read, `x` (R321, D21). -/
def State.wrapValue (s : State) (sp : Word) (k : Nat) (x : Word) : Word :=
  if s.canRead .ss (sp + BitVec.ofNat 16 (2 * k)) 2 = true ∧ Config.freeBit s.free (.wrap k) = true then
    s.readPhys16 (s.ss.lin (sp + BitVec.ofNat 16 (2 * k)))
  else x

theorem Regs.set_get (r : Regs) (q : Reg16) : r.set q (r.get q) = r := by cases q <;> rfl

theorem State.popaWrap_eq (s : State) (r : Regs) (sp : Word) (rs : List (Nat × Reg16)) :
    { s with regs := r }.popaWrap sp rs = { s with regs := r.load (s.wrapValue sp) rs } := by
  induction rs generalizing r with
  | nil => rfl
  | cons p rs ih =>
    obtain ⟨k, q⟩ := p
    refine Eq.trans (congrArg (fun u : State => u.popaWrap sp rs) ?_) (ih _)
    by_cases hc : s.canRead .ss (sp + BitVec.ofNat 16 (2 * k)) 2 = true ∧ Config.freeBit s.free (.wrap k) = true
    · exact (if_pos hc).trans (congrArg (fun v => { s with regs := r.set q v }) (if_pos hc).symm)
    · exact (if_neg hc).trans (congrArg (fun r' => { s with regs := r' })
        ((r.set_get q).symm.trans (congrArg (r.set q) (if_neg hc).symm)))

theorem State.popa_wraps (hp : s.prot = true) (h : 0xFFF0 < s.regs.sp.toNat) : s.popa =
    .error (.exc 12 (some 0) (some ((s.popaWrap s.regs.sp popaRegs).setSp (0xFFFE + (s.regs.sp &&& 1))))) := by
  simp only [State.popa, hp, if_true, if_pos h]

theorem State.pusha_wraps (hp : s.prot = true) (h0 : 0 < s.regs.sp.toNat) (h : s.regs.sp.toNat < 16) : s.pusha =
    .error (.exc 12 (some 0) (some ((s.pushaWrap s.regs.sp 0 s.pushaWords).setSp (s.regs.sp &&& 1)))) := by
  have hwrap : pushaWraps s.regs.sp = true := by simp [pushaWraps, h0, h]
  simp only [State.pusha, hp, hwrap, if_true]

/-- One word of a PUSHA that wraps: written, or not (R317, D21). -/
def State.wrapWord (s : State) (sp : Word) (k : Nat) (v : Word) : State :=
  let off := sp - BitVec.ofNat 16 (2 * (k + 1))
  if 2 * (k + 1) ≤ sp.toNat ∧ s.canWrite .ss off 2 = true ∧ Config.freeBit s.free (.wrap k) = true then
    s.writePhys16 (s.ss.lin off) v
  else s

theorem State.pushaWrap_cons (sp : Word) (k : Nat) (v : Word) (vs : List Word) :
    s.pushaWrap sp k (v :: vs) = (s.wrapWord sp k v).pushaWrap sp (k + 1) vs := rfl

theorem State.wrapWord_eq (s : State) (sp : Word) (k : Nat) (v : Word) : s.wrapWord sp k v =
    { s with mem := (s.wrapWord sp k v).mem, hostOut := (s.wrapWord sp k v).hostOut } := by
  unfold State.wrapWord
  dsimp only
  split
  · exact s.writePhys16_eq _ _
  · rfl

theorem State.pushaWrap_eq (sp : Word) (k : Nat) (vs : List Word) (s : State) : s.pushaWrap sp k vs =
    { s with mem := (s.pushaWrap sp k vs).mem, hostOut := (s.pushaWrap sp k vs).hostOut } := by
  induction vs generalizing s k with
  | nil => rfl
  | cons v vs ih =>
    rw [State.pushaWrap_cons, ih]
    exact congrArg (fun u : State => { u with
      mem := ((s.wrapWord sp k v).pushaWrap sp (k + 1) vs).mem
      hostOut := ((s.wrapWord sp k v).pushaWrap sp (k + 1) vs).hostOut }) (s.wrapWord_eq sp k v)

/-- A byte that is none of a word below the old SP is left alone. -/
theorem State.readPhys_wrapWord (s : State) (sp : Word) (k : Nat) (v : Word) (a : PAddr)
    (h : 2 * (k + 1) ≤ sp.toNat → a ∉ wordCells (s.ss.lin (sp - BitVec.ofNat 16 (2 * (k + 1))))) :
    (s.wrapWord sp k v).readPhys a = s.readPhys a := by
  unfold State.wrapWord
  dsimp only
  split
  next hc =>
    obtain ⟨hle, -⟩ := hc
    exact s.readPhys_writePhys16_ne _ a v (h hle)
  next => rfl

theorem State.readPhys_pushaWrap (sp : Word) (k : Nat) (vs : List Word) (s : State) (a : PAddr)
    (h : ∀ j, k ≤ j → 2 * (j + 1) ≤ sp.toNat → a ∉ wordCells (s.ss.lin (sp - BitVec.ofNat 16 (2 * (j + 1))))) :
    (s.pushaWrap sp k vs).readPhys a = s.readPhys a := by
  induction vs generalizing s k with
  | nil => rfl
  | cons v vs ih =>
    have hss : (s.wrapWord sp k v).ss = s.ss := by rw [State.wrapWord_eq]
    rw [State.pushaWrap_cons, ih (k + 1) _ (by rw [hss]; exact fun j hj => h j (Nat.le_of_succ_le hj))]
    exact s.readPhys_wrapWord sp k v a (h k le_rfl)

/-- Two of the words below the old SP do not overlap. -/
theorem SegReg.below_disjoint (x : SegReg) {sp : Word} {j k : Nat} (hj : 2 * (j + 1) ≤ sp.toNat)
    (hk : 2 * (k + 1) ≤ sp.toNat) (hjk : j ≠ k) : ∀ c ∈ wordCells (x.lin (sp - BitVec.ofNat 16 (2 * (j + 1)))),
      c ∉ wordCells (x.lin (sp - BitVec.ofNat 16 (2 * (k + 1)))) := by
  have hsp := sp.isLt
  have hsub {m : Nat} (hm : 2 * (m + 1) ≤ sp.toNat) :
      (sp - BitVec.ofNat 16 (2 * (m + 1))).toNat = sp.toNat - 2 * (m + 1) := by
    rw [BitVec.toNat_sub, BitVec.toNat_ofNat]
    omega
  refine x.wordCells_disjoint ?_ ?_ ?_ <;> simp only [hsub hj, hsub hk] <;> omega

/-- EACH WORD OF A PUSHA THAT WRAPS is written whole or not at all, and only where its checks allow it (R317). -/
theorem State.readPhys16_pushaWrap (sp : Word) (k : Nat) (vs : List Word) (s : State) {j : Nat}
    (hj : j < vs.length) (hle : 2 * (k + j + 1) ≤ sp.toNat) :
    let off := sp - BitVec.ofNat 16 (2 * (k + j + 1))
    (s.pushaWrap sp k vs).readPhys16 (s.ss.lin off) = s.readPhys16 (s.ss.lin off) ∨
      s.canWrite .ss off 2 = true ∧ (s.ram (wordCells (s.ss.lin off)) →
        (s.pushaWrap sp k vs).readPhys16 (s.ss.lin off) = vs[j]) := by
  induction vs generalizing s k j with
  | nil => exact absurd hj (Nat.not_lt_zero j)
  | cons v vs ih =>
    have heq := s.wrapWord_eq sp k v
    have hss : (s.wrapWord sp k v).ss = s.ss := by rw [heq]
    cases j with
    | zero =>
      have hrest (a : PAddr) (ha : a ∈ wordCells (s.ss.lin (sp - BitVec.ofNat 16 (2 * (k + 1))))) :
          (s.pushaWrap sp k (v :: vs)).readPhys a = (s.wrapWord sp k v).readPhys a :=
        State.readPhys_pushaWrap sp (k + 1) vs (s.wrapWord sp k v) a fun m hm hmle => by
          rw [hss]
          exact s.ss.below_disjoint hle hmle (by omega) a ha
      have hread : (s.pushaWrap sp k (v :: vs)).readPhys16 (s.ss.lin (sp - BitVec.ofNat 16 (2 * (k + 1)))) =
          (s.wrapWord sp k v).readPhys16 (s.ss.lin (sp - BitVec.ofNat 16 (2 * (k + 1)))) := by
        rw [State.readPhys16, State.readPhys16, hrest _ (by simp [wordCells]), hrest _ (by simp [wordCells])]
      simp only [Nat.add_zero, hread, List.getElem_cons_zero]
      by_cases hc : 2 * (k + 1) ≤ sp.toNat ∧ s.canWrite .ss (sp - BitVec.ofNat 16 (2 * (k + 1))) 2 = true ∧
          Config.freeBit s.free (.wrap k) = true
      · have hword : s.wrapWord sp k v = s.writePhys16 (s.ss.lin (sp - BitVec.ofNat 16 (2 * (k + 1)))) v := if_pos hc
        obtain ⟨-, hcan, -⟩ := hc
        rw [hword]
        exact .inr ⟨hcan, s.readPhys16_writePhys16 _ v⟩
      · have hword : s.wrapWord sp k v = s := if_neg hc
        rw [hword]
        exact .inl rfl
    | succ j =>
      have hidx : k + 1 + j + 1 = k + (j + 1) + 1 := by omega
      have hother (a : PAddr) (ha : a ∈ wordCells (s.ss.lin (sp - BitVec.ofNat 16 (2 * (k + (j + 1) + 1))))) :
          (s.wrapWord sp k v).readPhys a = s.readPhys a :=
        s.readPhys_wrapWord sp k v a fun hkle => s.ss.below_disjoint hle hkle (by omega) a ha
      have hread : (s.wrapWord sp k v).readPhys16 (s.ss.lin (sp - BitVec.ofNat 16 (2 * (k + (j + 1) + 1)))) =
          s.readPhys16 (s.ss.lin (sp - BitVec.ofNat 16 (2 * (k + (j + 1) + 1)))) := by
        rw [State.readPhys16, State.readPhys16, hother _ (by simp [wordCells]), hother _ (by simp [wordCells])]
      have hrest := ih (k + 1) (s.wrapWord sp k v) (Nat.lt_of_succ_lt_succ hj) (by rw [hidx]; exact hle)
      have hcan : (s.wrapWord sp k v).canWrite .ss = s.canWrite .ss := by rw [heq]; rfl
      have hram : (s.wrapWord sp k v).ram = s.ram := by rw [heq]; rfl
      simp only [hidx, hss, hread, hcan, hram] at hrest
      exact hrest

/-! The statement -/

theorem State.pushCells_below {a : PAddr} (h : a ∉ s.pushCells (s.regs.sp.toNat / 2)) (k : Nat)
    (hk : 2 * (k + 1) ≤ s.regs.sp.toNat) : a ∉ wordCells (s.ss.lin (s.regs.sp - BitVec.ofNat 16 (2 * (k + 1)))) := by
  rw [State.pushCells_eq] at h
  exact fun ha => h (SegReg.mem_pushCells.mpr ⟨k, by omega, ha⟩)

/-- POPA after PUSHA loads the registers that PUSHA pushed. -/
theorem State.popped_pushedAll (h : s.canPush 8 = true) (hram : s.ram (s.pushCells 8)) :
    s.pushedAll.popped = s.regs := by
  have hsp := s.pushedAll_sp
  have hword {j : Nat} (hj : j < 8) :
      s.pushedAll.readPhys16 (s.pushedAll.stackAddr (BitVec.ofNat 16 (2 * (8 - 1 - j)))) = s.pushaWords[j]'hj := by
    rw [State.stackAddr, hsp, s.pushedAll_ss]
    refine (congrArg (fun a => s.pushedAll.readPhys16 (s.ss.lin a)) (Word.block_below s.regs.sp hj)).trans ?_
    exact State.readPhys16_afterPushes s.pushaWords (s.regs.sp - 16) h (by show 8 < 0x8000; norm_num) hram hj
  have h0 : s.pushedAll.readPhys16 (s.pushedAll.stackAddr 14) = s.regs.ax := hword (j := 0) (by norm_num)
  have h1 : s.pushedAll.readPhys16 (s.pushedAll.stackAddr 12) = s.regs.cx := hword (j := 1) (by norm_num)
  have h2 : s.pushedAll.readPhys16 (s.pushedAll.stackAddr 10) = s.regs.dx := hword (j := 2) (by norm_num)
  have h3 : s.pushedAll.readPhys16 (s.pushedAll.stackAddr 8) = s.regs.bx := hword (j := 3) (by norm_num)
  have h5 : s.pushedAll.readPhys16 (s.pushedAll.stackAddr 4) = s.regs.bp := hword (j := 5) (by norm_num)
  have h6 : s.pushedAll.readPhys16 (s.pushedAll.stackAddr 2) = s.regs.si := hword (j := 6) (by norm_num)
  have h7 : s.pushedAll.readPhys16 (s.pushedAll.stackAddr 0) = s.regs.di := hword (j := 7) (by norm_num)
  have hback : s.regs.sp - 16 + 16 = s.regs.sp := BitVec.sub_add_cancel _ _
  simp only [State.popped, h0, h1, h2, h3, h5, h6, h7, hsp, hback]

/-- After PUSHA its eight words can be read. -/
theorem State.canRead_pushedAll (h : s.canPush 8 = true) (hram : s.ram (s.pushCells 8)) {k : Nat} (hk : k < 8) :
    s.pushedAll.canRead .ss (s.pushedAll.regs.sp + BitVec.ofNat 16 (2 * k)) 2 = true := by
  have hcan := State.canRead_afterPushes s.pushaWords (s.regs.sp - 16) h hram (k := 7 - k) (by show 7 - k < 8; omega)
  have hback := Word.block_below s.regs.sp (n := 8) (k := 7 - k) (by omega)
  rw [show 8 - 1 - (7 - k) = k by omega] at hback
  rw [s.pushedAll_sp]
  exact (congrArg (fun a => s.pushedAll.canRead .ss a 2 = true) hback).mpr hcan

/-- Settles O21. -/
theorem pushaAndPopa : Obligations.PushaAndPopa := by
  refine ⟨fun s => ⟨?pusha, ?popa⟩, ?undo, fun s => ⟨?pushaFault, ?popaFault⟩, ?pushaWraps, ?popaWraps⟩
  case pusha =>
    intro h hw w u
    have hdoes : Does .pusha s s.pushedAll (s.pushCells 8) :=
      .of_run (r := s.pusha) rfl (State.pusha_ok h hw) fun a ha =>
        State.readPhys_afterPushes s.pushaWords (s.regs.sp - 16) a ha
    rw [State.pushedAll, State.afterPushes_eq, State.pushList_pushaWords] at hdoes
    exact hdoes
  case popa =>
    intro h hw w r
    exact .of_run_keep (r := s.popa) rfl (State.popa_ok h hw) rfl rfl rfl rfl
  case undo =>
    intro s t h hw hram ht
    have hpusha : exec .pusha s = .next s.pushedAll := (congrArg s.finish (State.pusha_ok h hw)).trans (s.finish_ok _)
    obtain rfl : s.pushedAll = t := by
      rw [hpusha] at ht
      injection ht
    have hle : s.pushedAll.prot = true → s.pushedAll.regs.sp.toNat ≤ 0xFFF0 := by
      rw [s.pushedAll_prot, s.pushedAll_sp]
      exact fun hp => Word.sub_sixteen_le (hw hp)
    have hpopa := State.popa_ok (fun k hk => State.canRead_pushedAll h hram hk) hle
    rw [State.popped_pushedAll h hram, s.pushedAll_advance] at hpopa
    have hexec : exec .popa s.pushedAll = s.pushedAll.finish s.pushedAll.popa := rfl
    rw [hexec, hpopa, State.finish_ok]
  case pushaFault =>
    intro h hw
    have hrun : s.pusha = .error (s.segFault .ss) := by
      rw [State.pusha_eq hw, h, check_false, run_bind_error]
    exact (congrArg s.finish hrun).trans (s.finish_segFault .ss)
  case popaFault =>
    rintro ⟨k, hk, hcan⟩ hw
    have hpop : s.canPop s.regs.sp 8 = false := by
      rw [Bool.eq_false_iff, ne_eq, State.canPop_iff]
      exact fun hall => absurd (hall k hk) (by rw [hcan]; exact Bool.false_ne_true)
    have hrun : s.popa = .error (s.segFault .ss) := by
      rw [State.popa_eq hw, hpop, check_false, run_bind_error]
    exact (congrArg s.finish hrun).trans (s.finish_segFault .ss)
  case pushaWraps =>
    intro s hp h0 h w
    refine ⟨(s.pushaWrap s.regs.sp 0 s.pushaWords).setSp (s.regs.sp &&& 1),
      (congrArg s.finish (State.pusha_wraps hp h0 h)).trans rfl, ?rest, ?regs, ?frame, ?words⟩
    case rest =>
      rw [State.pushaWrap_eq]
      rfl
    case regs =>
      rw [State.pushaWrap_eq]
      rfl
    case frame =>
      exact fun a ha => State.readPhys_pushaWrap s.regs.sp 0 s.pushaWords s a fun j _ hj => State.pushCells_below ha j hj
    case words =>
      intro k hk off a
      have hlen : k < s.pushaWords.length := by
        show k < 8
        omega
      have hword := State.readPhys16_pushaWrap s.regs.sp 0 s.pushaWords s hlen (by omega)
      simp only [Nat.zero_add] at hword
      rcases hword with hsame | ⟨hcan, hstored⟩
      · exact .inl hsame
      · exact .inr ⟨hcan, fun hram => (congrArg some (hstored hram)).trans (List.getElem?_eq_getElem hlen).symm⟩
  case popaWraps =>
    intro s hp h
    refine ⟨s.wrapValue s.regs.sp, fun k x => ?_, ?_⟩
    · dsimp only
      unfold State.wrapValue
      split
      next hc =>
        obtain ⟨hcan, -⟩ := hc
        exact .inr ⟨hcan, rfl⟩
      next => exact .inl rfl
    · refine (congrArg s.finish (State.popa_wraps hp h)).trans ?_
      rw [State.popaWrap_eq s s.regs, Regs.load_popaRegs]
      rfl

end Sys2Proof.Machine
end

section
/-!
# The references of instructions (O14)
-/

namespace Sys2Proof.Machine

variable {s t : State} {i : Instr}

/-! Computations that make references -/

/-- A computation that first checks the references `l`, in their order, comes to what the first refused one says. -/
def Run.Faults {α : Type} (s : State) (l : List Ref) (r : Run α) : Prop :=
  ∀ q, l.find? (fun q => !s.permits q) = some q → ∃ e, r = .error e ∧ s.stopped e = s.badReference q.seg

theorem State.stopped_segFault (s : State) (x : SReg) : s.stopped (s.segFault x) = s.badReference x := by
  rw [← s.finish_error, s.finish_segFault]

section
variable {α β : Type} {l k : List Ref} {q : Ref} {m : Run α} {g : α → Run β}

theorem Run.Faults.none (r : Run α) : Run.Faults s [] r := fun q h => by simp at h

theorem Run.Faults.bind (h : Run.Faults s l m) (g : α → Run β) : Run.Faults s l (m >>= g) := fun q hq => by
  obtain ⟨e, he, hstop⟩ := h q hq
  exact ⟨e, by rw [he, run_bind_error], hstop⟩

/-- References checked one after the other. -/
theorem Run.Faults.seq (h : Run.Faults s l m)
    (hok : (∀ q ∈ l, s.permits q = true) → ∃ v, m = .ok v ∧ Run.Faults s k (g v)) :
    Run.Faults s (l ++ k) (m >>= g) := by
  intro q hq
  rw [List.find?_append] at hq
  cases hl : l.find? (fun q => !s.permits q) with
  | some p =>
    rw [hl, Option.some_or] at hq
    exact h.bind g q (hl.trans hq)
  | none =>
    rw [hl, Option.none_or] at hq
    have hall : ∀ q ∈ l, s.permits q = true := by simpa using hl
    obtain ⟨v, hv, hk⟩ := hok hall
    rw [hv, run_bind_ok]
    exact hk q hq

theorem Run.Faults.check {b : Bool} (h : s.permits q = b) : Run.Faults s [q] (check b (s.segFault q.seg)) := by
  intro p hp
  cases hb : b with
  | true => simp [h, hb] at hp
  | false =>
    obtain rfl : q = p := by simpa [h, hb] using hp
    exact ⟨s.segFault q.seg, rfl, s.stopped_segFault q.seg⟩

/-- A test of the mode or of the privilege before the references. -/
theorem Run.Faults.after {b : Bool} {e : Stop} {r : Run α} (hb : b = true) (h : Run.Faults s l r) :
    Run.Faults s l (Machine.check b e >>= fun _ => r) := by
  rw [hb, check_true, run_bind_ok]
  exact h

/-- References are made under a condition. -/
theorem Run.Faults.ite {c : Prop} [Decidable c] {r : Run α} (h : c → Run.Faults s l r) :
    Run.Faults s (if c then l else []) r := by
  by_cases hc : c
  · rw [if_pos hc]
    exact h hc
  · rw [if_neg hc]
    exact .none r

end

/-! Checked accesses -/

section
variable (s : State) (x : SReg) (off : Word)

theorem State.readSeg8_faults : Run.Faults s [⟨x, off, 1, false⟩] (s.readSeg8 x off) := .bind (.check rfl) _
theorem State.readSeg16_faults : Run.Faults s [⟨x, off, 2, false⟩] (s.readSeg16 x off) := .bind (.check rfl) _
theorem State.readSeg32_faults : Run.Faults s [⟨x, off, 4, false⟩] (s.readSeg32 x off) := .bind (.check rfl) _
theorem State.readSeg48_faults : Run.Faults s [⟨x, off, 6, false⟩] (s.readSeg48 x off) := .bind (.check rfl) _
theorem State.writeSeg8_faults (v : Byte) : Run.Faults s [⟨x, off, 1, true⟩] (s.writeSeg8 x off v) :=
  .bind (.check rfl) _
theorem State.writeSeg16_faults (v : Word) : Run.Faults s [⟨x, off, 2, true⟩] (s.writeSeg16 x off v) :=
  .bind (.check rfl) _

theorem State.readE8_faults (e : E8) : Run.Faults s (s.mem8 false e) (s.readE8 e) := by
  cases e with
  | reg r => exact .none _
  | mem m => exact s.readSeg8_faults _ _

theorem State.readE16_faults (e : E16) : Run.Faults s (s.mem16 false e) (s.readE16 e) := by
  cases e with
  | reg r => exact .none _
  | mem m => exact s.readSeg16_faults _ _

theorem State.writeE8_faults (e : E8) (v : Byte) : Run.Faults s (s.mem8 true e) (s.writeE8 e v) := by
  cases e with
  | reg r => exact .none _
  | mem m => exact s.writeSeg8_faults _ _ v

theorem State.writeE16_faults (e : E16) (v : Word) : Run.Faults s (s.mem16 true e) (s.writeE16 e v) := by
  cases e with
  | reg r => exact .none _
  | mem m => exact s.writeSeg16_faults _ _ v

theorem State.readPointer_faults (e : E16) : Run.Faults s (s.memMany 4 false e) (s.readPointer e) := by
  cases e with
  | reg r => exact .none _
  | mem m => exact s.readSeg32_faults _ _

/-- A refused write that leaves the state as it was. -/
theorem State.leaving_segFault : ∃ e, leaving s (.error (s.segFault x) : Run State) = .error e ∧
    s.stopped e = s.badReference x := by
  rw [← s.stopped_segFault x, s.segFault_eq_exc]
  exact ⟨_, rfl, rfl⟩

theorem Run.Faults.leaving {b : Bool} {q : Ref} {f : Unit → Run State} (h : s.permits q = b) :
    Run.Faults s [q] (leaving s (Machine.check b (s.segFault q.seg) >>= f)) := by
  intro p hp
  cases hb : b with
  | true => simp [h, hb] at hp
  | false =>
    obtain rfl : q = p := by simpa [h, hb] using hp
    exact s.leaving_segFault q.seg

theorem State.leaving_writeE8_faults (e : E8) (v : Byte) :
    Run.Faults s (s.mem8 true e) (leaving s (s.writeE8 e v)) := by
  cases e with
  | reg r => exact .none _
  | mem m => exact .leaving s rfl

theorem State.leaving_writeE16_faults (e : E16) (v : Word) :
    Run.Faults s (s.mem16 true e) (leaving s (s.writeE16 e v)) := by
  cases e with
  | reg r => exact .none _
  | mem m => exact .leaving s rfl

end

/-! What a passed reference allows -/

theorem State.canReadE8_of_mem8 {e : E8} (h : ∀ q ∈ s.mem8 false e, s.permits q = true) : s.canReadE8 e = true := by
  cases e with
  | reg r => rfl
  | mem m => exact h _ List.mem_cons_self

theorem State.canReadE16_of_mem16 {e : E16} (h : ∀ q ∈ s.mem16 false e, s.permits q = true) :
    s.canReadE16 e = true := by
  cases e with
  | reg r => rfl
  | mem m => exact h _ List.mem_cons_self

/-- An operand read, and then what is made of it. -/
theorem Run.Faults.readE8 {α : Type} {k : List Ref} {e : E8} {g : Byte → Run α} (h : Run.Faults s k (g (s.val8 e))) :
    Run.Faults s (s.mem8 false e ++ k) (s.readE8 e >>= g) :=
  .seq (s.readE8_faults e) fun hl => ⟨_, s.readE8_ok e (State.canReadE8_of_mem8 hl), h⟩

theorem Run.Faults.readE16 {α : Type} {k : List Ref} {e : E16} {g : Word → Run α} (h : Run.Faults s k (g (s.val16 e))) :
    Run.Faults s (s.mem16 false e ++ k) (s.readE16 e >>= g) :=
  .seq (s.readE16_faults e) fun hl => ⟨_, s.readE16_ok e (State.canReadE16_of_mem16 hl), h⟩

/-! Operations on operands -/

section
variable (s : State)

theorem State.aluE8_faults {op : AluOp} (h : op.usesCarry = false) (e : E8) (b : Byte) :
    Run.Faults s (s.mem8 false e ++ s.mem8 true e) (s.aluE8 op e b) := by
  refine .readE8 (.bind ?_ _)
  rw [State.aluRefused, h]
  exact s.leaving_writeE8_faults e _

theorem State.aluE16_faults {op : AluOp} (h : op.usesCarry = false) (e : E16) (b : Word) :
    Run.Faults s (s.mem16 false e ++ s.mem16 true e) (s.aluE16 op e b) := by
  refine .readE16 (.bind ?_ _)
  rw [State.aluRefused, h]
  exact s.leaving_writeE16_faults e _

theorem State.shift8_faults {op : ShiftOp} (h : op.usesCarry = false) (e : E8) (cnt : Byte) :
    Run.Faults s (s.mem8 false e ++ s.mem8 true e) (s.shift8 op e cnt) := by
  refine .readE8 (.bind ?_ _)
  rw [State.shiftRefused, h]
  exact s.leaving_writeE8_faults e _

theorem State.shift16_faults {op : ShiftOp} (h : op.usesCarry = false) (e : E16) (cnt : Byte) :
    Run.Faults s (s.mem16 false e ++ s.mem16 true e) (s.shift16 op e cnt) := by
  refine .readE16 (.bind ?_ _)
  rw [State.shiftRefused, h]
  exact s.leaving_writeE16_faults e _

theorem State.updateE8_faults (e : E8) (g : Byte → Byte) (fl : Byte → Flags) :
    Run.Faults s (s.mem8 false e ++ s.mem8 true e) (s.updateE8 e g fl) := .readE8 (.bind (s.writeE8_faults e _) _)

theorem State.updateE16_faults (e : E16) (g : Word → Word) (fl : Word → Flags) :
    Run.Faults s (s.mem16 false e ++ s.mem16 true e) (s.updateE16 e g fl) := .readE16 (.bind (s.writeE16_faults e _) _)

/-! The stack -/

theorem State.pushRefs_succ (n : Nat) : s.pushRefs (n + 1) =
    s.pushRefs n ++ [⟨.ss, s.regs.sp - BitVec.ofNat 16 (2 * (n + 1)), 2, true⟩] := by
  simp [State.pushRefs, List.range_succ]

theorem State.canPush_eq (n : Nat) : s.canPush n = (s.pushRefs n).all s.permits := by
  induction n with
  | zero => rfl
  | succ n ih => simp [State.canPush, State.pushRefs_succ, ih, State.permits]

theorem State.canReadDisplay_eq (n : Nat) : s.canReadDisplay n =
    ((List.range n).map fun k => s.ssRef (s.regs.bp - BitVec.ofNat 16 (2 * (k + 1)))).all s.permits := by
  induction n with
  | zero => rfl
  | succ n ih => simp [State.canReadDisplay, List.range_succ, ih, State.permits, State.ssRef]

/-- References through one register checked at once. -/
theorem Run.Faults.checkAll {s : State} {l : List Ref} {x : SReg} (h : ∀ q ∈ l, q.seg = x) {b : Bool}
    (hb : b = l.all s.permits) : Run.Faults s l (Machine.check b (s.segFault x)) := by
  intro q hq
  have hbad : b = false := by
    rw [hb, List.all_eq_false]
    exact ⟨q, List.mem_of_find?_eq_some hq, by simpa using List.find?_some hq⟩
  have hseg : q.seg = x := h q (List.mem_of_find?_eq_some hq)
  rw [hbad, check_false, hseg]
  exact ⟨_, rfl, s.stopped_segFault x⟩

theorem State.pushOp_faults (v : Word) : Run.Faults s (s.pushRefs 1) (s.pushOp v) :=
  .bind (.bind (s.writeSeg16_faults .ss (s.regs.sp - 2) v) _) _

theorem State.nearCall_faults (v : Word) : Run.Faults s (s.pushRefs 1) (s.nearCall v) :=
  .bind (.checkAll (by simp [State.pushRefs]) (s.canPush_eq 1)) _

theorem State.popTop_faults : Run.Faults s [s.ssRef s.regs.sp] s.pop := .bind (s.readSeg16_faults .ss _) _

theorem State.stackWord_zero_eq : s.stackWord 0 = s.readSeg16 .ss s.regs.sp := by
  rw [State.stackWord, BitVec.ofNat_eq_ofNat, BitVec.add_zero]

theorem State.retNear_faults (n : Word) : Run.Faults s [s.ssRef s.regs.sp] (s.retNear n) := by
  refine .bind ?_ _
  rw [s.stackWord_zero_eq]
  exact s.readSeg16_faults .ss _

/-- Where a word can be pushed, the new SP of ENTER can be read through exactly when it lies within the limit (D30). -/
theorem State.canRead_one (h : s.canPush 1 = true) (off : Word) :
    s.canRead .ss off 1 = (!s.prot || s.ss.inLimit off 1) := by
  have hread : s.canRead .ss (s.regs.sp - 2) 2 = true := State.canRead_of_canPush h Nat.one_pos
  cases hp : s.prot with
  | false =>
    simp only [State.canRead, hp, Bool.false_eq_true, if_false, Bool.not_false, Bool.true_or, decide_eq_true_eq]
    exact off.isLt
  | true =>
    simp only [State.canRead, hp, if_true, Bool.and_eq_true] at hread
    obtain ⟨⟨hvalid, hreadable⟩, -⟩ := hread
    simp only [State.canRead, hp, if_true, hvalid, hreadable, Bool.true_and, Bool.not_true, Bool.false_or]
    rfl

theorem State.canPush_one_of {n : Nat} (h : s.canPush n = true) (hn : 0 < n) : s.canPush 1 = true :=
  (State.canPush_iff 1).mpr fun k hk => (State.canPush_iff n).mp h k (by omega)

theorem State.enterFrame_faults (size : Word) (level : Byte) :
    Run.Faults s (s.enterRefs size (level.toNat % 32)) (s.enterFrame size level) := by
  rw [State.enterRefs, List.append_assoc]
  refine .seq (.checkAll (by simp [State.pushRefs]) (s.canPush_eq _)) fun hpush => ⟨(), ?_, ?_⟩
  case refine_1 =>
    rw [State.canPush_eq, enterWords, List.all_eq_true.mpr hpush, check_true]
  case refine_2 =>
    have hcan : s.canPush (enterWords (level.toNat % 32)) = true := by
      rw [State.canPush_eq]
      exact List.all_eq_true.mpr hpush
    refine .seq (.checkAll (by simp [State.ssRef]) (s.canReadDisplay_eq _)) fun hread => ⟨(), ?_, ?_⟩
    · rw [State.canReadDisplay_eq, List.all_eq_true.mpr hread, check_true]
    · have hlast := s.canRead_one (s.canPush_one_of hcan (enterWords_pos _)) (s.enterSp size (level.toNat % 32))
      exact .bind (.check (q := ⟨.ss, s.enterSp size (level.toNat % 32), 1, false⟩) hlast) _

/-! String elements -/

/-- Nothing is referred to where there is nothing to do. -/
theorem Run.Faults.unless {c d : Prop} [Decidable c] [Decidable d] (hcd : c ↔ d) {l : List Ref} {α : Type}
    {a r : Run α} (h : Run.Faults s l r) : Run.Faults s (if c then [] else l) (if d then a else r) := by
  by_cases hc : c
  · rw [if_pos hc]
    exact .none _
  · rw [if_neg hc, if_neg (mt hcd.mpr hc)]
    exact h

theorem State.moving_faults {l : List Ref} {r : Run State} (h : Run.Faults s l r) :
    Run.Faults s (s.element? false l) (s.moving r) := by
  unfold State.element? State.moving
  cases s.dec.rep with
  | none => exact h.bind _
  | some p =>
    cases p with
    | repne => exact (if_pos (Or.inl rfl)).symm ▸ Run.Faults.none _
    | rep => exact .unless s Iff.rfl (h.bind _)

theorem State.comparing_faults {l : List Ref} {r : Run State} (h : Run.Faults s l r) :
    Run.Faults s (s.element? true l) (s.comparing r) := by
  unfold State.element? State.comparing
  cases s.dec.rep with
  | none => exact h.bind _
  | some p =>
    cases p with
    | repne => exact .unless s (by simp) (h.bind _)
    | rep => exact .unless s Iff.rfl (h.bind _)

end

/-! Instructions -/

/-- An instruction one of whose references is refused comes to what the first refused one says. -/
def State.RefsFault (s : State) (i : Instr) : Prop :=
  ∀ q, (s.references i).find? (fun q => !s.permits q) = some q → exec i s = s.badReference q.seg

theorem State.RefsFault.of_run {l : List Ref} {r : Run State} (h : Run.Faults s l r) (hl : s.references i = l)
    (hi : exec i s = s.finish r) : s.RefsFault i := by
  intro q hq
  rw [hl] at hq
  obtain ⟨e, he, hstop⟩ := h q hq
  rw [hi, he, s.finish_error, hstop]

theorem State.RefsFault.none (h : s.references i = []) : s.RefsFault i := fun q hq => by simp [h] at hq

section
variable (s : State)

theorem State.popMw_faults (e : E16) : s.RefsFault (.popMw e) := by
  cases e with
  | reg r => exact .of_run (.bind s.popTop_faults _) rfl rfl
  | mem m =>
    refine .of_run (r := s.popMem m) (.seq (l := [s.ssRef s.regs.sp]) (s.readSeg16_faults .ss s.regs.sp)
      fun h => ⟨_, s.readSeg16_ok _ _ (h _ List.mem_cons_self), .bind (s.writeE16_faults (.mem m) _) _⟩) rfl rfl

theorem State.xlat_faults : s.RefsFault .xlat := by
  have hoff : (s.get8 .al).setWidth 16 = BitVec.ofNat 16 (s.get8 .al).toNat := by
    rw [BitVec.ofNat_toNat]
  refine .of_run (.bind (s.readSeg8_faults (s.override .ds) (s.regs.bx + (s.get8 .al).setWidth 16)) _) ?_ rfl
  rw [hoff]
  rfl

theorem State.storeTable_faults (e : E16) (v : TableReg) : Run.Faults s (s.memMany 6 true e) (s.storeTable e v) := by
  cases e with
  | reg r => exact .none _
  | mem m => exact .bind (.check rfl) _

theorem State.readTable_faults (e : E16) :
    Run.Faults s (if s.cpl = 0 then s.memMany 6 false e else []) (s.readTable e) := by
  refine .ite fun h => ?_
  cases e with
  | reg r => exact .none _
  | mem m => exact .after (by simp [h]) (.bind (s.readSeg48_faults _ _) _)

theorem State.lldt_faults (e : E16) :
    Run.Faults s (if s.prot ∧ s.cpl = 0 then s.mem16 false e else []) (s.lldt e) :=
  .ite fun h => .after h.1 (.after (by simp [h.2]) (.bind (s.readE16_faults e) _))

theorem State.ltr_faults (e : E16) :
    Run.Faults s (if s.prot ∧ s.cpl = 0 then s.mem16 false e else []) (s.ltr e) :=
  .ite fun h => .after h.1 (.after (by simp [h.2]) (.bind (s.readE16_faults e) _))

theorem State.storeSel_faults (e : E16) (v : Word) :
    Run.Faults s (if s.prot then s.mem16 true e else []) (s.storeSel e v) :=
  .ite fun h => .after h (.bind (s.writeE16_faults e v) _)

theorem State.lmsw_faults (e : E16) : Run.Faults s (if s.cpl = 0 then s.mem16 false e else []) (s.lmsw e) :=
  .ite fun h => .after (by simp [h]) (.bind (s.readE16_faults e) _)

theorem State.testSel_faults (e : E16) (find : Word → Option Desc) (put : Desc → State → State) :
    Run.Faults s (if s.prot then s.mem16 false e else []) (s.testSel e find put) :=
  .ite fun h => .after h (.bind (s.readE16_faults e) _)

theorem State.arpl_faults (e : E16) (r : Reg16) :
    Run.Faults s (if s.prot then s.mem16 false e ++ if rplOf (s.val16 e) < rplOf (s.get16 r) then s.mem16 true e else []
      else []) (s.arpl e r) := by
  refine .ite fun h => .after h (.readE16 ?_)
  by_cases hlt : rplOf (s.val16 e) < rplOf (s.get16 r)
  · simp only [if_pos hlt]
    exact .bind (s.writeE16_faults e _) _
  · rw [if_neg hlt]
    exact .none _

theorem State.movs8_faults : Run.Faults s [s.src 1, s.dst 1 true] s.movs8 :=
  .seq (l := [s.src 1]) (s.readSeg8_faults s.srcSeg s.regs.si) fun h =>
    ⟨_, s.readSeg8_ok _ _ (h _ List.mem_cons_self), .bind (s.writeSeg8_faults .es s.regs.di _) _⟩

theorem State.movs16_faults : Run.Faults s [s.src 2, s.dst 2 true] s.movs16 :=
  .seq (l := [s.src 2]) (s.readSeg16_faults s.srcSeg s.regs.si) fun h =>
    ⟨_, s.readSeg16_ok _ _ (h _ List.mem_cons_self), .bind (s.writeSeg16_faults .es s.regs.di _) _⟩

theorem State.cmps8_faults : Run.Faults s [s.src 1, s.dst 1 false] s.cmps8 :=
  .seq (l := [s.src 1]) (s.readSeg8_faults s.srcSeg s.regs.si) fun h =>
    ⟨_, s.readSeg8_ok _ _ (h _ List.mem_cons_self), .bind (.bind (.check rfl) _) _⟩

theorem State.cmps16_faults : Run.Faults s [s.src 2, s.dst 2 false] s.cmps16 :=
  .seq (l := [s.src 2]) (s.readSeg16_faults s.srcSeg s.regs.si) fun h =>
    ⟨_, s.readSeg16_ok _ _ (h _ List.mem_cons_self), .bind (.bind (.check rfl) _) _⟩

end

/-- EVERY INSTRUCTION makes its references in their order (R140-R148). -/
theorem State.refsFault (s : State) (i : Instr) : s.RefsFault i := by
  cases i with
  | addEbRb e | orEbRb e | andEbRb e | subEbRb e | xorEbRb e | addEbDb e | orEbDb e | andEbDb e | subEbDb e
    | xorEbDb e => exact .of_run (s.aluE8_faults rfl e _) rfl rfl
  | addEwRw e | orEwRw e | andEwRw e | subEwRw e | xorEwRw e | addEwDw e | orEwDw e | andEwDw e | subEwDw e
    | xorEwDw e | addEwDb e | subEwDb e => exact .of_run (s.aluE16_faults rfl e _) rfl rfl
  | rolEbDb e | rorEbDb e | salEbDb e | shrEbDb e | sarEbDb e | rolEbOne e | rorEbOne e | salEbOne e | shrEbOne e
    | sarEbOne e | rolEbCl e | rorEbCl e | salEbCl e | shrEbCl e | sarEbCl e =>
    exact .of_run (s.shift8_faults rfl e _) rfl rfl
  | rolEwDb e | rorEwDb e | salEwDb e | shrEwDb e | sarEwDb e | rolEwOne e | rorEwOne e | salEwOne e | shrEwOne e
    | sarEwOne e | rolEwCl e | rorEwCl e | salEwCl e | shrEwCl e | sarEwCl e =>
    exact .of_run (s.shift16_faults rfl e _) rfl rfl
  | notEb e | negEb e | incEb e | decEb e => exact .of_run (s.updateE8_faults e _ _) rfl rfl
  | notEw e | negEw e | incEw e | decEw e => exact .of_run (s.updateE16_faults e _ _) rfl rfl
  | addRbEb _ e | orRbEb _ e | andRbEb _ e | subRbEb _ e | xorRbEb _ e | adcRbEb _ e | sbbRbEb _ e | cmpRbEb _ e
    | movRbEb _ e | cmpEbRb e | testEbRb e | adcEbRb e | sbbEbRb e | xchgEbRb e | cmpEbDb e | testEbDb e | adcEbDb e
    | sbbEbDb e | rclEbDb e | rcrEbDb e | rclEbOne e | rcrEbOne e | rclEbCl e | rcrEbCl e | mulEb e | imulEb e
    | divEb e | idivEb e => exact .of_run (.bind (s.readE8_faults e) _) rfl rfl
  | addRwEw _ e | orRwEw _ e | andRwEw _ e | subRwEw _ e | xorRwEw _ e | adcRwEw _ e | sbbRwEw _ e | cmpRwEw _ e
    | movRwEw _ e | cmpEwRw e | testEwRw e | adcEwRw e | sbbEwRw e | xchgEwRw e | cmpEwDw e | testEwDw e | adcEwDw e
    | sbbEwDw e | cmpEwDb e | adcEwDb e | sbbEwDb e | rclEwDb e | rcrEwDb e | rclEwOne e | rcrEwOne e | rclEwCl e
    | rcrEwCl e | mulEw e | imulEw e | divEw e | idivEw e | imulRwEwDw _ e | imulRwEwDb _ e | movEsEw e | movSsEw e
    | movDsEw e | jmpEw e => exact .of_run (.bind (s.readE16_faults e) _) rfl rfl
  | movAlXb a => exact .of_run (.bind (s.readE8_faults (.mem (.direct a))) _) rfl rfl
  | movAxXw a => exact .of_run (.bind (s.readE16_faults (.mem (.direct a))) _) rfl rfl
  | movEbRb e | movEbDb e => exact .of_run (.bind (s.writeE8_faults e _) _) rfl rfl
  | movXbAl a => exact .of_run (.bind (s.writeE8_faults (.mem (.direct a)) _) _) rfl rfl
  | movEwRw e | movEwDw e | movEwEs e | movEwCs e | movEwSs e | movEwDs e | smswEw e =>
    exact .of_run (.bind (s.writeE16_faults e _) _) rfl rfl
  | movXwAx a => exact .of_run (.bind (s.writeE16_faults (.mem (.direct a)) _) _) rfl rfl
  | ldsRwEd _ e | lesRwEd _ e | jmpEd e | callEd e => exact .of_run (.bind (s.readPointer_faults e) _) rfl rfl
  | boundRwMd _ e => exact .of_run (.bind (s.readPointer_faults e) _) rfl rfl
  | pushRw | pushEs | pushCs | pushSs | pushDs | pushDw | pushDb | pushf =>
    exact .of_run (s.pushOp_faults _) rfl rfl
  | pushMw e => exact .of_run (.readE16 (s.pushOp_faults _)) rfl rfl
  | callCw => exact .of_run (s.nearCall_faults _) rfl rfl
  | callEw e => exact .of_run (.readE16 (s.nearCall_faults _)) rfl rfl
  | popRw | popf => exact .of_run (.bind s.popTop_faults _) rfl rfl
  | popEs | popSs | popDs => exact .of_run (.bind (s.readSeg16_faults .ss s.regs.sp) _) rfl rfl
  | popMw e => exact s.popMw_faults e
  | retNear | retNearDw => exact .of_run (s.retNear_faults _) rfl rfl
  | leave => exact .of_run (.bind (s.readSeg16_faults .ss s.regs.bp) _) rfl rfl
  | enterDwDb size l => exact .of_run (s.enterFrame_faults size l) rfl rfl
  | xlat => exact s.xlat_faults
  | sgdtM e | sidtM e => exact .of_run (s.storeTable_faults e _) rfl rfl
  | lgdtM e | lidtM e => exact .of_run (.bind (s.readTable_faults e) _) rfl rfl
  | lldtEw e => exact .of_run (s.lldt_faults e) rfl rfl
  | ltrEw e => exact .of_run (s.ltr_faults e) rfl rfl
  | sldtEw e | strEw e => exact .of_run (s.storeSel_faults e _) rfl rfl
  | lmswEw e => exact .of_run (s.lmsw_faults e) rfl rfl
  | arplEwRw e r => exact .of_run (s.arpl_faults e r) rfl rfl
  | verrEw e | verwEw e => exact .of_run (s.testSel_faults e _ _) rfl rfl
  | larRwEw _ e | lslRwEw _ e => exact .of_run (s.testSel_faults e _ _) rfl rfl
  | movsb => exact .of_run (s.moving_faults s.movs8_faults) rfl rfl
  | movsw => exact .of_run (s.moving_faults s.movs16_faults) rfl rfl
  | cmpsb => exact .of_run (s.comparing_faults s.cmps8_faults) rfl rfl
  | cmpsw => exact .of_run (s.comparing_faults s.cmps16_faults) rfl rfl
  | scasb => exact .of_run (s.comparing_faults (.bind (s.readSeg8_faults .es s.regs.di) _)) rfl rfl
  | scasw => exact .of_run (s.comparing_faults (.bind (s.readSeg16_faults .es s.regs.di) _)) rfl rfl
  | lodsb => exact .of_run (s.moving_faults (.bind (s.readSeg8_faults s.srcSeg s.regs.si) _)) rfl rfl
  | lodsw => exact .of_run (s.moving_faults (.bind (s.readSeg16_faults s.srcSeg s.regs.si) _)) rfl rfl
  | stosb => exact .of_run (s.moving_faults (.bind (s.writeSeg8_faults .es s.regs.di _) _)) rfl rfl
  | stosw => exact .of_run (s.moving_faults (.bind (s.writeSeg16_faults .es s.regs.di _) _)) rfl rfl
  | insb => exact .of_run (.ite fun h => s.moving_faults (.after h (.bind (s.writeSeg8_faults .es s.regs.di _) _))) rfl rfl
  | insw =>
    exact .of_run (.ite fun h => s.moving_faults (.after h (.bind (s.writeSeg16_faults .es s.regs.di _) _))) rfl rfl
  | outsb =>
    exact .of_run (.ite fun h => s.moving_faults (.after h (.bind (s.readSeg8_faults s.srcSeg s.regs.si) _))) rfl rfl
  | outsw =>
    exact .of_run (.ite fun h => s.moving_faults (.after h (.bind (s.readSeg16_faults s.srcSeg s.regs.si) _))) rfl rfl
  | _ => exact .none rfl

/-! What a reference must meet -/

/-- Whether `n` bytes lie within the limit, above it in a segment that expands down (R142, R143). -/
theorem SegReg.inLimit_iff (x : SegReg) (off : Word) {n : Nat} (hn : n = 1 ∨ n = 2) : x.inLimit off n = true ↔
    if arExec x.ar = false ∧ arConfDown x.ar = true then x.limit < off ∧ off.toNat + n - 1 ≤ 0xFFFF
    else off.toNat + n - 1 ≤ x.limit.toNat := by
  have hcond : (!arExec x.ar && arConfDown x.ar) = true ↔ arExec x.ar = false ∧ arConfDown x.ar = true := by simp
  unfold SegReg.inLimit
  by_cases h : arExec x.ar = false ∧ arConfDown x.ar = true
  · rw [if_pos (hcond.mpr h), if_pos h, Bool.and_eq_true, decide_eq_true_eq, decide_eq_true_eq, BitVec.lt_def]
    rcases hn with rfl | rfl <;> omega
  · rw [if_neg (mt hcond.mp h), if_neg h, decide_eq_true_eq]
    rcases hn with rfl | rfl <;> omega

theorem State.canAccess_real (hp : s.prot = false) (x : SReg) (off : Word) {n : Nat} (hn : n = 1 ∨ n = 2) :
    (s.canRead x off n = true ↔ off.toNat + n - 1 ≤ 0xFFFF) ∧
      (s.canWrite x off n = true ↔ off.toNat + n - 1 ≤ 0xFFFF) := by
  simp only [State.canRead, State.canWrite, hp, Bool.false_eq_true, if_false, decide_eq_true_eq]
  rcases hn with rfl | rfl <;> omega

theorem State.canAccess_prot (hp : s.prot = true) (x : SReg) (off : Word) {n : Nat} (hn : n = 1 ∨ n = 2) :
    let g := s.seg x
    let inLimit : Prop :=
      if arExec g.ar = false ∧ arConfDown g.ar = true then g.limit < off ∧ off.toNat + n - 1 ≤ 0xFFFF
      else off.toNat + n - 1 ≤ g.limit.toNat
    (s.canRead x off n = true ↔ g.valid = true ∧ (arExec g.ar = false ∨ arReadWrite g.ar = true) ∧ inLimit) ∧
      (s.canWrite x off n = true ↔ g.valid = true ∧ (arExec g.ar = false ∧ arReadWrite g.ar = true) ∧ inLimit) := by
  simp only [State.canRead, State.canWrite, hp, if_true, Bool.and_eq_true, SegReg.readable, SegReg.writable,
    Bool.or_eq_true, Bool.not_eq_true', (s.seg x).inLimit_iff off hn, and_assoc, and_self]

/-! Operands that can be read and not written -/

/-- A refused write behind which the state `u` is left (R149). -/
theorem State.leaving_refused (u : State) (x : SReg) (hu : u.prot = s.prot) :
    ∃ e, leaving u (.error (s.segFault x) : Run State) = .error e ∧ s.stopped e = u.badReference x := by
  have hfault : s.segFault x = u.segFault x := by rw [State.segFault, State.segFault, hu]
  rw [hfault, ← u.stopped_segFault x, u.segFault_eq_exc]
  exact ⟨_, rfl, rfl⟩

theorem exec_xchgEbRb (e : E8) (r : Reg8) : exec (.xchgEbRb e r) s = s.finish (do
    let v ← s.readE8 e
    let t ← leaving (s.set8 r (Config.freeByte s.free .xchgReg)) ((s.lockE8 e).writeE8 e (s.get8 r))
    pure (t.set8 r v).advance) := rfl

theorem exec_xchgEwRw (e : E16) (r : Reg16) : exec (.xchgEwRw e r) s = s.finish (do
    let v ← s.readE16 e
    let t ← leaving (s.set16 r (Config.freeWord s.free .xchgReg)) ((s.lockE16 e).writeE16 e (s.get16 r))
    pure (t.set16 r v).advance) := rfl

theorem State.writeE8_refused {m : Mem} (h : s.canWriteE8 (.mem m) = false) (v : Byte) :
    s.writeE8 (.mem m) v = .error (s.segFault (s.eaSeg m)) := by
  have hcan : s.canWrite (s.eaSeg m) (s.eaOff m) 1 = false := h
  rw [State.writeE8, State.writeSeg8, hcan, check_false, run_bind_error]

theorem State.writeE16_refused {m : Mem} (h : s.canWriteE16 (.mem m) = false) (v : Word) :
    s.writeE16 (.mem m) v = .error (s.segFault (s.eaSeg m)) := by
  have hcan : s.canWrite (s.eaSeg m) (s.eaOff m) 2 = false := h
  rw [State.writeE16, State.writeSeg16, hcan, check_false, run_bind_error]

/-- A byte operand read, its write refused, `u` left. -/
theorem State.finish_refused8 {m : Mem} (hr : s.canReadE8 (.mem m) = true) (hw : s.canWriteE8 (.mem m) = false)
    (u : State) (hu : u.prot = s.prot) (v : Byte → Byte) (g : Byte → State → Run State) :
    s.finish (do
      let a ← s.readE8 (.mem m)
      let t ← leaving u (s.writeE8 (.mem m) (v a))
      g a t) = u.badReference (s.eaSeg m) := by
  obtain ⟨e, he, hstop⟩ := s.leaving_refused u (s.eaSeg m) hu
  rw [s.readE8_ok _ hr, run_bind_ok, State.writeE8_refused hw, he, run_bind_error, s.finish_error, hstop]

theorem State.finish_refused16 {m : Mem} (hr : s.canReadE16 (.mem m) = true) (hw : s.canWriteE16 (.mem m) = false)
    (u : State) (hu : u.prot = s.prot) (v : Word → Word) (g : Word → State → Run State) :
    s.finish (do
      let a ← s.readE16 (.mem m)
      let t ← leaving u (s.writeE16 (.mem m) (v a))
      g a t) = u.badReference (s.eaSeg m) := by
  obtain ⟨e, he, hstop⟩ := s.leaving_refused u (s.eaSeg m) hu
  rw [s.readE16_ok _ hr, run_bind_ok, State.writeE16_refused hw, he, run_bind_error, s.finish_error, hstop]

/-- XCHG, whose write is under bus LOCK, leaves its register free (R149, D12). -/
theorem State.xchg8_refused (s : State) {m : Mem} (hr : s.canReadE8 (.mem m) = true) (hw : s.canWriteE8 (.mem m) = false)
    (r : Reg8) : exec (.xchgEbRb (.mem m) r) s =
      (s.set8 r (Config.freeByte s.free .xchgReg)).badReference (s.eaSeg m) := by
  obtain ⟨e, he, hstop⟩ := s.leaving_refused (s.set8 r (Config.freeByte s.free .xchgReg)) (s.eaSeg m) rfl
  have hwrite : s.lockBus.writeE8 (.mem m) (s.get8 r) = .error (s.segFault (s.eaSeg m)) :=
    State.writeE8_refused (s := s.lockBus) hw _
  rw [exec_xchgEbRb, s.readE8_ok _ hr, run_bind_ok, State.lockE8, hwrite, he, run_bind_error, s.finish_error, hstop]

theorem State.xchg16_refused (s : State) {m : Mem} (hr : s.canReadE16 (.mem m) = true)
    (hw : s.canWriteE16 (.mem m) = false) (r : Reg16) : exec (.xchgEwRw (.mem m) r) s =
      (s.set16 r (Config.freeWord s.free .xchgReg)).badReference (s.eaSeg m) := by
  obtain ⟨e, he, hstop⟩ := s.leaving_refused (s.set16 r (Config.freeWord s.free .xchgReg)) (s.eaSeg m) rfl
  have hwrite : s.lockBus.writeE16 (.mem m) (s.get16 r) = .error (s.segFault (s.eaSeg m)) :=
    State.writeE16_refused (s := s.lockBus) hw _
  rw [exec_xchgEwRw, s.readE16_ok _ hr, run_bind_ok, State.lockE16, hwrite, he, run_bind_error, s.finish_error, hstop]

theorem usesCarry_of_adc_sbb {op : AluOp} (h : op ∈ [AluOp.adc, .sbb]) : op.usesCarry = true := by
  rcases List.mem_pair.mp h with rfl | rfl <;> rfl

theorem usesCarry_of_rcl_rcr {op : ShiftOp} (h : op ∈ [ShiftOp.rcl, .rcr]) : op.usesCarry = true := by
  rcases List.mem_pair.mp h with rfl | rfl <;> rfl

/-- Settles O14. -/
theorem referenceChecks : Obligations.ReferenceChecks := by
  refine ⟨?checks, ?references, ?refused⟩
  case checks =>
    intro s x off n hn g inLimit
    exact ⟨fun hp => State.canAccess_real hp x off hn, fun hp => State.canAccess_prot hp x off hn⟩
  case references =>
    intro s i pre post r hrefs hpre hr
    refine s.refsFault i r ?_
    have hnone : pre.find? (fun q => !s.permits q) = none := by simpa using hpre
    rw [hrefs, List.find?_append, hnone, Option.none_or, List.find?_cons_of_pos (by simp [hr])]
  case refused =>
    intro s m bad f g
    refine ⟨fun hr hw => ⟨?alu8, ?rotate8, ?xchg8⟩, fun hr hw => ⟨?alu16, ?rotate16, ?xchg16⟩⟩
    case alu8 =>
      intro op hop
      have hrun (v : Byte) : s.finish (s.aluE8 op (.mem m) v) = bad { s with flags := f } :=
        have hrefused : s.aluRefused op = { s with flags := f } := if_pos (usesCarry_of_adc_sbb hop)
        (s.finish_refused8 hr hw (s.aluRefused op) (by rw [hrefused]; rfl) _ _).trans (congrArg bad hrefused)
      exact ⟨fun r => (op.exec_ebRb _ r).trans (hrun _), fun v => (op.exec_ebDb _ v).trans (hrun v)⟩
    case rotate8 =>
      intro op hop
      have hrun (v : Byte) : s.finish (s.shift8 op (.mem m) v) = bad { s with flags := g } :=
        have hrefused : s.shiftRefused op = { s with flags := g } := if_pos (usesCarry_of_rcl_rcr hop)
        (s.finish_refused8 hr hw (s.shiftRefused op) (by rw [hrefused]; rfl) _ _).trans (congrArg bad hrefused)
      exact ⟨(op.exec_ebOne _).trans (hrun _), (op.exec_ebCl _).trans (hrun _),
        fun v => (op.exec_ebDb _ v).trans (hrun v)⟩
    case xchg8 =>
      exact fun r => s.xchg8_refused hr hw r
    case alu16 =>
      intro op hop
      have hrun (v : Word) : s.finish (s.aluE16 op (.mem m) v) = bad { s with flags := f } :=
        have hrefused : s.aluRefused op = { s with flags := f } := if_pos (usesCarry_of_adc_sbb hop)
        (s.finish_refused16 hr hw (s.aluRefused op) (by rw [hrefused]; rfl) _ _).trans (congrArg bad hrefused)
      exact ⟨fun r => (op.exec_ewRw _ r).trans (hrun _), fun v => (op.exec_ewDw _ v).trans (hrun v),
        fun mk v hmk => (op.exec_ewDb hmk _ v).trans (hrun _)⟩
    case rotate16 =>
      intro op hop
      have hrun (v : Byte) : s.finish (s.shift16 op (.mem m) v) = bad { s with flags := g } :=
        have hrefused : s.shiftRefused op = { s with flags := g } := if_pos (usesCarry_of_rcl_rcr hop)
        (s.finish_refused16 hr hw (s.shiftRefused op) (by rw [hrefused]; rfl) _ _).trans (congrArg bad hrefused)
      exact ⟨(op.exec_ewOne _).trans (hrun _), (op.exec_ewCl _).trans (hrun _),
        fun v => (op.exec_ewDb _ v).trans (hrun v)⟩
    case xchg16 =>
      exact fun r => s.xchg16_refused hr hw r

end Sys2Proof.Machine
end

section
/-!
# Deliveries and what follows one that fails (O43)
-/

namespace Sys2Proof.Machine

variable {s t : State} {e : Event}

/-! Which instructions and exceptions make a delivery -/

theorem State.softInt_of_deliver (h : s.deliver e = .ok t) (hk : e.kind = .sw) (hr : e.ret = s.nextIp)
    (hc : e.code = none) : s.softInt e.vec = .next t := by
  obtain ⟨vec, kind, ret, code⟩ := e
  subst hk hr hc
  rw [State.softInt, h]

theorem State.exception_of_deliver (h : s.deliver e = .ok t) (hk : e.kind = .exc) (hr : e.ret = s.ip) :
    s.exception e.vec e.code = .next t := by
  obtain ⟨vec, kind, ret, code⟩ := e
  subst hk hr
  rw [State.exception, State.takeException, h]

/-- An event delivered is delivered by the instructions and exceptions that are that event (R495-R497, R820). -/
theorem State.Takes.of_deliver (h : s.deliver e = .ok t) : s.Takes e t := by
  refine ⟨h, fun hk hr hc => ⟨s.softInt_of_deliver h hk hr hc, fun hv => ?_, fun hv hof => ?_⟩,
    fun hk hr => s.exception_of_deliver h hk hr⟩
  · exact (congrArg s.softInt hv.symm).trans (s.softInt_of_deliver h hk hr hc)
  · rw [exec_into_set hof, ← hv]
    exact s.softInt_of_deliver h hk hr hc

theorem State.Takes.of_escalate (h : s.escalate e = .ok t) : s.Takes e { t with use := s.use } :=
  .of_deliver (by rw [State.deliver, h])

/-- A delivery that succeeds at its first attempt. -/
theorem State.Takes.of_enter (h : (s.attempt 1).enter e = .ok t) : s.Takes e { t with use := s.use } :=
  .of_escalate (by rw [State.escalate, h])

/-! The attempts of a delivery -/

theorem contributory_iff (v : Byte) : contributory v = true ↔ v ∈ [0, 10, 11, 12, 13] := by
  simp [contributory, or_assoc]

section
variable {v : Byte} {c : Option Word} {left : Option State}

theorem State.doubleFault_delivered {df : Event} (hdf : df = { vec := 8, kind := .exc, ret := s.ip, code := some 0 })
    (h : (s.attempt 3).enter df = .ok t) : s.doubleFault = .ok t := by
  subst hdf
  rw [State.doubleFault, h]

theorem State.doubleFault_fails {df : Event} (hdf : df = { vec := 8, kind := .exc, ret := s.ip, code := some 0 })
    (h : (s.attempt 3).enter df = .error (.exc v c left)) : s.doubleFault = .ok (left.getD s).shutdown := by
  subst hdf
  rw [State.doubleFault, h]

theorem State.escalate_shutdown (h : (s.attempt 1).enter e = .error (.exc v c left)) (hk : e.kind = .exc)
    (hv : e.vec = 8) : s.escalate e = .ok (left.getD s).shutdown := by
  simp only [State.escalate, h, if_pos (And.intro hk hv)]

theorem State.escalate_double (h : (s.attempt 1).enter e = .error (.exc v c left)) (hk : e.kind = .exc)
    (hv : e.vec ∈ [0, 10, 11, 12, 13]) : s.escalate e = (left.getD s).doubleFault := by
  have hne : ¬ (e.kind = .exc ∧ e.vec = 8) := by
    rintro ⟨-, h8⟩
    rw [h8] at hv
    exact absurd hv (by decide)
  simp only [State.escalate, h, if_neg hne, if_pos (And.intro hk ((contributory_iff e.vec).mpr hv))]

theorem State.escalate_failure (h : (s.attempt 1).enter e = .error (.exc v c left))
    (hv : e.kind ≠ .exc ∨ e.vec ∉ [0, 8, 10, 11, 12, 13]) : s.escalate e = (left.getD s).deliverFailure v c := by
  have h8 : ¬ (e.kind = .exc ∧ e.vec = 8) := by
    rintro ⟨hk, h8⟩
    rw [hk, h8] at hv
    simp at hv
  have hcon : ¬ (e.kind = .exc ∧ contributory e.vec = true) := by
    rintro ⟨hk, hc⟩
    rcases hv with hv | hv
    · exact hv hk
    · rw [contributory_iff] at hc
      simp only [List.mem_cons, List.not_mem_nil, or_false, not_or] at hv hc
      tauto
  simp only [State.escalate, h, if_neg h8, if_neg hcon]

theorem State.deliverFailure_double : s.deliverFailure 8 c = s.doubleFault := if_pos rfl

theorem State.deliverFailure_delivered {second : Event} (hv : v ≠ 8)
    (hs : second = { vec := v, kind := .exc, ret := s.ip, code := c }) (h : (s.attempt 2).enter second = .ok t) :
    s.deliverFailure v c = .ok t := by
  subst hs
  simp only [State.deliverFailure, if_neg hv, h]

theorem State.deliverFailure_fails {second : Event} {v' : Byte} {c' : Option Word} {left' : Option State} (hv : v ≠ 8)
    (hs : second = { vec := v, kind := .exc, ret := s.ip, code := c })
    (h : (s.attempt 2).enter second = .error (.exc v' c' left')) :
    s.deliverFailure v c = (left'.getD s).doubleFault := by
  subst hs
  simp only [State.deliverFailure, if_neg hv, h]

/-- An event that comes to a double fault in state `u` (R880, R905). -/
theorem State.takes_double {u : State} (h : s.escalate e = u.doubleFault) :
    let df : Event := { vec := 8, kind := .exc, ret := u.ip, code := some 0 }
    (∀ r, (u.attempt 3).enter df = .ok r → s.Takes e { r with use := s.use }) ∧
    (∀ v' c' left', (u.attempt 3).enter df = .error (.exc v' c' left') →
      s.Takes e { (left'.getD u) with runState := .shutdown, dec := {}, use := s.use }) :=
  ⟨fun _ hr => .of_escalate (h.trans (State.doubleFault_delivered rfl hr)),
    fun _ _ _ hf => .of_escalate (h.trans (State.doubleFault_fails rfl hf))⟩

end

/-- Settles O43. -/
theorem doubleFaultAndShutdown : Obligations.DoubleFaultAndShutdown := by
  intro s e v c left h u down double
  refine ⟨fun hk h8 => ?again, fun hk hv => ?contributory, fun hv => ?other⟩
  case again => exact .of_escalate (State.escalate_shutdown h hk h8)
  case contributory => exact State.takes_double (State.escalate_double h hk hv)
  case other =>
    intro second
    have hescalate := State.escalate_failure h hv
    refine ⟨?_, fun h8 => ⟨fun r hr => ?_, fun v' c' left' hf => ?_⟩⟩
    · rintro rfl
      exact State.takes_double (hescalate.trans State.deliverFailure_double)
    · exact .of_escalate (hescalate.trans (State.deliverFailure_delivered h8 rfl hr))
    · exact State.takes_double (hescalate.trans (State.deliverFailure_fails h8 rfl hf))

end Sys2Proof.Machine
end

section
/-!
# The tests of far transfers (O38)
-/

namespace Sys2Proof.Machine

variable {s t : State} {i : Instr}

/-! Computations that make tests -/

/-- A computation that first makes the tests `l`, in their order, stops with what the first failing one says. -/
def Run.Stops {α : Type} (l : List Test) (r : Run α) : Prop := ∀ e, firstFailing l = some e → r = .error e

section
variable {α β : Type} {l k : List Test} {b : Bool} {e : Stop} {m : Run α}

theorem Run.Stops.none (r : Run α) : Run.Stops [] r := fun e h => by simp [firstFailing] at h

/-- A test that fails, and the tests behind one that passes. -/
theorem Run.Stops.cons {r : Run α} (hbad : b = false → r = .error e) (hok : b = true → Run.Stops l r) :
    Run.Stops (⟨b, e⟩ :: l) r := by
  intro x hx
  cases hb : b with
  | true => exact hok hb x (by simpa [hb] using hx)
  | false =>
    obtain rfl : e = x := by simpa [hb] using hx
    exact hbad hb

/-- A test that is known to pass. -/
theorem Run.Stops.skip {r : Run α} (hb : b = true) (h : Run.Stops l r) : Run.Stops (⟨b, e⟩ :: l) r :=
  .cons (fun hf => absurd (hb.symm.trans hf) (by decide)) fun _ => h

theorem Run.Stops.check {f : Unit → Run α} (h : b = true → Run.Stops l (f ())) :
    Run.Stops (⟨b, e⟩ :: l) (check b e >>= f) := by
  refine .cons (fun hb => ?_) (fun hb => ?_)
  · rw [hb, check_false, run_bind_error]
  · rw [hb, check_true, run_bind_ok]
    exact h hb

theorem Run.Stops.last {f : Unit → Run α} : Run.Stops [⟨b, e⟩] (Machine.check b e >>= f) := .check fun _ => .none _

theorem Run.Stops.bind (h : Run.Stops l m) (g : α → Run β) : Run.Stops l (m >>= g) := fun x hx => by
  rw [h x hx, run_bind_error]

theorem firstFailing_none_iff : firstFailing l = none ↔ ∀ t ∈ l, t.ok = true := by simp [firstFailing]

/-- Tests followed by others. -/
theorem Run.Stops.append {r : Run α} (h : Run.Stops l r) (hk : (∀ t ∈ l, t.ok = true) → Run.Stops k r) :
    Run.Stops (l ++ k) r := by
  intro x hx
  rw [firstFailing_append] at hx
  cases hl : firstFailing l with
  | some y =>
    rw [hl, Option.some_or] at hx
    exact h x (hl.trans hx)
  | none =>
    rw [hl, Option.none_or] at hx
    exact hk (firstFailing_none_iff.mp hl) x hx

/-- Tests made as such, and then others. -/
theorem Run.Stops.pass {f : Unit → Run α} (h : Run.Stops k (f ())) : Run.Stops (l ++ k) (passTests l >>= f) := by
  refine .append (fun x hx => by rw [passTests_error hx, run_bind_error]) fun hl => ?_
  rw [passTests_ok hl, run_bind_ok]
  exact h

theorem Run.Stops.passed {f : Unit → Run α} : Run.Stops l (passTests l >>= f) := fun x hx => by
  rw [passTests_error hx, run_bind_error]

theorem State.Tests.of_stops {r : Run State} (hi : exec i s = s.finish r) (h : Run.Stops l r) : s.Tests i l :=
  fun x hx => by rw [hi, h x hx, s.finish_error]

end

/-! The stack of an inner level -/

theorem SegReg.room_eq (x : SegReg) (sp : Word) (n : Nat) : x.room sp n =
    (List.range n).all fun k => x.inLimit (sp - BitVec.ofNat 16 (2 * (k + 1))) 2 := by
  induction n with
  | zero => rfl
  | succ n ih => simp [SegReg.room, List.range_succ, ih]

/-- The word `k` bytes into the part of the TSS that holds the stack of level `l` (R477). -/
def State.tssWord (s : State) (l : BitVec 2) (k : Nat) : Word :=
  (s.reading .innerStack).readPhys16 (s.tr.base + BitVec.ofNat 24 (4 * l.toNat + k))

theorem State.innerStack_eq (s : State) (l : BitVec 2) : s.innerStack l = (do
    check (s.tr.valid && decide (4 * l.toNat + 5 ≤ s.tr.limit.toNat)) (.refuse .trNotLoaded)
    pure (s.tssWord l 2, s.tssWord l 4)) := by
  simp only [State.innerStack, State.tssWord, BitVec.ofNat_add, BitVec.add_assoc]
  rfl

theorem State.innerStackDesc_eq (s : State) (nss : Word) (l : BitVec 2) (x : Word) : s.innerStackDesc nss l x =
    (passTests (s.stackTests excTs l nss x) >>= fun _ => pure ((s.reading .stackSeg).entry nss)) := by
  simp only [State.innerStackDesc, State.stackTests, passTests_cons, passTests_nil, State.desc_bind, check_and,
    not_isNull_eq, selCode_add]

/-- THE STACK SWITCH of a call or entry to an inner level, as its tests (R477, R840). -/
theorem State.inner_checks {α : Type} (s : State) (l : BitVec 2) (x : Word) (n : Nat) (f : Word × Word → Desc → Run α) :
    (do let stk ← s.innerStack l
        let d ← s.innerStackDesc stk.2 l x
        check ((d.toSeg stk.2).room stk.1 n) (excSs x)
        f stk d) =
      (passTests (s.innerTests l x n) >>= fun _ =>
        f (s.tssWord l 2, s.tssWord l 4) ((s.reading .stackSeg).entry (s.tssWord l 4))) := by
  simp only [State.innerStack_eq, State.innerStackDesc_eq, State.innerTests, passTests_append, passTests_cons,
    passTests_nil, SegReg.room_eq, bind_assoc, pure_bind]
  rfl

/-- The words at the top of the caller's stack that a call gate copies (R477). -/
def State.parameterWords (s : State) (n : Nat) : List Word :=
  (List.range n).map fun k => (s.reading .parameters).readPhys16 (s.stackAddr (BitVec.ofNat 16 (2 * k)))

theorem State.segFault_ss (hp : s.prot = true) : s.segFault .ss = excSs 0 := by
  simp [State.segFault, hp]

theorem State.parameters_eq (hp : s.prot = true) (n : Nat) : s.parameters n = (do
    check ((List.range n).all fun k => s.canRead .ss (s.regs.sp + BitVec.ofNat 16 (2 * k)) 2) (excSs 0)
    pure (s.parameterWords n)) := by
  induction n with
  | zero => rfl
  | succ n ih =>
    have hread : (s.reading .parameters).readSeg16 .ss (s.regs.sp + BitVec.ofNat 16 (2 * n)) = (do
        check (s.canRead .ss (s.regs.sp + BitVec.ofNat 16 (2 * n)) 2) (excSs 0)
        pure ((s.reading .parameters).readPhys16 (s.stackAddr (BitVec.ofNat 16 (2 * n))))) := by
      rw [← s.segFault_ss hp]
      rfl
    simp only [State.parameters, ih, hread, bind_assoc, pure_bind, State.parameterWords, List.range_succ,
      List.all_append, List.all_cons, List.all_nil, Bool.and_true, check_and, List.map_append, List.map_cons,
      List.map_nil]

/-! The tests of far transfers -/

theorem State.farSame_stops (kind : FarKind) (sel off : Word) (c : Desc) :
    Run.Stops (s.landingTests kind off c) (s.farSame kind sel off c) := .check fun _ => .last

theorem Desc.atLevel_eq (c : Desc) (l : BitVec 2) :
    c.atLevel l = if c.isConforming then decide (arDpl c.ar ≤ l) else arDpl c.ar == l := by
  simp only [Desc.atLevel, BitVec.le_def]

theorem State.farCode_stops (kind : FarKind) {sel : Word} (off : Word) (h4 : 4 ≤ sel.toNat)
    (hin : s.inTable sel = true) (hcode : (s.entry sel).isCode = true) :
    Run.Stops (s.codeTests sel 0 ((s.entry sel).atLevel s.cpl && ((s.entry sel).isConforming ||
      decide ((rplOf sel).toNat ≤ s.cpl.toNat))) ++ s.landingTests kind off (s.entry sel))
      (s.farCode kind sel off (s.entry sel)) := by
  have hallowed : ((s.entry sel).isCode && ((s.entry sel).atLevel s.cpl && ((s.entry sel).isConforming ||
      decide ((rplOf sel).toNat ≤ s.cpl.toNat)))) =
      (if (s.entry sel).isConforming then decide (arDpl (s.entry sel).ar ≤ s.cpl)
        else decide (rplOf sel ≤ s.cpl) && arDpl (s.entry sel).ar == s.cpl) := by
    simp only [hcode, Bool.true_and, Desc.atLevel, BitVec.le_def]
    cases (s.entry sel).isConforming with
    | true => simp
    | false => simp [Bool.and_comm]
  simp only [State.codeTests, List.cons_append, List.nil_append, errorCode_zero, hallowed]
  exact .skip (decide_eq_true h4) (.skip hin (.check fun _ => .check fun _ => s.farSame_stops kind sel off _))

theorem State.callInner_stops (hp : s.prot = true) (g c : Desc) :
    Run.Stops (s.innerTests (arDpl c.ar) 0 (4 + g.wordCount) ++
        [⟨decide (g.gateOffset.toNat ≤ c.limit.toNat), excGp 0⟩,
         ⟨(List.range g.wordCount).all fun k => s.canRead .ss (s.regs.sp + BitVec.ofNat 16 (2 * k)) 2, excSs 0⟩])
      (s.callInner g c) := by
  simp only [State.callInner]
  rw [s.inner_checks]
  refine .pass (.check fun _ => ?_)
  rw [State.parameters_eq hp, bind_assoc]
  exact .last

theorem State.isInner_iff (s : State) (c : Desc) : s.isInner c = true ↔ c.isConforming = false ∧ arDpl c.ar < s.cpl := by
  simp only [State.isInner, Bool.and_eq_true, Bool.not_eq_true', decide_eq_true_eq, BitVec.lt_def]

/-- The privilege test on the segment that a call gate names (R474). -/
def State.gateLevel (s : State) (kind : FarKind) (c : Desc) : Bool :=
  match kind with
  | .jmp => if c.isConforming then decide (arDpl c.ar ≤ s.cpl) else arDpl c.ar == s.cpl
  | .call => decide (arDpl c.ar ≤ s.cpl)

theorem State.callGateTests_eq (s : State) (kind : FarKind) (g : Desc) : s.callGateTests kind g =
    (s.reading .target).codeTests g.gateSel 0 (s.gateLevel kind ((s.reading .target).entry g.gateSel)) ++
      if kind = .call ∧ s.isInner ((s.reading .target).entry g.gateSel) = true then
        s.innerTests (arDpl ((s.reading .target).entry g.gateSel).ar) 0 (4 + g.wordCount) ++
          [⟨decide (g.gateOffset.toNat ≤ ((s.reading .target).entry g.gateSel).limit.toNat), excGp 0⟩,
           ⟨(List.range g.wordCount).all fun k => s.canRead .ss (s.regs.sp + BitVec.ofNat 16 (2 * k)) 2, excSs 0⟩]
      else s.landingTests kind g.gateOffset ((s.reading .target).entry g.gateSel) := by
  cases kind with
  | jmp => simp only [State.callGateTests, State.gateLevel, Desc.atLevel_eq]
  | call => simp only [State.callGateTests, State.gateLevel, BitVec.le_def]

/-- The tests on a code segment that is read for its own sake. -/
theorem State.code_checks {α : Type} (u : State) (sel x : Word) (allowed : Desc → Bool) (f : Desc → Run α) :
    (do check (!isNull sel) (excGp x)
        let c ← u.desc sel (excGp (errorCode sel x))
        check c.isCode (excGp (errorCode sel x))
        check (allowed c) (excGp (errorCode sel x))
        check (arPresent c.ar) (excNp (errorCode sel x))
        f c) = (passTests (u.codeTests sel x (allowed (u.entry sel))) >>= fun _ => f (u.entry sel)) := by
  simp only [State.codeTests, passTests_cons, passTests_nil, State.desc_bind, check_and, not_isNull_eq]

/-- A far JMP or CALL through a call gate, as its first tests and what follows them (R474). -/
theorem State.farGate_eq (s : State) (kind : FarKind) (sel : Word) (g : Desc) : s.farGate kind sel g = (do
    check (s.mayUse sel g) (excGp (selCode sel))
    check (arPresent g.ar) (excNp (selCode sel))
    passTests ((s.reading .target).codeTests g.gateSel 0
      (s.gateLevel kind ((s.reading .target).entry g.gateSel)))
    if kind = .call ∧ s.isInner ((s.reading .target).entry g.gateSel) = true then
      s.callInner g ((s.reading .target).entry g.gateSel)
    else s.farSame kind g.gateSel g.gateOffset ((s.reading .target).entry g.gateSel)) := by
  have hcode := State.code_checks (s.reading .target) g.gateSel 0 (s.gateLevel kind) fun c =>
    if kind = .call ∧ s.isInner c = true then s.callInner g c else s.farSame kind g.gateSel g.gateOffset c
  simp only [errorCode_zero, State.isInner_iff] at hcode
  simp only [State.farGate, State.gateAllowed, gateAllowed_eq, State.isInner_iff]
  exact congrArg (fun m : Run State => check (s.mayUse sel g) (excGp (selCode sel)) >>= fun _ =>
    check (arPresent g.ar) (excNp (selCode sel)) >>= fun _ => m) hcode

theorem State.farGate_stops (hp : s.prot = true) (kind : FarKind) (sel : Word) (g : Desc) :
    Run.Stops ([⟨s.mayUse sel g, excGp (selCode sel)⟩, ⟨arPresent g.ar, excNp (selCode sel)⟩] ++
      s.callGateTests kind g) (s.farGate kind sel g) := by
  rw [State.farGate_eq]
  rw [State.callGateTests_eq, List.cons_append, List.cons_append, List.nil_append]
  refine .check fun _ => .check fun _ => .pass ?_
  split
  · exact State.callInner_stops hp g _
  · exact State.farSame_stops kind _ _ _

theorem State.farTaskGate_stops (kind : FarKind) (sel : Word) (g : Desc) :
    Run.Stops ([⟨s.mayUse sel g, excGp (selCode sel)⟩, ⟨arPresent g.ar, excNp (selCode sel)⟩] ++
      (s.reading .target).systemTests 1 g.gateSel 0) (s.farTaskGate kind sel g) := by
  have htss := (s.reading .target).system_checks 1 g.gateSel 0 (s.farSwitch kind g.gateSel)
  have hstops := Run.Stops.passed (l := (s.reading .target).systemTests 1 g.gateSel 0)
    (f := fun _ => s.farSwitch kind g.gateSel ((s.reading .target).entry g.gateSel))
  rw [← htss] at hstops
  simp only [selCode_add, errorCode_zero] at hstops
  simp only [State.farTaskGate, State.gateAllowed, gateAllowed_eq]
  exact .check fun _ => .check fun _ => hstops

theorem State.farTss_stops (kind : FarKind) (sel : Word) (d : Desc) :
    Run.Stops [⟨!sel.getLsbD 2, .refuse .tssInLdt⟩, ⟨s.mayUse sel d, excGp (selCode sel)⟩,
      ⟨arIsType d.ar 1, excGp (selCode sel)⟩, ⟨arPresent d.ar, excNp (selCode sel)⟩] (s.farTss kind sel d) := by
  simp only [State.farTss, State.gateAllowed, gateAllowed_eq]
  exact .check fun _ => .check fun _ => .check fun _ => .last

/-- EVERY TEST OF A FAR TRANSFER in protected mode, in its order (R472-R479). -/
theorem State.farTransferProt_stops (hp : s.prot = true) (kind : FarKind) (sel off : Word) :
    Run.Stops (s.farTests kind off sel) (s.farTransferProt kind sel off) := by
  simp only [State.farTransferProt, State.farTests, State.desc_bind, errorCode_zero, not_isNull_eq, List.cons_append,
    List.nil_append]
  refine .check fun h4 => .check fun hin => ?_
  cases hcode : (s.entry sel).isCode with
  | true => exact State.farCode_stops kind off (of_decide_eq_true h4) hin hcode
  | false =>
    cases hgate : arIsType (s.entry sel).ar 4 with
    | true => exact State.farGate_stops hp kind sel _
    | false =>
      cases htask : arIsType (s.entry sel).ar 5 with
      | true => exact State.farTaskGate_stops kind sel _
      | false =>
        simp only [Bool.false_eq_true, if_false, Desc.isTss, Bool.or_eq_true]
        split
        · exact State.farTss_stops kind sel _
        · exact .cons (fun _ => rfl) fun h => absurd h Bool.false_ne_true

/-! The instructions -/

/-- What a far JMP or CALL is, once its pointer is read (R463, R464, R467, R468). -/
theorem State.exec_farTo {kind : FarKind} {off sel : Word} (h : s.farTo kind off sel i) :
    exec i s = s.finish (s.farTransfer kind sel off) := by
  obtain ⟨hform, hoff⟩ := h
  cases kind with
  | jmp =>
    rcases hform with rfl | ⟨m, rfl, hread, hsel⟩
    · rfl
    · rw [exec_jmpEd hread, hsel, hoff m (by simp)]
  | call =>
    rcases hform with rfl | ⟨m, rfl, hread, hsel⟩
    · rfl
    · rw [exec_callEd hread, hsel, hoff m (by simp)]

theorem State.farTransfer_prot (hp : s.prot = true) (kind : FarKind) (sel off : Word) :
    s.farTransfer kind sel off = s.farTransferProt kind sel off := if_pos hp

/-- A far JMP or CALL to a selector goes to some offset. -/
theorem State.farTo_of_farForm {kind : FarKind} {off sel : Word} (h : s.farForm kind off sel i) :
    ∃ off', s.farTo kind off' sel i := by
  cases kind with
  | jmp =>
    rcases h with rfl | ⟨m, rfl, hread, hsel⟩
    · exact ⟨off, .inl rfl, by simp⟩
    · exact ⟨s.readPhys16 (s.addr m), .inr ⟨m, rfl, hread, hsel⟩, by simp⟩
  | call =>
    rcases h with rfl | ⟨m, rfl, hread, hsel⟩
    · exact ⟨off, .inl rfl, by simp⟩
    · exact ⟨s.readPhys16 (s.addr m), .inr ⟨m, rfl, hread, hsel⟩, by simp⟩

theorem State.tests_of_farTo (hp : s.prot = true) {kind : FarKind} {off sel : Word} (h : s.farTo kind off sel i) :
    s.Tests i (s.farTests kind off sel) := by
  refine .of_stops (State.exec_farTo h) ?_
  rw [State.farTransfer_prot hp]
  exact State.farTransferProt_stops hp kind sel off

/-- A test that fails whatever the offset is. -/
theorem State.exception_of_farForm (hp : s.prot = true) {kind : FarKind} {off sel : Word} {v : Byte} {c : Word}
    (h : s.farForm kind off sel i)
    (hfail : ∀ off', firstFailing (s.farTests kind off' sel) = some (.exc v (some c) none)) :
    exec i s = s.exception v (some c) := by
  obtain ⟨off', hto⟩ := State.farTo_of_farForm h
  exact State.tests_of_farTo hp hto _ (hfail off')

/-- The tests that decide a far transfer to a code segment (R473). -/
theorem State.firstFailing_farTests_code (kind : FarKind) {sel : Word} (off : Word) (h4 : 4 ≤ sel.toNat)
    (hin : s.inTable sel = true) (hcode : (s.entry sel).isCode = true) : firstFailing (s.farTests kind off sel) =
      firstFailing (⟨(s.entry sel).atLevel s.cpl && ((s.entry sel).isConforming ||
        decide ((rplOf sel).toNat ≤ s.cpl.toNat)), excGp (selCode sel)⟩ ::
          ⟨arPresent (s.entry sel).ar, excNp (selCode sel)⟩ :: s.landingTests kind off (s.entry sel)) := by
  simp only [State.farTests, State.codeTests, errorCode_zero, hcode, if_true, hin, decide_eq_true h4, Bool.true_and]
  rfl

/-- Settles O38. -/
theorem farTransferExceptions : Obligations.FarTransferExceptions := by
  intro s off sel hp ec both
  refine ⟨fun kind i h => State.tests_of_farTo hp h, fun hnull kind i h => ?null, fun h4 hnone kind i h => ?outside,
    fun d h4 hd hcode => ⟨fun hconf hpriv kind i h => ?level, fun hconf hpriv kind i h => ?conforming,
      fun hconf hrpl hdpl habs kind i h => ?absent, fun hconf hdpl habs kind i h => ?absentConforming⟩,
    fun d h4 hd hcode hsys kind i h => ?type⟩
  all_goals refine State.exception_of_farForm hp h fun off' => ?_
  case null =>
    have hlt : ¬ 4 ≤ sel.toNat := Nat.not_le.mpr hnull
    simp [State.farTests, hlt, excGp]
  case outside =>
    simp only [State.farTests, errorCode_zero, decide_eq_true h4, State.desc?_none hnone]
    rfl
  all_goals obtain ⟨hin, rfl⟩ := State.desc?_some hd
  case level =>
    rw [State.firstFailing_farTests_code kind off' h4 hin hcode]
    have hbad : ((s.entry sel).atLevel s.cpl && ((s.entry sel).isConforming ||
        decide ((rplOf sel).toNat ≤ s.cpl.toNat))) = false := by
      simp only [Desc.atLevel, hconf, Bool.false_eq_true, if_false, Bool.false_or, Bool.and_eq_false_iff,
        beq_eq_false_iff_ne, decide_eq_false_iff_not, Nat.not_le]
      exact hpriv.symm
    rw [hbad]
    rfl
  case conforming =>
    rw [State.firstFailing_farTests_code kind off' h4 hin hcode]
    have hbad : (s.entry sel).atLevel s.cpl = false := by
      rw [Desc.atLevel, if_pos hconf]
      exact decide_eq_false (Nat.not_le.mpr hpriv)
    rw [hbad]
    rfl
  case absent =>
    rw [State.firstFailing_farTests_code kind off' h4 hin hcode]
    have hgood : (s.entry sel).atLevel s.cpl = true := by
      rw [Desc.atLevel, hconf, hdpl]
      simp
    rw [hgood, habs, decide_eq_true hrpl, Bool.or_true]
    rfl
  case absentConforming =>
    rw [State.firstFailing_farTests_code kind off' h4 hin hcode]
    have hgood : (s.entry sel).atLevel s.cpl = true := by
      rw [Desc.atLevel, if_pos hconf]
      exact decide_eq_true hdpl
    rw [hgood, habs, hconf]
    rfl
  case type =>
    have h1 := hsys 1 (by simp)
    have h3 := hsys 3 (by simp)
    have hcall := hsys 4 (by simp)
    have htask := hsys 5 (by simp)
    simp only [State.farTests, errorCode_zero, decide_eq_true h4, hin, hcode, h1, h3, hcall, htask, Bool.false_eq_true,
      or_self, if_false]
    rfl

end Sys2Proof.Machine
end

section
/-!
# Far transfers within the privilege level (O36)
-/

namespace Sys2Proof.Machine

variable {s t : State} {i : Instr}

/-! What stores read and change of a state -/

/-- The part of a state that stores read and change. -/
structure Bus where
  mem : List Host.Cell
  memMap : List Region
  hostOut : List HostEvent

/-- The part of `s` that stores read and change. -/
def State.bus (s : State) : Bus := ⟨s.mem, s.memMap, s.hostOut⟩

/-- `s` with what stores have made of it. -/
def State.onBus (s : State) (b : Bus) : State := { s with mem := b.mem, memMap := b.memMap, hostOut := b.hostOut }

/-- A byte stored (R122, R127, R128). -/
def Bus.write (b : Bus) (a : PAddr) (v : Byte) : Bus :=
  match kindAt b.memMap a with
  | .ram => { b with mem := Memory.write b.mem a.toNat v }
  | .rom => b
  | .absent => b
  | .device => { b with hostOut := .device a v :: b.hostOut }

/-- A word stored. -/
def Bus.write16 (b : Bus) (a : PAddr) (v : Word) : Bus := (b.write a v.lo).write (a + 1) v.hi

/-- The Accessed bit of a descriptor stored, under bus LOCK. -/
def Bus.access (b : Bus) (d : Desc) : Bus := { b with hostOut := .lock :: b.hostOut }.write (d.addr + 5) (d.ar ||| 1)

/-- Words stored one below the other, from `sp` down. -/
def Bus.pushes (b : Bus) (x : SegReg) (sp : Word) : List Word → Bus
  | [] => b
  | v :: vs => (b.write16 (x.lin (sp - 2)) v).pushes x (sp - 2) vs

/-- STORES ARE MADE ON THE BUS: they read and change nothing else of a state. -/
theorem State.writePhys_bus (s : State) (a : PAddr) (v : Byte) : s.writePhys a v = s.onBus (s.bus.write a v) := by
  have hmap : s.bus.memMap = s.memMap := rfl
  unfold State.writePhys Bus.write
  rw [hmap]
  cases kindAt s.memMap a <;> rfl

theorem State.onBus_bus (s : State) (b : Bus) : (s.onBus b).bus = b := rfl

theorem State.onBus_onBus (s : State) (b c : Bus) : (s.onBus b).onBus c = s.onBus c := rfl

theorem State.writePhys16_bus (s : State) (a : PAddr) (v : Word) : s.writePhys16 a v = s.onBus (s.bus.write16 a v) := by
  rw [State.writePhys16, State.writePhys_bus, State.writePhys_bus]
  rfl

theorem State.access_bus (s : State) (d : Desc) : s.access d = s.onBus (s.bus.access d) := by
  rw [State.access, State.writePhys_bus]
  rfl

theorem State.pushList_bus (x : SegReg) (sp : Word) (l : List Word) (s : State) :
    s.pushList x sp l = s.onBus (s.bus.pushes x sp l) := by
  induction l generalizing s sp with
  | nil => rfl
  | cons v l ih => rw [State.pushList, ih, State.writePhys16_bus]; rfl

theorem State.loadCache_bus (s : State) (x : SReg) (sel : Word) (d : Desc) :
    s.loadCache x sel d = (s.onBus (s.bus.access d)).setSeg x (d.loaded sel) := by
  rw [← State.access_bus]
  rfl

theorem State.loadCs_bus (s : State) (sel : Word) (d : Desc) (p : BitVec 2) : s.loadCs sel d p =
    { s.onBus (s.bus.access d) with cs := d.loaded ((sel &&& 0xFFFC) ||| p.setWidth 16) } :=
  s.loadCache_bus .cs _ d

/-- Words pushed, as a list. -/
theorem State.pushRaws_bus (l : List Word) (s : State) : l.foldl State.pushRaw s =
    { s.onBus (s.bus.pushes s.ss s.regs.sp l) with
      regs := { s.regs with sp := s.regs.sp - BitVec.ofNat 16 (2 * l.length) } } := by
  rw [State.foldl_pushRaw, State.pushList_bus]
  rfl

/-! Descriptors found and tested -/

theorem State.codeTests_pass {u : State} {sel x : Word} {c : Desc} {allowed : Bool} (h4 : 4 ≤ sel.toNat)
    (hc : u.desc? sel = some c) (hcode : c.isCode = true) (hallowed : allowed = true) (hpres : arPresent c.ar = true) :
    passTests (u.codeTests sel x allowed) = .ok () := by
  obtain ⟨hin, rfl⟩ := State.desc?_some hc
  refine passTests_ok ?_
  simp only [State.codeTests, List.forall_mem_cons, List.not_mem_nil, false_imp_iff, implies_true, and_true]
  exact ⟨decide_eq_true h4, hin, Bool.and_eq_true_iff.mpr ⟨hcode, hallowed⟩, hpres⟩

theorem State.stackTests_pass {bad : Word → Stop} {l : BitVec 2} {sel x : Word} {d : Desc} (h4 : 4 ≤ sel.toNat)
    (hd : (s.reading .stackSeg).desc? sel = some d) (hrpl : rplOf sel = l) (hdpl : arDpl d.ar = l)
    (hw : d.isWritableData = true) (hpres : arPresent d.ar = true) :
    passTests (s.stackTests bad l sel x) = .ok () := by
  obtain ⟨hin, rfl⟩ := State.desc?_some hd
  refine passTests_ok ?_
  simp only [State.stackTests, List.forall_mem_cons, List.not_mem_nil, false_imp_iff, implies_true, and_true]
  exact ⟨decide_eq_true h4, hin, by simp [hrpl, hdpl, hw], hpres⟩

theorem Desc.atLevel_iff (c : Desc) (l : BitVec 2) : c.atLevel l = true ↔
    c.isConforming = true ∧ (arDpl c.ar).toNat ≤ l.toNat ∨ c.isConforming = false ∧ arDpl c.ar = l := by
  unfold Desc.atLevel
  cases c.isConforming <;> simp

/-! Far JMP and CALL at the same level -/

/-- The caller's CS and the offset behind the CALL pushed, for a CALL. -/
def State.farPushed (s : State) : FarKind → State
  | .jmp => s
  | .call => (s.pushRaw s.cs.sel).pushRaw s.nextIp

theorem State.farSame_ok {kind : FarKind} {sel off : Word} {c : Desc} (hroom : kind = .call → s.canPush 2 = true)
    (hoff : off.toNat ≤ c.limit.toNat) :
    s.farSame kind sel off c = .ok (((s.farPushed kind).loadCs sel c s.cpl).goto off) := by
  cases kind with
  | jmp => simp only [State.farSame, decide_eq_true hoff, State.farPushed]; rfl
  | call => simp only [State.farSame, decide_eq_true hoff, hroom rfl, State.farPushed]; rfl

theorem State.farCode_ok {kind : FarKind} {sel off : Word} {d : Desc} (h4 : 4 ≤ sel.toNat) (hd : s.desc? sel = some d)
    (hcode : d.isCode = true) (hlevel : d.atLevel s.cpl = true)
    (hrpl : d.isConforming = false → (rplOf sel).toNat ≤ s.cpl.toNat) (hpres : arPresent d.ar = true)
    (hroom : kind = .call → s.canPush 2 = true) (hoff : off.toNat ≤ d.limit.toNat) :
    s.farTransferProt kind sel off = .ok (((s.farPushed kind).loadCs sel d s.cpl).goto off) := by
  have hallowed : (if d.isConforming then decide (arDpl d.ar ≤ s.cpl)
      else decide (rplOf sel ≤ s.cpl) && arDpl d.ar == s.cpl) = true := by
    rw [Desc.atLevel_eq] at hlevel
    cases hconf : d.isConforming with
    | true => simpa [hconf] using hlevel
    | false =>
      rw [hconf] at hlevel
      have hle : decide (rplOf sel ≤ s.cpl) = true := decide_eq_true (hrpl hconf)
      simpa [hle] using hlevel
  have hnull : (!isNull sel) = true := by rw [not_isNull_eq]; exact decide_eq_true h4
  have hdesc := (s.desc_ok sel (excGp (selCode sel)) d).mpr hd
  simp only [State.farTransferProt, hnull, check_true, run_bind_ok, hdesc, hcode, if_true, State.farCode,
    hallowed, hpres, State.farSame_ok hroom hoff]

/-- What CS:IP become behind a same-level transfer, and the Accessed bit (R473). -/
def State.gone (t s : State) (sel off : Word) (d : Desc) : State :=
  { t.access d with cs := d.loaded ((sel &&& 0xFFFC) ||| s.cpl.setWidth 16), ip := off, dec := {} }

/-- The state of a CALL that has pushed CS and its return offset. -/
def State.farCalled (s : State) : State :=
  { (s.writePhys16 (s.stackAddr (-2)) s.cs.sel).writePhys16 (s.stackAddr (-4)) s.nextIp with
    regs := { s.regs with sp := s.regs.sp - 4 } }

theorem State.farPushed_call (s : State) : s.farPushed .call = s.farCalled :=
  (s.pushRaw2 _ _).trans (State.setSp_of_regs (by simp) _)

theorem State.readPhys_farCalled (a : PAddr) (h : a ∉ s.pushCells 2) : s.farCalled.readPhys a = s.readPhys a := by
  rw [← s.farPushed_call]
  exact State.readPhys_pushes [s.cs.sel, s.nextIp] s a h

theorem State.readPhys_gone {u : State} {sel off : Word} {d : Desc} (a : PAddr) (h : a ≠ d.addr + 5) :
    (u.gone s sel off d).readPhys a = u.readPhys a :=
  (State.readPhys_congr a rfl rfl rfl rfl).trans (u.readPhys_access d a (by simpa using h))

theorem State.exec_farTo_prot (hp : s.prot = true) {kind : FarKind} {off sel : Word} (h : s.farTo kind off sel i) :
    exec i s = s.finish (s.farTransferProt kind sel off) := by
  rw [State.exec_farTo h, State.farTransfer_prot hp]

/-- A far JMP within its level. -/
theorem Does.of_farJmp {sel' off' sel off : Word} {d : Desc} (hi : exec i s = s.finish (s.farTransferProt .jmp sel' off'))
    (h : s.farTransferProt .jmp sel' off' = .ok (((s.farPushed .jmp).loadCs sel d s.cpl).goto off)) :
    Does i s (s.gone s sel off d) [d.addr + 5] :=
  .of_run hi h fun a ha => State.readPhys_gone a (by simpa using ha)

/-- A far CALL within its level. -/
theorem Does.of_farCall {sel' off' sel off : Word} {d : Desc} (hi : exec i s = s.finish (s.farTransferProt .call sel' off'))
    (h : s.farTransferProt .call sel' off' = .ok (((s.farPushed .call).loadCs sel d s.cpl).goto off)) :
    Does i s (s.farCalled.gone s sel off d) ((d.addr + 5) :: s.pushCells 2) := by
  rw [s.farPushed_call] at h
  refine .of_run hi h fun a ha => ?_
  rw [List.mem_cons, not_or] at ha
  obtain ⟨hne, hpush⟩ := ha
  exact (State.readPhys_gone a hne).trans (State.readPhys_farCalled a hpush)

theorem arIsType_not_segment {ar : Byte} {k : BitVec 4} (h : arIsType ar k = true) : arSegment ar = false := by
  simp only [arIsType, Bool.and_eq_true, Bool.not_eq_true'] at h
  exact h.1

theorem Desc.not_isCode_of_type {d : Desc} {k : BitVec 4} (h : arIsType d.ar k = true) : d.isCode = false := by
  rw [Desc.isCode, arIsType_not_segment h, Bool.false_and]

/-- A far JMP or CALL to a call gate is what the gate makes of it (R472). -/
theorem State.farTransferProt_gate {kind : FarKind} {sel off : Word} {g : Desc} (h4 : 4 ≤ sel.toNat)
    (hg : s.desc? sel = some g) (htype : arIsType g.ar 4 = true) (huse : s.mayUse sel g = true)
    (hpres : arPresent g.ar = true) : s.farTransferProt kind sel off = (do
      passTests ((s.reading .target).codeTests g.gateSel 0
        (s.gateLevel kind ((s.reading .target).entry g.gateSel)))
      if kind = .call ∧ s.isInner ((s.reading .target).entry g.gateSel) = true then
        s.callInner g ((s.reading .target).entry g.gateSel)
      else s.farSame kind g.gateSel g.gateOffset ((s.reading .target).entry g.gateSel)) := by
  have hnull : (!isNull sel) = true := by rw [not_isNull_eq]; exact decide_eq_true h4
  have hdesc := (s.desc_ok sel (excGp (selCode sel)) g).mpr hg
  simp only [State.farTransferProt, hnull, check_true, run_bind_ok, hdesc, Desc.not_isCode_of_type htype, htype,
    Bool.false_eq_true, if_false, if_true, State.farGate_eq, huse, hpres]

theorem State.gateLevel_of_atLevel (kind : FarKind) {c : Desc} (h : c.atLevel s.cpl = true) :
    s.gateLevel kind c = true := by
  cases kind with
  | jmp =>
    rw [State.gateLevel, ← Desc.atLevel_eq]
    exact h
  | call =>
    refine decide_eq_true ?_
    rw [BitVec.le_def]
    rcases (c.atLevel_iff s.cpl).mp h with ⟨-, hle⟩ | ⟨-, heq⟩
    · exact hle
    · rw [heq]

theorem State.not_isInner_of_atLevel {c : Desc} (h : c.atLevel s.cpl = true) : s.isInner c = false := by
  rcases (c.atLevel_iff s.cpl).mp h with ⟨hconf, -⟩ | ⟨-, heq⟩
  · rw [State.isInner, hconf]
    rfl
  · rw [State.isInner, heq]
    simp

theorem State.farGate_ok {kind : FarKind} {sel off : Word} {g c : Desc} (h4 : 4 ≤ sel.toNat) (hg : s.desc? sel = some g)
    (htype : arIsType g.ar 4 = true) (huse : s.mayUse sel g = true) (hpres : arPresent g.ar = true)
    (h4' : 4 ≤ g.gateSel.toNat) (hc : (s.reading .target).desc? g.gateSel = some c) (hcode : c.isCode = true)
    (hlevel : c.atLevel s.cpl = true) (hpres' : arPresent c.ar = true) (hroom : kind = .call → s.canPush 2 = true)
    (hoff : g.gateOffset.toNat ≤ c.limit.toNat) :
    s.farTransferProt kind sel off = .ok (((s.farPushed kind).loadCs g.gateSel c s.cpl).goto g.gateOffset) := by
  obtain ⟨-, hentry⟩ := State.desc?_some hc
  have hsame : ¬ (kind = .call ∧ s.isInner c = true) := fun h =>
    absurd h.2 (by rw [State.not_isInner_of_atLevel hlevel]; exact Bool.false_ne_true)
  rw [State.farTransferProt_gate h4 hg htype huse hpres, hentry,
    State.codeTests_pass h4' hc hcode (State.gateLevel_of_atLevel kind hlevel) hpres', run_bind_ok, if_neg hsame,
    State.farSame_ok hroom hoff]

/-- A far JMP through a gate to another level (R474). -/
theorem State.farGate_jmp_level {sel off : Word} {g c : Desc} (h4 : 4 ≤ sel.toNat) (hg : s.desc? sel = some g)
    (htype : arIsType g.ar 4 = true) (huse : s.mayUse sel g = true) (hpres : arPresent g.ar = true)
    (h4' : 4 ≤ g.gateSel.toNat) (hc : (s.reading .target).desc? g.gateSel = some c) (hcode : c.isCode = true)
    (hlevel : c.atLevel s.cpl = false) :
    s.farTransferProt .jmp sel off = .error (excGp (selCode g.gateSel)) := by
  obtain ⟨hin, rfl⟩ := State.desc?_some hc
  have hfail : firstFailing ((s.reading .target).codeTests g.gateSel 0
      (s.gateLevel .jmp ((s.reading .target).entry g.gateSel))) = some (excGp (selCode g.gateSel)) := by
    have hgate : s.gateLevel .jmp ((s.reading .target).entry g.gateSel) = false := by
      rw [State.gateLevel, ← Desc.atLevel_eq]
      exact hlevel
    simp only [State.codeTests, errorCode_zero, hgate, Bool.and_false, decide_eq_true h4', hin]
    rfl
  rw [State.farTransferProt_gate h4 hg htype huse hpres, passTests_error hfail, run_bind_error]

/-! Far RET -/

theorem State.returnCode_eq (s : State) (rs : Word) :
    s.returnCode rs = (passTests (s.returnTests rs) >>= fun _ => pure ((s.reading .target).entry rs)) := by
  have h := State.code_checks (s.reading .target) rs 0 (fun c => c.atLevel (rplOf rs)) pure
  simp only [Desc.atLevel_eq, errorCode_zero] at h
  simp only [State.returnCode, State.returnTests, Desc.atLevel_eq]
  exact h

theorem State.returnCode_of {rs : Word} {c : Desc} (h4 : 4 ≤ rs.toNat) (hc : (s.reading .target).desc? rs = some c)
    (hcode : c.isCode = true) (hlevel : c.atLevel (rplOf rs) = true) (hpres : arPresent c.ar = true) :
    s.returnCode rs = .ok c := by
  obtain ⟨-, hentry⟩ := State.desc?_some hc
  rw [State.returnCode_eq, State.returnTests, hentry, State.codeTests_pass h4 hc hcode hlevel hpres]
  rfl

theorem State.retFar_prot (hp : s.prot = true) {n sel : Word} (hread : s.canRead .ss (s.regs.sp + 2) 2 = true)
    (hsel : s.readPhys16 (s.stackAddr 2) = sel) (hlevel : s.cpl.toNat ≤ (rplOf sel).toNat) :
    s.retFar n = if rplOf sel = s.cpl then s.retFarSame sel n else s.retFarOuter sel n := by
  have hle : decide (s.cpl ≤ rplOf sel) = true := decide_eq_true hlevel
  simp only [State.retFar, hp, Bool.not_true, Bool.false_eq_true, if_false, State.stackWord_ok hread, run_bind_ok, hsel,
    hle, check_true]

theorem State.retFarSame_ok {n sel : Word} {d : Desc} (h4 : 4 ≤ sel.toNat)
    (hd : (s.reading .target).desc? sel = some d) (hcode : d.isCode = true) (hlevel : d.atLevel (rplOf sel) = true)
    (hpres : arPresent d.ar = true) (hread : s.canRead .ss s.regs.sp 2 = true)
    (hoff : (s.readPhys16 (s.stackAddr 0)).toNat ≤ d.limit.toNat) : s.retFarSame sel n =
      .ok (((s.loadCs sel d (rplOf sel)).goto (s.readPhys16 (s.stackAddr 0))).setSp (s.regs.sp + 4 + n)) := by
  simp only [State.retFarSame, State.returnCode_of h4 hd hcode hlevel hpres, run_bind_ok, State.stackWord_zero hread,
    decide_eq_true hoff, check_true, run_pure]

/-- Settles O36. -/
theorem protectedFarTransfersSameLevel : Obligations.ProtectedFarTransfersSameLevel := by
  refine ⟨?segment, ?gate⟩
  case segment =>
    intro s sel d hp h4 hcode hpres gone called
    refine ⟨fun hd hallowed => ?far, fun hd hrpl hlevel h0 h2 hsel => ?ret⟩
    case far =>
      have hlevel : d.atLevel s.cpl = true := (d.atLevel_iff s.cpl).mpr
        (hallowed.imp id fun ⟨hconf, _, heq⟩ => ⟨hconf, heq⟩)
      have hrpl : d.isConforming = false → (rplOf sel).toNat ≤ s.cpl.toNat := by
        intro hconf
        rcases hallowed with ⟨hc, -⟩ | ⟨-, hr, -⟩
        · exact absurd (hc.symm.trans hconf) (by decide)
        · exact hr
      have hok (kind : FarKind) (off : Word) (hroom : kind = .call → s.canPush 2 = true)
          (hoff : off.toNat ≤ d.limit.toNat) :=
        State.farCode_ok (off := off) h4 hd hcode hlevel hrpl hpres hroom hoff
      have hexec {kind : FarKind} {off : Word} {i : Instr} (h : s.farTo kind off sel i) := State.exec_farTo_prot hp h
      refine ⟨fun off hoff => ⟨?jmpCd, fun hroom => ?callCd⟩, fun m hm hsel => ?memory⟩
      case jmpCd => exact .of_farJmp (hexec ⟨.inl rfl, by simp⟩) (hok .jmp off nofun hoff)
      case callCd => exact .of_farCall (hexec ⟨.inl rfl, by simp⟩) (hok .call off (fun _ => hroom) hoff)
      case memory =>
        intro off hoff
        exact ⟨.of_farJmp (hexec ⟨.inr ⟨m, rfl, hm, hsel⟩, by simp [off]⟩) (hok .jmp off nofun hoff),
          fun hroom => .of_farCall (hexec ⟨.inr ⟨m, rfl, hm, hsel⟩, by simp [off]⟩) (hok .call off (fun _ => hroom) hoff)⟩
    case ret =>
      intro off hoff back
      have hlevel' : d.atLevel (rplOf sel) = true := by
        rw [hrpl]
        exact (d.atLevel_iff s.cpl).mpr hlevel
      have hok (n : Word) : s.retFar n = .ok (back n) := by
        rw [State.retFar_prot hp h2 hsel (by rw [hrpl]), if_pos hrpl,
          State.retFarSame_ok h4 hd hcode hlevel' hpres h0 hoff, hrpl]
        exact congrArg Except.ok (State.setSp_of_regs (u := s.gone s sel off d) (s.access_regs d) _)
      have hframe : ∀ a, a ∉ [d.addr + 5] → (s.access d).readPhys a = s.readPhys a := s.readPhys_access d
      exact ⟨.of_run rfl (hok 0) (frame_of hframe rfl rfl rfl rfl),
        fun n => .of_run rfl (hok n) (frame_of hframe rfl rfl rfl rfl)⟩
  case gate =>
    intro s off sel g c hp h4 hg htype huse hpres h4' hc hcode gone called
    refine ⟨fun i hi => ⟨fun hlevel hpres' hoff => ?jmp, fun hlevel => ?bad⟩, fun i hi hlevel hpres' hoff hroom => ?call⟩
    all_goals obtain ⟨off', hto⟩ := State.farTo_of_farForm hi
    case jmp =>
      exact .of_farJmp (State.exec_farTo_prot hp hto) (State.farGate_ok h4 hg htype huse hpres h4' hc hcode
        ((c.atLevel_iff s.cpl).mpr hlevel) hpres' nofun hoff)
    case bad =>
      have hlevel' : c.atLevel s.cpl = false := by
        rw [Bool.eq_false_iff, ne_eq, Desc.atLevel_iff]
        rintro (⟨hconf, hle⟩ | ⟨-, heq⟩)
        · rcases hlevel with ⟨hconf', -⟩ | hlt
          · exact absurd (hconf.symm.trans hconf') (by decide)
          · omega
        · rcases hlevel with ⟨-, hne⟩ | hlt
          · exact hne heq
          · rw [heq] at hlt
            omega
      rw [State.exec_farTo_prot hp hto, State.farGate_jmp_level h4 hg htype huse hpres h4' hc hcode hlevel']
      rfl
    case call =>
      exact .of_farCall (State.exec_farTo_prot hp hto) (State.farGate_ok h4 hg htype huse hpres h4' hc hcode
        ((c.atLevel_iff s.cpl).mpr hlevel) hpres' (fun _ => hroom) hoff)

end Sys2Proof.Machine
end

section
/-!
# Calls to an inner level and returns to an outer one (O37)
-/

namespace Sys2Proof.Machine

variable {s t : State} {i : Instr}

theorem passTests_ok_iff {l : List Test} : passTests l = .ok () ↔ ∀ t ∈ l, t.ok = true := by
  refine ⟨fun h => ?_, passTests_ok⟩
  rw [← firstFailing_none_iff]
  cases hl : firstFailing l with
  | none => rfl
  | some e =>
    rw [passTests_error hl] at h
    cases h

theorem passTests_append_ok {l k : List Test} (hl : passTests l = .ok ()) (hk : passTests k = .ok ()) :
    passTests (l ++ k) = .ok () := by
  rw [passTests_ok_iff] at *
  exact List.forall_mem_append.mpr ⟨hl, hk⟩

theorem passTests_one {b : Bool} {e : Stop} (h : b = true) : passTests [⟨b, e⟩] = .ok () :=
  passTests_ok (by simpa using h)

/-! The stack of the inner level -/

theorem State.pushReversed_eq (s : State) (l : List Word) : s.pushReversed l = l.reverse.foldl State.pushRaw s := by
  induction l with
  | nil => rfl
  | cons v l ih => rw [State.pushReversed, ih, List.reverse_cons, List.foldl_append]; rfl

/-- SS:SP and CS loaded for an inner level, with both Accessed bits (R477, R840). -/
theorem State.loadInner_bus (s : State) (nss nsp : Word) (d : Desc) (sel : Word) (c : Desc) (l : BitVec 2) :
    (s.loadInnerStack nss nsp d).loadCs sel c l =
      { s.onBus ((s.bus.access d).access c) with
        regs := { s.regs with sp := nsp }
        ss := d.loaded nss
        cs := c.loaded ((sel &&& 0xFFFC) ||| l.setWidth 16) } := by
  rw [State.loadInnerStack, State.loadCache_bus, State.loadCs_bus]
  rfl

/-- Both loads, and words pushed on the new stack (R477, R840). -/
theorem State.loadInner_pushes (s : State) (nss nsp : Word) (d : Desc) (sel : Word) (c : Desc) (l : BitVec 2)
    (words : List Word) : words.foldl State.pushRaw ((s.loadInnerStack nss nsp d).loadCs sel c l) =
      { ((s.access d).access c).pushList (d.loaded nss) nsp words with
        regs := { s.regs with sp := nsp - BitVec.ofNat 16 (2 * words.length) }
        ss := d.loaded nss
        cs := c.loaded ((sel &&& 0xFFFC) ||| l.setWidth 16) } := by
  rw [State.loadInner_bus, State.pushRaws_bus, State.pushList_bus, State.access_bus, State.access_bus s]
  rfl

theorem State.readPhys_inner {x : SegReg} {sp : Word} {words : List Word} {d c : Desc} (a : PAddr)
    (h : a ∉ [d.addr + 5, c.addr + 5] ++ x.pushCells sp words.length) :
    (((s.access d).access c).pushList x sp words).readPhys a = s.readPhys a := by
  simp only [List.mem_append, List.mem_cons, List.not_mem_nil, or_false, not_or] at h
  obtain ⟨⟨hd, hc⟩, hpush⟩ := h
  rw [State.readPhys_pushList x sp words _ a hpush, State.readPhys_access c a (by simpa using hc),
    State.readPhys_access d a (by simpa using hd)]

theorem State.innerTests_pass {l : BitVec 2} {x : Word} {n : Nat} {d : Desc} (htr : s.tr.valid = true)
    (hlim : 4 * l.toNat + 5 ≤ s.tr.limit.toNat) (h4 : 4 ≤ (s.tssWord l 4).toNat)
    (hd : (s.reading .stackSeg).desc? (s.tssWord l 4) = some d) (hrpl : rplOf (s.tssWord l 4) = l)
    (hdpl : arDpl d.ar = l) (hw : d.isWritableData = true) (hpres : arPresent d.ar = true)
    (hroom : ∀ k < n, (d.loaded (s.tssWord l 4)).inLimit (s.tssWord l 2 - BitVec.ofNat 16 (2 * (k + 1))) 2 = true) :
    passTests (s.innerTests l x n) = .ok () := by
  obtain ⟨-, hentry⟩ := State.desc?_some hd
  have hstack := State.stackTests_pass (bad := excTs) (x := x) h4 hd hrpl hdpl hw hpres
  refine passTests_append_ok (passTests_append_ok (passTests_one (by simp [htr, hlim])) hstack) (passTests_one ?_)
  show (List.range n).all (fun k => (((s.reading .stackSeg).entry (s.tssWord l 4)).loaded (s.tssWord l 4)).inLimit
    (s.tssWord l 2 - BitVec.ofNat 16 (2 * (k + 1))) 2) = true
  rw [hentry]
  simpa using hroom

/-- The state of a CALL through a gate to an inner level (R477). -/
def State.calledInside (s : State) (nss nsp : Word) (g d c : Desc) (words : List Word) : State :=
  { ((s.access d).access c).pushList (d.loaded nss) nsp words with
    regs := { s.regs with sp := nsp - BitVec.ofNat 16 (2 * words.length) }
    ss := d.loaded nss
    cs := c.loaded ((g.gateSel &&& 0xFFFC) ||| (arDpl c.ar).setWidth 16)
    ip := g.gateOffset
    dec := {} }

theorem State.callInner_ok (hp : s.prot = true) {g c d : Desc}
    (htests : passTests (s.innerTests (arDpl c.ar) 0 (4 + g.wordCount)) = .ok ())
    (hd : (s.reading .stackSeg).desc? (s.tssWord (arDpl c.ar) 4) = some d)
    (hoff : g.gateOffset.toNat ≤ c.limit.toNat)
    (hread : ∀ k < g.wordCount, s.canRead .ss (s.regs.sp + BitVec.ofNat 16 (2 * k)) 2 = true) :
    s.callInner g c = .ok (s.calledInside (s.tssWord (arDpl c.ar) 4) (s.tssWord (arDpl c.ar) 2) g d c
      ([s.ss.sel, s.regs.sp] ++ (s.parameterWords g.wordCount).reverse ++ [s.cs.sel, s.nextIp])) := by
  obtain ⟨-, hentry⟩ := State.desc?_some hd
  have hall : ((List.range g.wordCount).all fun k => s.canRead .ss (s.regs.sp + BitVec.ofNat 16 (2 * k)) 2) = true := by
    simpa using hread
  simp only [State.callInner]
  rw [s.inner_checks, htests, run_bind_ok, hentry]
  simp only [decide_eq_true hoff, check_true, run_bind_ok, State.parameters_eq hp, hall, run_pure,
    State.pushReversed_eq]
  have hpushes := s.loadInner_pushes (s.tssWord (arDpl c.ar) 4) (s.tssWord (arDpl c.ar) 2) d g.gateSel c (arDpl c.ar)
    ([s.ss.sel, s.regs.sp] ++ (s.parameterWords g.wordCount).reverse ++ [s.cs.sel, s.nextIp])
  rw [List.foldl_append, List.foldl_append] at hpushes
  exact congrArg (fun u : State => Except.ok (u.goto g.gateOffset)) hpushes

/-- The words a call gate copies, whichever way they are given (R477). -/
theorem State.parameterWords_unique {ps : List Word} {n : Nat} (hlen : ps.length = n)
    (h : ∀ k < n, ps[k]? = some ((s.reading .parameters).readPhys16 (s.stackAddr (BitVec.ofNat 16 (2 * k))))) :
    ps = s.parameterWords n := by
  refine List.ext_getElem? fun k => ?_
  by_cases hk : k < n
  · rw [h k hk, State.parameterWords, List.getElem?_map, List.getElem?_range hk]
    rfl
  · rw [List.getElem?_eq_none (by omega), List.getElem?_eq_none (by simp [State.parameterWords]; omega)]

/-! DS and ES at an outer level -/

theorem State.inTable_of_tables {u : State} (hg : u.gdtr = s.gdtr) (hl : u.ldtr = s.ldtr) (sel : Word) :
    (u.desc? sel).isSome = (s.desc? sel).isSome := by
  simp only [State.desc?, State.tableOf, hg, hl]
  cases sel.getLsbD 2 with
  | false => simp only [Bool.false_eq_true, if_false]; split <;> rfl
  | true =>
    cases s.ldtr.valid with
    | false => rfl
    | true => simp only [if_true]; split <;> rfl

theorem State.outward_of_tables {u : State} (hg : u.gdtr = s.gdtr) (hl : u.ldtr = s.ldtr) (l : BitVec 2) (x : SegReg) :
    u.outward l x = s.outward l x := by
  simp only [State.outward, State.inTable_of_tables hg hl]

/-- A register that the outer level `l` may keep (R492). -/
def State.keepsOutward (s : State) (l : BitVec 2) (x : SegReg) : Prop :=
  x.valid = false ∨
    ((s.desc? x.sel).isSome = true ∧ arSegment x.ar = true ∧ (arExec x.ar = false ∨ arReadWrite x.ar = true) ∧
      (arExec x.ar = true ∧ arConfDown x.ar = true ∨
        l.toNat ≤ (arDpl x.ar).toNat ∧ (rplOf x.sel).toNat ≤ (arDpl x.ar).toNat))

theorem State.outward_keeps {l : BitVec 2} {x : SegReg} (h : s.keepsOutward l x) : s.outward l x = x := if_pos h

theorem State.outward_nulls {l : BitVec 2} {x : SegReg} (h : ¬ s.keepsOutward l x) :
    s.outward l x = { x with sel := 0, ar := 0, valid := false } := if_neg h

theorem State.setSeg_self (u : State) (r : SReg) : u.setSeg r (u.seg r) = u := by cases r <;> rfl

/-- The test of `NullIfInvalid` (R492). -/
def State.dropsOutward (s : State) (l : BitVec 2) (x : SegReg) : Bool :=
  x.valid && !((s.desc? x.sel).isSome && (arSegment x.ar && (!arExec x.ar || arReadWrite x.ar)) &&
    ((arExec x.ar && arConfDown x.ar) || (decide (l ≤ arDpl x.ar) && decide (rplOf x.sel ≤ arDpl x.ar))))

theorem State.keepsOutward_iff {l : BitVec 2} {x : SegReg} : s.keepsOutward l x ↔ s.dropsOutward l x = false := by
  simp only [State.keepsOutward, State.dropsOutward, Bool.and_eq_false_iff, Bool.not_eq_false', Bool.and_eq_true,
    Bool.or_eq_true, Bool.not_eq_true', decide_eq_true_eq, BitVec.le_def, and_assoc]

theorem State.nullIfInvalid_eq_ite (u : State) (r : SReg) : u.nullIfInvalid r =
    if u.dropsOutward u.cpl (u.seg r) then u.setSeg r { u.seg r with sel := 0, ar := 0, valid := false } else u := by
  cases hd : u.desc? (u.seg r).sel with
  | none => simp only [State.nullIfInvalid, State.dropsOutward, hd, Option.isSome_none]
  | some d => simp only [State.nullIfInvalid, State.dropsOutward, hd, Option.isSome_some]

/-- `NullIfInvalid` of a register is what the register is at the outer level (R492). -/
theorem State.nullIfInvalid_eq (u : State) (r : SReg) :
    u.nullIfInvalid r = u.setSeg r (u.outward u.cpl (u.seg r)) := by
  rw [State.nullIfInvalid_eq_ite]
  cases hdrop : u.dropsOutward u.cpl (u.seg r) with
  | false => rw [State.outward_keeps (State.keepsOutward_iff.mpr hdrop), State.setSeg_self, if_neg Bool.false_ne_true]
  | true =>
    have hnot : ¬ u.keepsOutward u.cpl (u.seg r) := by
      rw [State.keepsOutward_iff, hdrop]
      exact Bool.noConfusion
    rw [State.outward_nulls hnot, if_pos rfl]

/-- DS and ES at the level that CS has been given (R492). -/
theorem State.nullBoth_eq (u : State) (l : BitVec 2) (hl : u.cpl = l) :
    (u.nullIfInvalid .ds).nullIfInvalid .es = { u with ds := u.outward l u.ds, es := u.outward l u.es } := by
  have hcpl : (u.setSeg .ds (u.outward l u.ds)).cpl = l := hl
  rw [u.nullIfInvalid_eq .ds, hl]
  refine (State.nullIfInvalid_eq _ .es).trans ?_
  rw [show (u.setSeg .ds (u.outward l (u.seg .ds))).cpl = l from hl,
    State.outward_of_tables (s := u) (u := u.setSeg .ds (u.outward l (u.seg .ds))) rfl rfl]
  rfl

/-! Far RET to an outer level -/

theorem State.stackBytes_eq (n : Nat) : s.stackBytes n =
    (List.range n).all fun k => s.canRead .ss (s.regs.sp + BitVec.ofNat 16 k) 1 := by
  induction n with
  | zero => rfl
  | succ n ih => simp [State.stackBytes, List.range_succ, ih]

theorem State.returnStack_eq (s : State) (ns : Word) (l : BitVec 2) : s.returnStack ns l =
    (passTests (s.stackTests excGp l ns 0) >>= fun _ => pure ((s.reading .stackSeg).entry ns)) := by
  have hand (a b c : Bool) : (a && b && c) = (a && (c && b)) := by
    cases a with
    | true => exact Bool.and_comm b c
    | false => rfl
  simp only [State.returnStack, State.stackTests, passTests_cons, passTests_nil, State.desc_bind, hand, check_and,
    not_isNull_eq, errorCode_zero]

theorem State.returnStack_of {ns : Word} {l : BitVec 2} {d : Desc} (h4 : 4 ≤ ns.toNat)
    (hd : (s.reading .stackSeg).desc? ns = some d) (hrpl : rplOf ns = l) (hdpl : arDpl d.ar = l)
    (hw : d.isWritableData = true) (hpres : arPresent d.ar = true) : s.returnStack ns l = .ok d := by
  obtain ⟨-, hentry⟩ := State.desc?_some hd
  rw [State.returnStack_eq, State.stackTests_pass h4 hd hrpl hdpl hw hpres, hentry]
  rfl

/-- A word of the stack, read while another part of the instruction is. -/
theorem State.stackWord_reading (p : Part) {k : Word} (h : s.canRead .ss (s.regs.sp + k) 2 = true) :
    (s.reading p).stackWord k = .ok ((s.reading p).readPhys16 (s.stackAddr k)) :=
  State.stackWord_ok (s := s.reading p) h

theorem State.stackWord_eq (hp : s.prot = true) (k : Word) : s.stackWord k = (do
    check (s.canRead .ss (s.regs.sp + k) 2) (excSs 0)
    pure (s.readPhys16 (s.stackAddr k))) := by
  rw [← s.segFault_ss hp]
  rfl

theorem State.stackWord_reading_eq (hp : s.prot = true) (p : Part) (k : Word) : (s.reading p).stackWord k = (do
    check (s.canRead .ss (s.regs.sp + k) 2) (excSs 0)
    pure ((s.reading p).readPhys16 (s.stackAddr k))) := State.stackWord_eq (s := s.reading p) hp k

theorem State.retFarSame_stops (hp : s.prot = true) (sel n : Word) :
    Run.Stops (s.returnTests sel ++ [s.wordTest 0, s.offsetTest sel (s.readPhys16 (s.stackAddr 0))])
      (s.retFarSame sel n) := by
  simp only [State.retFarSame, State.returnCode_eq, State.stackWord_eq hp, bind_assoc, pure_bind]
  exact .pass (.check fun _ => .last)

theorem State.retFarOuter_stops (hp : s.prot = true) (sel n : Word) :
    Run.Stops ([⟨(List.range (8 + n.toNat)).all fun k => s.canRead .ss (s.regs.sp + BitVec.ofNat 16 k) 1, excSs 0⟩] ++
        [0, 4 + n, 6 + n].map s.wordTest ++ s.returnTests sel ++
        s.stackTests excGp (rplOf sel) ((s.reading .outerStack).readPhys16 (s.stackAddr (6 + n))) 0 ++
        [s.offsetTest sel (s.readPhys16 (s.stackAddr 0))])
      (s.retFarOuter sel n) := by
  simp only [State.retFarOuter, State.stackBytes_eq, State.returnCode_eq, State.returnStack_eq, State.stackWord_eq hp,
    State.stackWord_reading_eq hp, bind_assoc, pure_bind, List.append_assoc, List.cons_append, List.nil_append,
    List.map_cons, List.map_nil]
  exact .check fun _ => .check fun _ => .check fun _ => .check fun _ => .pass (.pass .last)

/-- EVERY TEST OF A FAR RET in protected mode, in its order (R488, R489). -/
theorem State.retFar_stops (hp : s.prot = true) (n : Word) : Run.Stops (s.retFarTests n) (s.retFar n) := by
  simp only [State.retFar, State.retFarTests, hp, Bool.not_true, Bool.false_eq_true, if_false, State.stackWord_eq hp,
    bind_assoc, pure_bind, BitVec.le_def, List.cons_append, List.nil_append, errorCode_zero]
  refine .check fun _ => .check fun _ => ?_
  split
  · exact State.retFarSame_stops hp _ n
  · exact State.retFarOuter_stops hp _ n

/-- The state of a far RET to the outer level (R489). -/
def State.returnedFar (s : State) (c d : Desc) (sel ns nsp off : Word) : State :=
  { (s.access c).access d with
    regs := { s.regs with sp := nsp }
    cs := c.loaded sel
    ss := d.loaded ns
    ds := s.outward (rplOf sel) s.ds
    es := s.outward (rplOf sel) s.es
    ip := off
    dec := {} }

/-- CS:IP and SS:SP loaded for an outer level (R489, R502). -/
def State.atOuter (s : State) (c d : Desc) (sel ns nsp off : Word) : State :=
  { (s.access c).access d with
    regs := { s.regs with sp := nsp }, cs := c.loaded sel, ss := d.loaded ns, ip := off, dec := {} }

theorem State.atOuter_bus (s : State) (c d : Desc) (sel ns nsp off : Word) : s.atOuter c d sel ns nsp off =
    { s.onBus ((s.bus.access c).access d) with
      regs := { s.regs with sp := nsp }, cs := c.loaded sel, ss := d.loaded ns, ip := off, dec := {} } := by
  rw [State.atOuter, State.access_bus, State.access_bus s]
  rfl

theorem State.loadOuter_load (s : State) (c d : Desc) (sel ns nsp off : Word) :
    (((s.loadCs sel c (rplOf sel)).goto off).loadCache .ss ns d).setSp nsp = s.atOuter c d sel ns nsp off := by
  have hself : (sel &&& 0xFFFC) ||| (rplOf sel).setWidth 16 = sel := withRpl_self sel
  rw [State.loadCache_bus, State.loadCs_bus, hself, State.atOuter_bus]
  rfl

/-- CS:IP and SS:SP loaded for an outer level, and DS and ES made null there (R489, R502). -/
theorem State.loadOuter_eq (hp : s.prot = true) (c d : Desc) (sel ns nsp off : Word) :
    (((((s.loadCs sel c (rplOf sel)).goto off).loadCache .ss ns d).setSp nsp).nullIfInvalid .ds).nullIfInvalid .es =
      s.returnedFar c d sel ns nsp off := by
  have hcpl : (s.atOuter c d sel ns nsp off).cpl = rplOf sel := by
    rw [State.atOuter_bus]
    exact if_pos hp
  have hg : (s.atOuter c d sel ns nsp off).gdtr = s.gdtr := by rw [State.atOuter_bus]; rfl
  have hl : (s.atOuter c d sel ns nsp off).ldtr = s.ldtr := by rw [State.atOuter_bus]; rfl
  have hout (x : SegReg) : (s.atOuter c d sel ns nsp off).outward (rplOf sel) x = s.outward (rplOf sel) x :=
    State.outward_of_tables hg hl _ x
  rw [State.loadOuter_load, State.nullBoth_eq _ (rplOf sel) hcpl, hout, hout, State.atOuter_bus, State.returnedFar,
    State.access_bus, State.access_bus s]
  rfl

theorem State.retFarOuter_ok (hp : s.prot = true) {n sel : Word} {c d : Desc}
    (hbytes : ∀ k < 8 + n.toNat, s.canRead .ss (s.regs.sp + BitVec.ofNat 16 k) 1 = true)
    (hwords : ∀ k ∈ [0, 2, 4 + n, 6 + n], s.canRead .ss (s.regs.sp + k) 2 = true)
    (hcode : s.returnCode sel = .ok c)
    (hstack : s.returnStack ((s.reading .outerStack).readPhys16 (s.stackAddr (6 + n))) (rplOf sel) = .ok d)
    (hoff : (s.readPhys16 (s.stackAddr 0)).toNat ≤ c.limit.toNat) : s.retFarOuter sel n = .ok
      (s.returnedFar c d sel ((s.reading .outerStack).readPhys16 (s.stackAddr (6 + n)))
        ((s.reading .outerStack).readPhys16 (s.stackAddr (4 + n)) + n) (s.readPhys16 (s.stackAddr 0))) := by
  have hall : s.stackBytes (8 + n.toNat) = true := by
    rw [State.stackBytes_eq]
    simpa using hbytes
  have h0 := hwords 0 (by simp)
  have h4 := hwords (4 + n) (by simp)
  have h6 := hwords (6 + n) (by simp)
  simp only [State.retFarOuter, hall, check_true, run_bind_ok, State.stackWord_ok h0, State.stackWord_reading _ h4,
    State.stackWord_reading _ h6, hcode, hstack, decide_eq_true hoff, run_pure, State.loadOuter_eq hp]

theorem State.readPhys_access_two (s : State) (c d : Desc) (a : PAddr) (h : a ∉ [c.addr + 5, d.addr + 5]) :
    ((s.access c).access d).readPhys a = s.readPhys a := by
  simp only [List.mem_cons, List.not_mem_nil, or_false, not_or] at h
  obtain ⟨hc, hd⟩ := h
  rw [State.readPhys_access d a (by simpa using hd), State.readPhys_access c a (by simpa using hc)]

/-- Settles O37. -/
theorem callGateToInnerLevel : Obligations.CallGateToInnerLevel := by
  refine ⟨?call, ?ret, ?tests⟩
  case call =>
    intro s off sel g c d ps hp l nsp nss words h4 hg htype huse hpres h4' hc hcode hconf hlt hpres' htr hlim h4s hd
      hrpl hdpl hw hpresd hroom hoff hlen hps a t i hi
    obtain ⟨off', hto⟩ := State.farTo_of_farForm hi
    obtain ⟨-, hentry⟩ := State.desc?_some hc
    have hparams : ps = s.parameterWords g.wordCount :=
      State.parameterWords_unique hlen fun k hk => (hps k hk).2
    have htests : passTests (s.innerTests l 0 (4 + g.wordCount)) = .ok () := by
      refine State.innerTests_pass htr hlim h4s hd hrpl hdpl hw hpresd fun k hk => hroom k ?_
      simp only [words, List.length_append, List.length_cons, List.length_nil, List.length_reverse, hlen]
      omega
    have hlevel : s.gateLevel .call c = true := decide_eq_true (by rw [BitVec.le_def]; exact hlt.le)
    have hinner : FarKind.call = .call ∧ s.isInner c = true := ⟨rfl, by simp [State.isInner, hconf]; exact hlt⟩
    have hok : s.farTransferProt .call sel off' = .ok t := by
      rw [State.farTransferProt_gate h4 hg htype huse hpres, hentry, State.codeTests_pass h4' hc hcode hlevel hpres',
        run_bind_ok, if_pos hinner, State.callInner_ok hp htests hd hoff fun k hk => (hps k hk).1, ← hparams]
      rfl
    exact .of_run (State.exec_farTo_prot hp hto) hok (frame_of (fun b hb => State.readPhys_inner b hb) rfl rfl rfl rfl)
  case ret =>
    intro s c d n hp w o l hlt hbytes hwords h4 hc hcode hlevel hpres hoff h4s hd hrpl hdpl hw hpresd t
    have hok : s.retFar n = .ok t := by
      rw [State.retFar_prot hp (hwords 2 (by simp)) rfl hlt.le,
        if_neg (fun h => Nat.ne_of_gt hlt (congrArg BitVec.toNat h)),
        State.retFarOuter_ok hp hbytes hwords (State.returnCode_of h4 hc hcode ((c.atLevel_iff l).mpr hlevel) hpres)
          (State.returnStack_of h4s hd hrpl hdpl hw hpresd) hoff]
      rfl
    have hframe := s.readPhys_access_two c d
    refine ⟨.of_run (r := s.retFar n) rfl hok (frame_of hframe rfl rfl rfl rfl), ?_⟩
    rintro rfl
    exact .of_run (r := s.retFar 0) rfl hok (frame_of hframe rfl rfl rfl rfl)
  case tests =>
    exact fun s hp => ⟨.of_stops (r := s.retFar 0) rfl (State.retFar_stops hp 0),
      fun n => .of_stops (r := s.retFar n) rfl (State.retFar_stops hp n)⟩

end Sys2Proof.Machine
end

section
/-!
# IRET in protected mode (O44)
-/

namespace Sys2Proof.Machine

variable {s t : State} {i : Instr}

/-! The tests of IRET -/

theorem State.iretSame_stops (hp : s.prot = true) (sel : Word) :
    Run.Stops ([0, 4].map s.wordTest ++ s.returnTests sel ++ [s.offsetTest sel (s.readPhys16 (s.stackAddr 0))])
      (s.iretSame sel) := by
  simp only [State.iretSame, State.returnCode_eq, State.stackWord_eq hp, bind_assoc, pure_bind, List.cons_append,
    List.nil_append, List.map_cons, List.map_nil]
  exact .check fun _ => .check fun _ => .pass .last

theorem State.iretOuter_stops (hp : s.prot = true) (sel : Word) :
    Run.Stops ([0, 4, 6, 8].map s.wordTest ++ s.returnTests sel ++
        s.stackTests excGp (rplOf sel) (s.readPhys16 (s.stackAddr 8)) 0 ++
        [s.offsetTest sel (s.readPhys16 (s.stackAddr 0))])
      (s.iretOuter sel) := by
  simp only [State.iretOuter, State.returnCode_eq, State.returnStack_eq, State.stackWord_eq hp, bind_assoc, pure_bind,
    List.append_assoc, List.cons_append, List.nil_append, List.map_cons, List.map_nil]
  exact .check fun _ => .check fun _ => .check fun _ => .check fun _ => .pass (.pass .last)

/-- EVERY TEST OF IRET with NT clear in protected mode, in its order (R501, R502). -/
theorem State.iret_stops (hp : s.prot = true) (hnt : s.flags.nt = false) : Run.Stops s.iretTests s.iret := by
  simp only [State.iret, State.iretTests, hp, hnt, Bool.not_true, Bool.false_eq_true, if_false, State.stackWord_eq hp,
    bind_assoc, pure_bind, BitVec.le_def, List.cons_append, List.nil_append, errorCode_zero]
  refine .check fun _ => .check fun _ => ?_
  split
  · exact State.iretSame_stops hp _
  · exact State.iretOuter_stops hp _

/-! What IRET leaves -/

theorem State.iret_prot (hp : s.prot = true) (hnt : s.flags.nt = false) {sel : Word}
    (hread : s.canRead .ss (s.regs.sp + 2) 2 = true) (hsel : s.readPhys16 (s.stackAddr 2) = sel)
    (hlevel : s.cpl.toNat ≤ (rplOf sel).toNat) :
    s.iret = if rplOf sel = s.cpl then s.iretSame sel else s.iretOuter sel := by
  have hle : decide (s.cpl ≤ rplOf sel) = true := decide_eq_true hlevel
  simp only [State.iret, hp, hnt, Bool.not_true, Bool.false_eq_true, if_false, State.stackWord_ok hread, run_bind_ok,
    hsel, hle, check_true]

/-- The flags that IRET loads in protected mode (R501). -/
def State.iretFlags (s : State) (w : Word) : Flags :=
  { Flags.ofWord w with
    ie := if s.cpl.toNat ≤ s.flags.iopl.toNat then (Flags.ofWord w).ie else s.flags.ie
    iopl := if s.cpl = 0 then (Flags.ofWord w).iopl else s.flags.iopl }

theorem State.loadFlags_prot (hp : s.prot = true) (w : Word) : s.loadFlags w = s.iretFlags w := by
  simp only [State.loadFlags, State.iretFlags, hp, true_and, if_true, BitVec.le_def]

theorem State.iretSame_ok (hp : s.prot = true) {sel : Word} {c : Desc} (h0 : s.canRead .ss s.regs.sp 2 = true)
    (h4 : s.canRead .ss (s.regs.sp + 4) 2 = true) (hcode : s.returnCode sel = .ok c)
    (hoff : (s.readPhys16 (s.stackAddr 0)).toNat ≤ c.limit.toNat) : s.iretSame sel = .ok
      { s.access c with
        regs := { s.regs with sp := s.regs.sp + 6 }
        cs := c.loaded sel
        ip := s.readPhys16 (s.stackAddr 0)
        flags := s.iretFlags (s.readPhys16 (s.stackAddr 4))
        nmiInService := false
        dec := {} } := by
  have hself : (sel &&& 0xFFFC) ||| (rplOf sel).setWidth 16 = sel := withRpl_self sel
  simp only [State.iretSame, State.stackWord_zero h0, State.stackWord_ok h4, run_bind_ok, hcode, decide_eq_true hoff,
    check_true, run_pure, State.loadFlags_prot hp, State.loadCs_bus, hself, State.access_bus]
  rfl

theorem State.iretOuter_ok (hp : s.prot = true) {sel : Word} {c d : Desc}
    (hwords : ∀ k ∈ [0, 2, 4, 6, 8], s.canRead .ss (s.regs.sp + k) 2 = true) (hcode : s.returnCode sel = .ok c)
    (hstack : s.returnStack (s.readPhys16 (s.stackAddr 8)) (rplOf sel) = .ok d)
    (hoff : (s.readPhys16 (s.stackAddr 0)).toNat ≤ c.limit.toNat) : s.iretOuter sel = .ok
      { s.returnedFar c d sel (s.readPhys16 (s.stackAddr 8)) (s.readPhys16 (s.stackAddr 6))
          (s.readPhys16 (s.stackAddr 0)) with
        flags := s.iretFlags (s.readPhys16 (s.stackAddr 4))
        nmiInService := false } := by
  have h0 := hwords 0 (by simp)
  have h4 := hwords 4 (by simp)
  have h6 := hwords 6 (by simp)
  have h8 := hwords 8 (by simp)
  have houter := State.loadOuter_eq (s := { s with flags := s.iretFlags (s.readPhys16 (s.stackAddr 4)) }) hp c d sel
    (s.readPhys16 (s.stackAddr 8)) (s.readPhys16 (s.stackAddr 6)) (s.readPhys16 (s.stackAddr 0))
  simp only [State.iretOuter, State.stackWord_ok h0, State.stackWord_ok h4, State.stackWord_ok h6, State.stackWord_ok h8,
    run_bind_ok, hcode, hstack, decide_eq_true hoff, check_true, run_pure, State.loadFlags_prot hp, houter,
    State.returnedFar, State.access_bus]
  rfl

/-- Settles O44. -/
theorem protectedIretSameLevel : Obligations.ProtectedIretSameLevel := by
  refine ⟨?same, ?outer, ?tests⟩
  case same =>
    intro s c hp hnt h0 h2 h4w off sel f h4 hc hcode hrpl hlevel hpres hoff
    have hret : s.returnCode sel = .ok c :=
      State.returnCode_of h4 hc hcode (by rw [hrpl]; exact (c.atLevel_iff s.cpl).mpr hlevel) hpres
    have hok := State.iretSame_ok hp h0 h4w hret hoff
    refine .of_run (r := s.iret) rfl ?_ (frame_of (s.readPhys_access c) rfl rfl rfl rfl)
    rw [State.iret_prot hp hnt h2 rfl (by rw [hrpl]), if_pos hrpl]
    exact hok
  case outer =>
    intro s c d hp hnt w l f hlt hwords h4 hc hcode hlevel hpres hoff h4s hd hrpl hdpl hw hpresd
    have hcodeOk := State.returnCode_of h4 hc hcode ((c.atLevel_iff l).mpr hlevel) hpres
    have hstackOk := State.returnStack_of h4s hd hrpl hdpl hw hpresd
    have hok := State.iretOuter_ok hp hwords hcodeOk hstackOk hoff
    refine .of_run (r := s.iret) rfl ?_ (frame_of (s.readPhys_access_two c d) rfl rfl rfl rfl)
    rw [State.iret_prot hp hnt (hwords 2 (by simp)) rfl hlt.le, if_neg (fun h => Nat.ne_of_gt hlt (congrArg BitVec.toNat h))]
    exact hok
  case tests => exact fun s hp hnt => .of_stops (r := s.iret) rfl (State.iret_stops hp hnt)

end Sys2Proof.Machine
end

section
/-!
# Entry through the IDT in protected mode (O41, O42)
-/

namespace Sys2Proof.Machine

variable {s t : State} {i : Instr} {e : Event}

/-! The tests of an entry -/

theorem Event.extBit_eq (e : Event) : e.extBit = e.ext := by
  obtain ⟨vec, kind, ret, code⟩ := e
  cases kind with
  | ext => rfl
  | exc => simp [Event.extBit, Event.ext]
  | sw => rfl

/-- The number of words an entry to the same level pushes (R840, R844). -/
def Event.words (e : Event) : Nat := if e.code = none then 3 else 4

/-- The tests of an entry on its gate (R840). -/
def State.gateTests (s : State) (e : Event) : List Test :=
  let g := s.gate e
  let iec : Word := BitVec.ofNat 16 (8 * e.vec.toNat + 2) + e.ext
  [⟨decide (8 * e.vec.toNat + 7 ≤ s.idtr.limit.toNat), excGp iec⟩,
   ⟨arIsType g.ar 5 || arIsType g.ar 6 || arIsType g.ar 7, excGp iec⟩,
   ⟨e.kind != .sw || decide (s.cpl.toNat ≤ (arDpl g.ar).toNat), excGp iec⟩, ⟨arPresent g.ar, excNp iec⟩]

/-- An entry through an interrupt or trap gate, behind the tests on the gate and on the handler's segment (R840). -/
def State.enterSegment (s : State) (e : Event) : Run State := do
  check (decide ((arDpl (s.handler e).ar).toNat ≤ s.cpl.toNat)) (excGp (errorCode (s.gate e).gateSel e.ext))
  let t ← if s.isInner (s.handler e) then s.enterInner e (s.gate e) (s.handler e) e.words
    else s.enterSame e (s.gate e) (s.handler e) e.words
  pure (t.enterHandler (s.gate e).gateOffset (arIsType (s.gate e).ar 6))

/-- `EnterProt` is its tests on the gate and on the handler's segment, and what follows them (R840). -/
theorem State.enterProt_eq (s : State) (e : Event) : s.enterProt e = (do
    passTests (s.gateTests e)
    if arIsType (s.gate e).ar 5 then s.taskGateEntry (s.gate e).gateSel e
    else do
      passTests ((s.reading .target).codeTests (s.gate e).gateSel e.ext true)
      s.enterSegment e) := by
  have hgate : s.descAt (s.idtr.base + BitVec.ofNat 24 (8 * e.vec.toNat)) = s.gate e := rfl
  have hinner (c : Desc) : (!c.isConforming && decide (arDpl c.ar < s.cpl)) = s.isInner c := by
    simp only [State.isInner, BitVec.lt_def]
  have hcode := State.code_checks (s.reading .target) (s.gate e).gateSel e.ext (fun _ => true) fun c => do
    check (decide ((arDpl c.ar).toNat ≤ s.cpl.toNat)) (excGp (errorCode (s.gate e).gateSel e.ext))
    let t ← if s.isInner c then s.enterInner e (s.gate e) c e.words else s.enterSame e (s.gate e) c e.words
    pure (t.enterHandler (s.gate e).gateOffset (arIsType (s.gate e).ar 6))
  simp only [check_true, run_bind_ok] at hcode
  simp only [State.enterProt, State.gateTests, passTests_cons, passTests_nil, hgate, hinner, Event.extBit_eq,
    BitVec.le_def, selCode_add, Nat.mul_comm e.vec.toNat 8, State.enterSegment, State.handler]
  cases hc : e.code with
  | none =>
    have hwords : e.words = 3 := if_pos hc
    rw [hwords] at hcode ⊢
    dsimp only
    rw [hcode]
    rfl
  | some c =>
    have hwords : e.words = 4 := if_neg (by rw [hc]; exact Option.some_ne_none c)
    rw [hwords] at hcode ⊢
    dsimp only
    rw [hcode]
    rfl

/-- The end of an entry that has switched tasks: the error code pushed on the new stack, and the new offset tested
(R841). -/
def State.entryCode (n : State) (e : Event) : Run State :=
  match e.code with
  | none => n.checkTaskIp e.ext
  | some c => do
    check (n.canPush 1) (excLeaving 12 e.ext n)
    (n.pushRaw c).checkTaskIp e.ext

/-- An entry through a task gate, as its tests and the switch (R841). -/
theorem State.taskGateEntry_eq (s : State) (sel : Word) (e : Event) : s.taskGateEntry sel e = (do
    passTests ((s.reading .target).systemTests 1 sel e.ext)
    let n ← s.switchTasks sel ((s.reading .target).entry sel) true .int e.ret e.ext
    n.entryCode e) := by
  have htss := (s.reading .target).system_checks 1 sel e.ext fun t => do
    let n ← s.switchTasks sel t true .int e.ret e.ext
    n.entryCode e
  simp only [State.taskGateEntry, Event.extBit_eq]
  exact htss

theorem State.taskGateEntry_stops (s : State) (sel : Word) (e : Event) :
    Run.Stops ((s.reading .target).systemTests 1 sel e.ext) (s.taskGateEntry sel e) := by
  rw [State.taskGateEntry_eq]
  exact .passed

theorem State.enterInner_stops (s : State) (e : Event) (g c : Desc) (n : Nat) :
    Run.Stops (s.innerTests (arDpl c.ar) e.ext (n + 2) ++ [⟨decide (g.gateOffset.toNat ≤ c.limit.toNat), excGp e.ext⟩])
      (s.enterInner e g c n) := by
  simp only [State.enterInner, Event.extBit_eq]
  rw [s.inner_checks]
  exact .pass .last

theorem State.enterSame_stops (s : State) (e : Event) (g c : Desc) (n : Nat) :
    Run.Stops ([⟨s.canPush n, excSs e.ext⟩] ++ [⟨decide (g.gateOffset.toNat ≤ c.limit.toNat), excGp e.ext⟩])
      (s.enterSame e g c n) := by
  simp only [State.enterSame, Event.extBit_eq]
  exact .check fun _ => .last

/-- EVERY TEST OF A DELIVERY through the IDT, in its order (R840, R841). -/
theorem State.enterProt_stops (s : State) (e : Event) : Run.Stops (s.entryTests e) (s.enterProt e) := by
  rw [State.enterProt_eq]
  refine .pass (l := s.gateTests e) ?_
  cases htask : arIsType (s.gate e).ar 5 with
  | true => exact s.taskGateEntry_stops _ e
  | false =>
    have hinside : s.goesInside e = s.isInner (s.handler e) := by
      rw [State.goesInside, htask]
      rfl
    simp only [hinside, Bool.false_eq_true, if_false, List.append_assoc]
    refine .pass (.check fun _ => ?_)
    split
    · exact (s.enterInner_stops e _ _ e.words).bind _
    · exact (s.enterSame_stops e _ _ e.words).bind _

theorem State.enter_prot (hp : s.prot = true) (e : Event) : s.enter e = s.enterProt e := if_pos hp

/-- A delivery one of whose tests fails stops with what the first of them says. -/
theorem State.enter_stops (hp : s.prot = true) (e : Event) : Run.Stops (s.entryTests e) (s.enter e) := by
  rw [State.enter_prot hp]
  exact s.enterProt_stops e

/-! Entries that pass every test -/

/-- The hypotheses of an entry through an interrupt or trap gate (R840). -/
theorem State.gateTests_pass (hlim : 8 * e.vec.toNat + 7 ≤ s.idtr.limit.toNat)
    (htype : arIsType (s.gate e).ar 6 = true ∨ arIsType (s.gate e).ar 7 = true)
    (hsw : e.kind = .sw → s.cpl.toNat ≤ (arDpl (s.gate e).ar).toNat) (hpres : arPresent (s.gate e).ar = true) :
    passTests (s.gateTests e) = .ok () := by
  refine passTests_ok ?_
  simp only [State.gateTests, List.forall_mem_cons, List.not_mem_nil, false_imp_iff, implies_true, and_true]
  refine ⟨decide_eq_true hlim, ?_, ?_, hpres⟩
  · rcases htype with h | h
    · rw [h, Bool.or_true, Bool.true_or]
    · rw [h, Bool.or_true]
  · by_cases hk : e.kind = .sw
    · rw [decide_eq_true (hsw hk), Bool.or_true]
    · simp [hk]

theorem arIsType_unique {ar : Byte} {j k : BitVec 4} (hj : arIsType ar j = true) (hjk : j ≠ k) : arIsType ar k = false := by
  simp only [arIsType, Bool.and_eq_true, beq_iff_eq] at hj
  obtain ⟨-, hj⟩ := hj
  simp [arIsType, hj, hjk]

/-- An entry through an interrupt or trap gate whose gate and handler pass their tests (R840). -/
theorem State.enterProt_segment {c : Desc} (hlim : 8 * e.vec.toNat + 7 ≤ s.idtr.limit.toNat)
    (htype : arIsType (s.gate e).ar 6 = true ∨ arIsType (s.gate e).ar 7 = true)
    (hsw : e.kind = .sw → s.cpl.toNat ≤ (arDpl (s.gate e).ar).toNat) (hpres : arPresent (s.gate e).ar = true)
    (h4 : 4 ≤ (s.gate e).gateSel.toNat) (hc : (s.reading .target).desc? (s.gate e).gateSel = some c)
    (hcode : c.isCode = true) (hlevel : (arDpl c.ar).toNat ≤ s.cpl.toNat) (hpres' : arPresent c.ar = true) :
    s.enterProt e = (do
      let t ← if s.isInner c then s.enterInner e (s.gate e) c e.words else s.enterSame e (s.gate e) c e.words
      pure (t.enterHandler (s.gate e).gateOffset (arIsType (s.gate e).ar 6))) := by
  obtain ⟨-, hentry⟩ := State.desc?_some hc
  have hhandler : s.handler e = c := hentry
  have hnot : arIsType (s.gate e).ar 5 = false := by
    rcases htype with h | h
    · exact arIsType_unique h (by decide)
    · exact arIsType_unique h (by decide)
  rw [State.enterProt_eq, State.gateTests_pass hlim htype hsw hpres, run_bind_ok, hnot, if_neg Bool.false_ne_true,
    State.codeTests_pass h4 hc hcode rfl hpres', run_bind_ok, State.enterSegment, hhandler, decide_eq_true hlevel,
    check_true, run_bind_ok]

/-- The words an entry pushes: FLAGS, CS, the return offset and the error code (R840, R844). -/
def State.entryWords (s : State) (e : Event) : List Word := [s.flags.toWord, s.cs.sel, e.ret] ++ e.code.toList

theorem State.pushCode_eq (s : State) (code : Option Word) : s.pushCode code = code.toList.foldl State.pushRaw s := by
  cases code <;> rfl

theorem State.enterInner_ok {g c d : Desc} {n : Nat}
    (htests : passTests (s.innerTests (arDpl c.ar) e.ext (n + 2)) = .ok ())
    (hd : (s.reading .stackSeg).desc? (s.tssWord (arDpl c.ar) 4) = some d) (hoff : g.gateOffset.toNat ≤ c.limit.toNat) :
    s.enterInner e g c n = .ok (([s.ss.sel, s.regs.sp] ++ s.entryWords e).foldl State.pushRaw
      ((s.loadInnerStack (s.tssWord (arDpl c.ar) 4) (s.tssWord (arDpl c.ar) 2) d).loadCs g.gateSel c (arDpl c.ar))) := by
  obtain ⟨-, hentry⟩ := State.desc?_some hd
  simp only [State.enterInner, Event.extBit_eq]
  rw [s.inner_checks, htests, run_bind_ok, hentry]
  simp only [decide_eq_true hoff, check_true, run_bind_ok, run_pure, State.entryWords, State.pushCode_eq,
    State.pushFrame, List.foldl_append, List.foldl_cons, List.foldl_nil]

theorem State.enterSame_ok {g c : Desc} {n : Nat} (hroom : s.canPush n = true)
    (hoff : g.gateOffset.toNat ≤ c.limit.toNat) : s.enterSame e g c n = .ok
      ((([s.flags.toWord, s.cs.sel, e.ret].foldl State.pushRaw s).loadCs g.gateSel c s.cpl).pushCode e.code) := by
  simp only [State.enterSame, hroom, decide_eq_true hoff, check_true, run_bind_ok, run_pure]
  rfl

/-! The states entered -/

/-- FLAGS, CS and the return offset stored below SP (R840). -/
theorem State.pushList_frame (s : State) (f c r : Word) : s.pushList s.ss s.regs.sp [f, c, r] =
    ((s.writePhys16 (s.stackAddr (-2)) f).writePhys16 (s.stackAddr (-4)) c).writePhys16 (s.stackAddr (-6)) r := by
  simp only [State.pushList, State.stackAddr_neg, BitVec.sub_sub, BitVec.reduceAdd, BitVec.ofNat_eq_ofNat]

/-- The flags that a handler sees (R840). -/
def State.handlerFlags (s : State) (g : Desc) : Flags :=
  { s.flags with ie := if arIsType g.ar 6 then false else s.flags.ie, tf := false, nt := false }

/-- The state of an entry to the same level, `m` having been pushed and CS loaded (R840). -/
def State.enteredSame (s : State) (g c : Desc) (m : State) (sp : Word) : State :=
  { m with
    regs := { s.regs with sp }
    cs := c.loaded ((g.gateSel &&& 0xFFFC) ||| s.cpl.setWidth 16)
    ip := g.gateOffset
    flags := s.handlerFlags g
    dec := {} }

/-- FLAGS, CS and the return offset pushed, and CS loaded, in an attempt at a delivery (R840, R845). -/
theorem State.frame_loadCs (s : State) (words : List Word) (sel : Word) (c : Desc) (l : BitVec 2) :
    (words.foldl State.pushRaw (s.attempt 1)).loadCs sel c l =
      { s.onBus ((s.bus.pushes s.ss s.regs.sp words).access c) with
        regs := { s.regs with sp := s.regs.sp - BitVec.ofNat 16 (2 * words.length) }
        cs := c.loaded ((sel &&& 0xFFFC) ||| l.setWidth 16)
        use := (s.attempt 1).use } := by
  rw [State.pushRaws_bus, State.loadCs_bus]
  rfl

theorem State.frame_bus (s : State) (f cs r : Word) (c : Desc) :
    ((((s.writePhys16 (s.stackAddr (-2)) f).writePhys16 (s.stackAddr (-4)) cs).writePhys16 (s.stackAddr (-6)) r).access c) =
      s.onBus ((s.bus.pushes s.ss s.regs.sp [f, cs, r]).access c) := by
  rw [← State.pushList_frame, State.access_bus, State.pushList_bus]
  rfl

/-- An error code pushed last. -/
theorem State.pushCode_state (s : State) (g c : Desc) (b : Bus) (p k : Word) (u : Use) :
    { (({ s.onBus b with
          regs := { s.regs with sp := p }
          cs := c.loaded ((g.gateSel &&& 0xFFFC) ||| s.cpl.setWidth 16)
          use := u }.pushCode (some k)).enterHandler g.gateOffset (arIsType g.ar 6)) with use := s.use } =
      s.enteredSame g c ((s.onBus b).writePhys16 (s.ss.lin (p - 2)) k) (p - 2) := by
  rw [State.pushCode, State.pushRaw, State.writePhys16_bus, State.writePhys16_bus]
  rfl

section
variable (s : State) (ret : Word) (g c : Desc)

theorem State.enterSame_state : { ((([s.flags.toWord, s.cs.sel, ret].foldl State.pushRaw (s.attempt 1)).loadCs g.gateSel c
      s.cpl).pushCode none).enterHandler g.gateOffset (arIsType g.ar 6) with use := s.use } =
    s.enteredSame g c ((((s.writePhys16 (s.stackAddr (-2)) s.flags.toWord).writePhys16 (s.stackAddr (-4))
      s.cs.sel).writePhys16 (s.stackAddr (-6)) ret).access c) (s.regs.sp - BitVec.ofNat 16 (2 * 3)) := by
  rw [State.frame_loadCs, State.frame_bus]
  rfl

theorem State.enterSame_state_code (k : Word) : { ((([s.flags.toWord, s.cs.sel, ret].foldl State.pushRaw (s.attempt 1)).loadCs
      g.gateSel c s.cpl).pushCode (some k)).enterHandler g.gateOffset (arIsType g.ar 6) with use := s.use } =
    s.enteredSame g c (((((s.writePhys16 (s.stackAddr (-2)) s.flags.toWord).writePhys16 (s.stackAddr (-4))
      s.cs.sel).writePhys16 (s.stackAddr (-6)) ret).access c).writePhys16 (s.stackAddr (-8)) k)
      (s.regs.sp - BitVec.ofNat 16 (2 * 4)) := by
  have hsp : s.regs.sp - BitVec.ofNat 16 (2 * 4) = s.regs.sp - BitVec.ofNat 16 (2 * 3) - 2 := by
    rw [BitVec.sub_sub]
    rfl
  have haddr : s.stackAddr (-8) = s.ss.lin (s.regs.sp - BitVec.ofNat 16 (2 * 3) - 2) := by
    rw [State.stackAddr_neg, ← hsp]
    rfl
  rw [State.frame_loadCs, State.frame_bus, haddr, hsp]
  exact s.pushCode_state g c _ _ k _

end

theorem State.canPush_attempt (s : State) (j n : Nat) : (s.attempt j).canPush n = s.canPush n := by
  induction n with
  | zero => rfl
  | succ n ih => rw [State.canPush, State.canPush, ih]; rfl

/-- Settles O41. -/
theorem protectedEntrySameLevel : Obligations.ProtectedEntrySameLevel := by
  refine ⟨?entry, ?failing, fun s => ?software⟩
  case entry =>
    intro s e c hp a1 g n hlim htype hsw hpres h4 hc hcode hlevel hpres' hroom hoff a b m
    have hle : (arDpl c.ar).toNat ≤ s.cpl.toNat := by
      rcases hlevel with ⟨-, hle⟩ | heq
      · exact hle
      · rw [heq]
    have hsame : a1.isInner c = false := by
      rcases hlevel with ⟨hconf, -⟩ | heq
      · rw [State.isInner, hconf]
        rfl
      · have hnlt : ¬ (arDpl c.ar).toNat < a1.cpl.toNat := by
          rw [heq]
          exact Nat.lt_irrefl _
        rw [State.isInner, decide_eq_false hnlt, Bool.and_false]
    have hrun : a1.enter e = .ok (((([s.flags.toWord, s.cs.sel, e.ret].foldl State.pushRaw a1).loadCs g.gateSel c
        s.cpl).pushCode e.code).enterHandler g.gateOffset (arIsType g.ar 6)) := by
      rw [State.enter_prot (s := a1) hp, State.enterProt_segment (s := a1) hlim htype hsw hpres h4 hc hcode hle hpres', hsame,
        if_neg Bool.false_ne_true, State.enterSame_ok (s := a1) (g := a1.gate e) ((s.canPush_attempt 1 e.words).trans hroom) hoff]
      rfl
    have htakes := State.Takes.of_enter hrun
    obtain ⟨vec, kind, ret, code⟩ := e
    cases code with
    | none =>
      rw [s.enterSame_state] at htakes
      exact htakes
    | some k =>
      rw [s.enterSame_state_code] at htakes
      exact htakes
  case failing =>
    intro s e n stop hp a _
    exact State.enter_stops (s := a) hp e stop
  case software =>
    exact ⟨fun n => rfl, rfl, fun hof => exec_into_set hof, fun hof => .of_keep (exec_into_clear hof) rfl rfl rfl rfl,
      fun vec code => rfl⟩

end Sys2Proof.Machine
end

section
/-!
# Entry to an inner level in protected mode (O42)
-/

namespace Sys2Proof.Machine

variable {s t : State} {i : Instr} {e : Event}

theorem State.entryWords_length (s : State) (e : Event) : (s.entryWords e).length = e.words := by
  unfold State.entryWords Event.words
  cases e.code <;> rfl

/-- The state of an entry to an inner level (R840). -/
theorem State.enterInner_state (s : State) (nss nsp : Word) (g c d : Desc) (words : List Word) :
    { (words.foldl State.pushRaw (((s.attempt 1).loadInnerStack nss nsp d).loadCs g.gateSel c (arDpl c.ar))).enterHandler
        g.gateOffset (arIsType g.ar 6) with use := s.use } =
      { ((s.access d).access c).pushList (d.loaded nss) nsp words with
        regs := { s.regs with sp := nsp - BitVec.ofNat 16 (2 * words.length) }
        ss := d.loaded nss
        cs := c.loaded ((g.gateSel &&& 0xFFFC) ||| (arDpl c.ar).setWidth 16)
        ip := g.gateOffset
        flags := s.handlerFlags g
        dec := {} } := by
  rw [State.loadInner_bus, State.pushRaws_bus, State.pushList_bus, State.access_bus, State.access_bus s]
  rfl

/-- Settles O42. -/
theorem protectedEntryInnerLevel : Obligations.ProtectedEntryInnerLevel := by
  refine ⟨?entry, ?failing⟩
  case entry =>
    intro s e c d hp a1 g l nsp nss words hlim htype hsw hpres h4 hc hcode hconf hlt hpres' htr htrlim h4s hd hrpl hdpl hw
      hpresd hroom hoff a
    have hinner : a1.isInner c = true := by
      rw [State.isInner, hconf]
      exact decide_eq_true hlt
    have htests : passTests (a1.innerTests (arDpl c.ar) e.ext (e.words + 2)) = .ok () := by
      refine State.innerTests_pass (s := a1) htr htrlim h4s hd hrpl hdpl hw hpresd fun k hk => hroom k ?_
      have hlen : words.length = (s.entryWords e).length + 2 := by
        simp only [words, State.entryWords, List.length_append, List.length_cons, List.length_nil]
        omega
      rw [hlen, State.entryWords_length]
      exact hk
    have hrun : a1.enter e = .ok ((words.foldl State.pushRaw ((a1.loadInnerStack nss nsp d).loadCs g.gateSel c
        (arDpl c.ar))).enterHandler g.gateOffset (arIsType g.ar 6)) := by
      rw [State.enter_prot (s := a1) hp,
        State.enterProt_segment (s := a1) hlim htype hsw hpres h4 hc hcode hlt.le hpres', hinner, if_pos rfl,
        State.enterInner_ok (s := a1) (g := a1.gate e) htests hd hoff]
      rfl
    have htakes := State.Takes.of_enter hrun
    rw [s.enterInner_state] at htakes
    exact htakes
  case failing =>
    intro s e n stop hp a _
    exact State.enter_stops (s := a) hp e stop

end Sys2Proof.Machine
end

section
/-!
# What a task switch is (O45)
-/

namespace Sys2Proof.Machine

variable {s t : State} {i : Instr} {e : Event}

/-! The outgoing task -/

/-- Words stored one after the other. -/
def State.stores (s : State) (l : List (PAddr × Word)) : State := l.foldl (fun u p => u.writePhys16 p.1 p.2) s

theorem State.stores_bus (s : State) (l : List (PAddr × Word)) : ∃ b, s.stores l = s.onBus b := by
  induction l generalizing s with
  | nil => exact ⟨s.bus, rfl⟩
  | cons p l ih =>
    obtain ⟨b, hb⟩ := ih (s.writePhys16 p.1 p.2)
    refine ⟨b, ?_⟩
    rw [State.stores, List.foldl_cons]
    refine hb.trans ?_
    rw [State.writePhys16_bus]
    rfl

/-- What step 3 of a switch stores in the old TSS (R710, R720). -/
def State.taskCells (s : State) (ip : Word) (f : Flags) : List (PAddr × Word) :=
  [(s.tr.base + 14, ip), (s.tr.base + 16, f.toWord), (s.tr.base + 18, s.regs.ax), (s.tr.base + 20, s.regs.cx),
   (s.tr.base + 22, s.regs.dx), (s.tr.base + 24, s.regs.bx), (s.tr.base + 26, s.regs.sp), (s.tr.base + 28, s.regs.bp),
   (s.tr.base + 30, s.regs.si), (s.tr.base + 32, s.regs.di), (s.tr.base + 34, s.es.sel), (s.tr.base + 36, s.cs.sel),
   (s.tr.base + 38, s.ss.sel), (s.tr.base + 40, s.ds.sel)]

theorem State.saveTask_eq (s : State) (ip : Word) (f : Flags) : s.saveTask ip f = s.stores (s.taskCells ip f) := by
  simp only [State.saveTask, State.stores, State.taskCells, List.foldl_cons, List.foldl_nil]

/-- The new TSS marked busy, under bus LOCK: the first step of a switch (R720). -/
def State.markBusy (s : State) (nd : Desc) : State := s.underLock.writePhys (nd.addr + 5) (nd.ar ||| 2)

theorem State.markBusy_bus (s : State) (nd : Desc) : ∃ b, s.markBusy nd = s.onBus b := by
  refine ⟨s.underLock.bus.write (nd.addr + 5) (nd.ar ||| 2), ?_⟩
  rw [State.markBusy, State.writePhys_bus]
  rfl

/-- The task saved in its own TSS, with NT cleared for IRET. -/
def State.savedTask (s : State) (nd : Desc) (cause : SwitchCause) (ip : Word) : State :=
  (s.markBusy nd).stores (s.taskCells ip (if cause = .iret then { s.flags with nt := false } else s.flags))

theorem State.savedTask_bus (s : State) (nd : Desc) (cause : SwitchCause) (ip : Word) :
    ∃ b, s.savedTask nd cause ip = s.onBus b := by
  obtain ⟨b, hb⟩ := (s.markBusy nd).stores_bus
    (s.taskCells ip (if cause = .iret then { s.flags with nt := false } else s.flags))
  obtain ⟨b0, hb0⟩ := s.markBusy_bus nd
  rw [hb0] at hb
  exact ⟨b, by rw [State.savedTask, hb0, hb]; rfl⟩

theorem State.outgoing_nesting (s : State) (nd : Desc) (cause : SwitchCause) (ip : Word) :
    s.outgoing nd true cause ip = (s.savedTask nd cause ip).writePhys16 nd.base s.tr.sel := by
  simp only [State.outgoing, State.savedTask, State.markBusy, State.stores, State.taskCells, List.foldl_cons,
    List.foldl_nil, if_true]

theorem State.outgoing_release (s : State) (nd : Desc) (cause : SwitchCause) (ip : Word) :
    s.outgoing nd false cause ip = (s.savedTask nd cause ip).writePhys
      (s.gdtr.base + BitVec.ofNat 24 (s.tr.sel.toNat / 8 * 8) + 5)
      (((s.savedTask nd cause ip).reading .oldTask).readPhys
        (s.gdtr.base + BitVec.ofNat 24 (s.tr.sel.toNat / 8 * 8) + 5) &&& 0xFD) := by
  simp only [State.outgoing, State.savedTask, State.markBusy, State.stores, State.taskCells, List.foldl_cons,
    List.foldl_nil, Bool.false_eq_true, if_false]

/-- What the outgoing task leaves: stores only. -/
theorem State.outgoing_bus (s : State) (nd : Desc) (nesting : Bool) (cause : SwitchCause) (ip : Word) :
    ∃ b, s.outgoing nd nesting cause ip = s.onBus b := by
  obtain ⟨b, hb⟩ := s.savedTask_bus nd cause ip
  cases nesting with
  | true => exact ⟨_, by rw [State.outgoing_nesting, hb, State.writePhys16_bus]; rfl⟩
  | false => exact ⟨_, by rw [State.outgoing_release, hb, State.writePhys_bus]; rfl⟩

/-- Steps 3 to 5 of a switch are the outgoing task, with TR replaced (R720, R722). -/
theorem State.leaveTask_eq (s : State) (nsel : Word) (nd : Desc) (nesting : Bool) (cause : SwitchCause) (ip : Word) :
    (s.markBusy nd).leaveTask nsel nd nesting cause ip = { s.outgoing nd nesting cause ip with
      tr := { sel := nsel, base := nd.base, limit := nd.limit, valid := true } } := by
  obtain ⟨b0, hb0⟩ := s.markBusy_bus nd
  obtain ⟨b, hb⟩ := s.savedTask_bus nd cause ip
  have hsaved : (s.markBusy nd).saveTask ip (if cause = .iret then { (s.markBusy nd).flags with nt := false }
      else (s.markBusy nd).flags) = s.onBus b := by
    rw [State.saveTask_eq, ← hb, State.savedTask, hb0]
    rfl
  have hold : (s.onBus b).gdtAddr (s.onBus b).tr.sel = s.gdtr.base + BitVec.ofNat 24 (s.tr.sel.toNat / 8 * 8) :=
    s.gdtAddr_eq s.tr.sel
  simp only [State.leaveTask, hsaved, hold]
  cases nesting with
  | true => rw [State.outgoing_nesting, hb]; rfl
  | false => rw [State.outgoing_release, hb]; rfl

theorem State.loadTask_eq (m : State) (nsel : Word) (nd : Desc) (nesting : Bool) (cause : SwitchCause) :
    { m with tr := { sel := nsel, base := nd.base, limit := nd.limit, valid := true } }.loadTask nesting cause =
      m.incoming nsel nd nesting cause := rfl

/-! The incoming task -/

theorem State.loadTaskLdt_eq (s : State) (x : Word) :
    s.loadTaskLdt x = (passTests (s.taskLdtTests x) >>= fun _ => pure s.taskLdt) := by
  simp only [State.loadTaskLdt, State.taskLdtTests, State.taskLdt, isNull_eq, decide_eq_true_eq, excLeaving,
    selCode_add]
  by_cases hnull : s.ldtr.sel.toNat < 4
  · simp only [if_pos hnull]
    rfl
  · simp only [if_neg hnull, passTests_cons, passTests_nil, State.inGdt_eq]
    cases hti : s.ldtr.sel.getLsbD 2 with
    | true => rfl
    | false =>
      rw [State.entry_gdt (s := s.reading .ldt) hti]
      rfl

theorem State.loadTaskSs_eq (s : State) (x : Word) : s.loadTaskSs x =
    (passTests (s.taskTests .ss .stackSeg x) >>= fun _ => pure (s.taskSegment .ss .stackSeg)) := by
  simp only [State.loadTaskSs, State.taskTests, passTests_cons, passTests_nil, check_and, State.desc_bind,
    not_isNull_eq, excLeaving, selCode_add]
  rfl

theorem State.loadTaskCs_eq (s : State) (x : Word) : s.loadTaskCs x =
    (passTests (s.taskTests .cs .codeSeg x) >>= fun _ => pure (s.taskSegment .cs .codeSeg)) := by
  simp only [State.loadTaskCs, State.taskTests, passTests_cons, passTests_nil, check_and, State.desc_bind,
    not_isNull_eq, excLeaving, selCode_add, ← Desc.atLevel_eq]
  rfl

theorem State.taskSegment_null (s : State) {r : SReg} (hr : r = .ds ∨ r = .es) (part : Part)
    (hnull : (s.seg r).sel.toNat < 4) : s.taskSegment r part = s := by
  rw [State.taskSegment]
  exact if_pos ⟨hr, hnull⟩

theorem State.taskSegment_loaded (s : State) (r : SReg) (part : Part)
    (h : ¬ ((r = .ds ∨ r = .es) ∧ (s.seg r).sel.toNat < 4)) :
    s.taskSegment r part = (s.access ((s.reading part).entry (s.seg r).sel)).setSeg r
      (((s.reading part).entry (s.seg r).sel).loaded (s.seg r).sel) := by
  rw [State.taskSegment]
  exact if_neg h

/-- The tests on DS and ES of the new task, which a null selector passes. -/
theorem State.taskTests_data (s : State) {r : SReg} (hr : r = .ds ∨ r = .es) (part : Part) (x : Word) :
    s.taskTests r part x = if (s.seg r).sel.toNat < 4 then [] else
      [⟨(s.reading part).inTable (s.seg r).sel, excLeaving 10 (errorCode (s.seg r).sel x) s⟩,
       ⟨((s.reading part).entry (s.seg r).sel).isDataOrReadable &&
          (((s.reading part).entry (s.seg r).sel).isConforming ||
            s.mayUse (s.seg r).sel ((s.reading part).entry (s.seg r).sel)),
        excLeaving 10 (errorCode (s.seg r).sel x) s⟩,
       ⟨arPresent ((s.reading part).entry (s.seg r).sel).ar, excLeaving 11 (errorCode (s.seg r).sel x) s⟩] := by
  obtain rfl | rfl := hr <;> rfl

theorem State.loadTaskData_eq (s : State) {r : SReg} (hr : r = .ds ∨ r = .es) (part : Part) (x : Word) :
    s.loadTaskData r part x = (passTests (s.taskTests r part x) >>= fun _ => pure (s.taskSegment r part)) := by
  rw [s.taskTests_data hr part x]
  simp only [State.loadTaskData, isNull_eq, decide_eq_true_eq]
  by_cases hnull : (s.seg r).sel.toNat < 4
  · rw [if_pos hnull, if_pos hnull, s.taskSegment_null hr part hnull]
    rfl
  · rw [if_neg hnull, if_neg hnull, s.taskSegment_loaded r part fun h => hnull h.2]
    simp only [passTests_cons, passTests_nil, check_and, State.desc_bind, gateAllowed_eq, selCode_add]
    rfl

/-! The whole switch -/

/-- THE TASK SWITCH IS ITS TESTS: when all of them pass it completes with the LDT and every segment loaded, and when one
fails it raises what that one says (R720-R723). -/
theorem State.switchTasks_eq (s : State) (nsel : Word) (nd : Desc) (nesting : Bool) (cause : SwitchCause)
    (ip x : Word) :
    s.switchTasks nsel nd nesting cause ip x =
      (passTests (s.switchTests nsel nd nesting cause ip x) >>= fun _ =>
        pure ((s.outgoing nd nesting cause ip).incoming nsel nd nesting cause).taskLoaded) := by
  have hmark : s.lockBus.writePhys (nd.addr + 5) (nd.ar ||| 2) = s.markBusy nd := rfl
  have htr : (s.markBusy nd).tr = s.tr := by
    obtain ⟨b, hb⟩ := s.markBusy_bus nd
    rw [hb]
    rfl
  simp only [State.switchTasks, hmark, htr, State.leaveTask_eq, State.loadTask_eq, State.loadTaskLdt_eq,
    State.loadTaskSs_eq, State.loadTaskCs_eq, State.loadTaskData_eq _ (.inl rfl : SReg.ds = .ds ∨ SReg.ds = .es),
    State.loadTaskData_eq _ (.inr rfl : SReg.es = .ds ∨ SReg.es = .es), State.switchTests, State.loadTests,
    State.taskLoaded, passTests_append, passTests_cons, passTests_nil, bind_assoc, pure_bind, excLeaving, selCode_add]
  rfl

/-! What a completed switch leaves -/

/-- What the loading of segment register `r` has made of `s`: its selector is as before, and of memory only the byte
that holds its Accessed bit can have changed. -/
structure State.SegLoad (s : State) (r : SReg) (b : Bus) (g : SegReg) : Prop where
  sel : g.sel = (s.seg r).sel
  valid : r = .ss ∨ r = .cs → g.valid = true
  mem : ∀ a, (g.valid = true → a ≠ s.accessCell g.sel) → (s.onBus b).readPhys a = s.readPhys a

theorem State.taskSegment_load (s : State) (r : SReg) (part : Part) :
    ∃ b g, s.taskSegment r part = (s.onBus b).setSeg r g ∧ s.SegLoad r b g := by
  by_cases h : (r = .ds ∨ r = .es) ∧ (s.seg r).sel.toNat < 4
  · refine ⟨s.bus, s.seg r, ?_, rfl, ?_, fun a _ => rfl⟩
    · rw [s.taskSegment_null h.1 part h.2]
      cases r <;> rfl
    · rintro (rfl | rfl)
      · exact absurd h.1 (by decide)
      · exact absurd h.1 (by decide)
  · refine ⟨s.bus.access ((s.reading part).entry (s.seg r).sel),
      ((s.reading part).entry (s.seg r).sel).loaded (s.seg r).sel, ?_, rfl, fun _ => rfl, fun a ha => ?_⟩
    · rw [s.taskSegment_loaded r part h, State.access_bus]
    · rw [← State.access_bus]
      exact State.readPhys_access _ a (List.mem_singleton.not.mpr (ha rfl))

/-- The task `s` with the bus and the registers that a switch loads. -/
def State.withSegs (s : State) (b : Bus) (l : SysReg) (ss cs ds es : SegReg) : State :=
  { s.onBus b with ldtr := l, ss, cs, ds, es }

/-- The LDT of the new task is loaded from memory that this leaves as it is. -/
theorem State.taskLdt_load (s : State) :
    ∃ b l, s.taskLdt = s.withSegs b l s.ss s.cs s.ds s.es ∧ l.sel = s.ldtr.sel ∧
      ∀ a, (s.onBus b).readPhys a = s.readPhys a := by
  by_cases h : s.ldtr.sel.toNat < 4
  · exact ⟨s.bus, s.ldtr, if_pos h, rfl, fun _ => rfl⟩
  · exact ⟨s.underLock.bus, _, if_neg h, rfl, fun _ => rfl⟩

/-- A SWITCH LOADS FIVE REGISTERS AND CHANGES NOTHING ELSE but Accessed bits (R720 steps 10-14). -/
theorem State.taskLoaded_load (s : State) : ∃ b l gs gc gd ge,
    s.taskLoaded = s.withSegs b l gs gc gd ge ∧
      l.sel = s.ldtr.sel ∧ gs.sel = s.ss.sel ∧ gc.sel = s.cs.sel ∧ gd.sel = s.ds.sel ∧ ge.sel = s.es.sel ∧
      gs.valid = true ∧ gc.valid = true ∧
      ∀ a, (∀ g ∈ [gs, gc, gd, ge], g.valid = true → a ≠ s.taskLoaded.accessCell g.sel) →
        s.taskLoaded.readPhys a = s.readPhys a := by
  obtain ⟨bl, l, hldt, hl, hmeml⟩ := s.taskLdt_load
  obtain ⟨bs, gs, (hss : _ = s.withSegs bs l gs s.cs s.ds s.es), hs⟩ :=
    (s.withSegs bl l s.ss s.cs s.ds s.es).taskSegment_load .ss .stackSeg
  obtain ⟨bc, gc, (hcs : _ = s.withSegs bc l gs gc s.ds s.es), hc⟩ :=
    (s.withSegs bs l gs s.cs s.ds s.es).taskSegment_load .cs .codeSeg
  obtain ⟨bd, gd, (hds : _ = s.withSegs bd l gs gc gd s.es), hd⟩ :=
    (s.withSegs bc l gs gc s.ds s.es).taskSegment_load .ds .dsSeg
  obtain ⟨be, ge, (hes : _ = s.withSegs be l gs gc gd ge), he⟩ :=
    (s.withSegs bd l gs gc gd s.es).taskSegment_load .es .esSeg
  rw [State.taskLoaded, hldt, hss, hcs, hds, hes]
  refine ⟨be, l, gs, gc, gd, ge, rfl, hl, hs.sel, hc.sel, hd.sel, he.sel, hs.valid (.inl rfl), hc.valid (.inr rfl),
    fun a ha => ?_⟩
  simp only [List.forall_mem_cons, List.not_mem_nil, false_imp_iff, implies_true, and_true] at ha
  obtain ⟨has, hac, had, hae⟩ := ha
  calc _ = _ := he.mem a hae
    _ = _ := hd.mem a had
    _ = _ := hc.mem a hac
    _ = _ := hs.mem a has
    _ = _ := hmeml a

/-- A switch that completes ends with everything loaded. -/
theorem State.switchTasks_loaded {nsel : Word} {nd : Desc} {nesting : Bool} {cause : SwitchCause} {ip x : Word}
    (h : s.switchTasks nsel nd nesting cause ip x = .ok t) :
    t = ((s.outgoing nd nesting cause ip).incoming nsel nd nesting cause).taskLoaded := by
  rw [State.switchTasks_eq] at h
  cases hp : passTests (s.switchTests nsel nd nesting cause ip x) with
  | error e => rw [hp] at h; cases h
  | ok v => rw [hp] at h; cases h; rfl

/-- What a switch that completes leaves: the registers of the new TSS, and memory as the outgoing task left it but for
Accessed bits (R720). -/
theorem State.taskSwitch_leaves (s t : State) (nsel : Word) (nd : Desc) (nesting : Bool) (cause : SwitchCause)
    (ip ext : Word) :
    let m := s.outgoing nd nesting cause ip
    let w (k : PAddr) : Word := (m.reading .task).readPhys16 (nd.base + k)
    s.switchTasks nsel nd nesting cause ip ext = .ok t →
      t.tr = { sel := nsel, base := nd.base, limit := nd.limit, valid := true } ∧ t.msw = { s.msw with ts := true } ∧
      t.regs = { ax := w 18, cx := w 20, dx := w 22, bx := w 24, sp := w 26, bp := w 28, si := w 30, di := w 32 } ∧
      t.ip = w 14 ∧ t.cs.sel = w 36 ∧ t.ss.sel = w 38 ∧ t.ds.sel = w 40 ∧ t.es.sel = w 34 ∧ t.ldtr.sel = w 42 ∧
      t.cs.valid = true ∧ t.ss.valid = true ∧
      t.flags = { Flags.ofWord (w 16) with
        nt := if nesting then true else if cause = .jmp then false else (Flags.ofWord (w 16)).nt } ∧
      t.gdtr = s.gdtr ∧ t.idtr = s.idtr ∧
      ∀ a, a ∉ ([t.ss, t.cs, t.ds, t.es].filter (·.valid)).map (fun x => t.accessCell x.sel) →
        t.readPhys a = m.readPhys a := by
  intro m w h
  obtain ⟨bm, hm⟩ : ∃ b, m = s.onBus b := s.outgoing_bus nd nesting cause ip
  have ht : t = (m.incoming nsel nd nesting cause).taskLoaded := State.switchTasks_loaded h
  obtain ⟨b, l, gs, gc, gd, ge, hload, hl, hss, hcs, hds, hes, hsv, hcv, hmem⟩ :=
    (m.incoming nsel nd nesting cause).taskLoaded_load
  rw [← ht] at hload hmem
  have hmsw : t.msw = { s.msw with ts := true } := by rw [hload, hm]; rfl
  have hgdtr : t.gdtr = s.gdtr := by rw [hload, hm]; rfl
  have hidtr : t.idtr = s.idtr := by rw [hload, hm]; rfl
  have hsegs : t.ss = gs ∧ t.cs = gc ∧ t.ds = gd ∧ t.es = ge ∧ t.ldtr = l := by
    rw [hload]
    exact ⟨rfl, rfl, rfl, rfl, rfl⟩
  obtain ⟨hgs, hgc, hgd, hge, hgl⟩ := hsegs
  rw [hgs, hgc, hgd, hge, hgl]
  refine ⟨by rw [hload]; rfl, hmsw, by rw [hload]; rfl, by rw [hload]; rfl, hcs, hss, hds, hes, hl, hcv, hsv,
    by rw [hload]; rfl, hgdtr, hidtr, fun a ha => ?_⟩
  refine hmem a fun g hg hv heq => ha ?_
  exact List.mem_map.mpr ⟨g, List.mem_filter.mpr ⟨hg, hv⟩, heq.symm⟩

end Sys2Proof.Machine
end

section
/-!
# The instructions that switch tasks (O45)
-/

namespace Sys2Proof.Machine

variable {s t : State} {i : Instr} {e : Event}

/-! Descriptors in the GDT -/

theorem State.inGdt_iff (s : State) (sel : Word) :
    s.inGdt sel = true ↔ sel.getLsbD 2 = false ∧ sel.toNat / 8 * 8 + 7 ≤ s.gdtr.limit.toNat := by
  rw [State.inGdt, selector_index_toNat, Bool.and_eq_true, Bool.not_eq_true', decide_eq_true_eq]

/-! The test of the new offset -/

/-- What an instruction that switches tasks comes to once the switch has answered: a switch that fails stops it, and the
last test is that of the new offset, in the new task (R713). -/
structure State.Switches (s : State) (i : Instr) (r : Run State) (done : State → State) : Prop where
  stops : ∀ e, r = .error e → exec i s = s.stopped e
  lands : ∀ n, r = .ok n → n.ip.toNat ≤ n.cs.limit.toNat → exec i s = .next (done n)
  misses : ∀ n, r = .ok n → n.cs.limit.toNat < n.ip.toNat → exec i s = n.exception 13 (some 0)

theorem State.Switches.of_exec {r : Run State} {done : State → State}
    (h : exec i s = s.finish (r >>= fun n => n.checkTaskIp 0 >>= fun m => pure (done m))) : s.Switches i r done where
  stops e he := by
    rw [h, he]
    exact State.finish_error s e
  lands n hn hle := by
    rw [h, hn]
    simp only [run_bind_ok, State.checkTaskIp, decide_eq_true hle, check_true]
    rfl
  misses n hn hlt := by
    rw [h, hn]
    simp only [run_bind_ok, State.checkTaskIp, decide_eq_false (Nat.not_le.mpr hlt)]
    rfl

/-! Far JMP and far CALL -/

/-- The switch that a far JMP or CALL makes. -/
def State.farSwitched (s : State) (kind : FarKind) (tsel : Word) (td : Desc) : Run State :=
  s.switchTasks tsel td (kind == .call) (if kind = .call then .call else .jmp) s.nextIp 0

theorem State.farSwitch_eq (s : State) (kind : FarKind) (tsel : Word) (td : Desc) :
    s.farSwitch kind tsel td = (s.farSwitched kind tsel td >>= fun n => n.checkTaskIp 0 >>= fun m => pure m) := by
  cases kind with
  | jmp => simp only [State.farSwitch, bind_pure]; rfl
  | call => simp only [State.farSwitch, bind_pure]; rfl

/-- A far JMP or CALL to an available TSS switches to it (R479). -/
theorem State.farTransferProt_tss {kind : FarKind} {sel off : Word} {td : Desc} (h4 : 4 ≤ sel.toNat)
    (hd : s.desc? sel = some td) (huse : s.mayUse sel td = true) (hpres : arPresent td.ar = true)
    (hti : sel.getLsbD 2 = false) (htype : arIsType td.ar 1 = true) :
    s.farTransferProt kind sel off = s.farSwitch kind sel td := by
  have hnull : (!isNull sel) = true := by rw [not_isNull_eq]; exact decide_eq_true h4
  have hdesc := (s.desc_ok sel (excGp (selCode sel)) td).mpr hd
  have hgate : arIsType td.ar 4 = false := arIsType_unique htype (by decide)
  have htask : arIsType td.ar 5 = false := arIsType_unique htype (by decide)
  have htss : td.isTss = true := by rw [Desc.isTss, htype, Bool.true_or]
  simp only [State.farTransferProt, hnull, check_true, run_bind_ok, hdesc, Desc.not_isCode_of_type htype, hgate, htask,
    htss, Bool.false_eq_true, if_false, if_true, State.farTss, hti, Bool.not_false, State.gateAllowed, gateAllowed_eq,
    huse, htype, hpres]

/-- A far JMP or CALL to a task gate switches to the TSS that it names (R478). -/
theorem State.farTransferProt_taskGate {kind : FarKind} {sel off : Word} {g td : Desc} (h4 : 4 ≤ sel.toNat)
    (hg : s.desc? sel = some g) (huse : s.mayUse sel g = true) (hpres : arPresent g.ar = true)
    (htask : arIsType g.ar 5 = true) (hti : g.gateSel.getLsbD 2 = false)
    (hlim : g.gateSel.toNat / 8 * 8 + 7 ≤ s.gdtr.limit.toNat)
    (htd : td = (s.reading .target).descAt (s.gdtr.base + BitVec.ofNat 24 (g.gateSel.toNat / 8 * 8)))
    (htype : arIsType td.ar 1 = true) (hpres' : arPresent td.ar = true) :
    s.farTransferProt kind sel off = s.farSwitch kind g.gateSel td := by
  have hnull : (!isNull sel) = true := by rw [not_isNull_eq]; exact decide_eq_true h4
  have hdesc := (s.desc_ok sel (excGp (selCode sel)) g).mpr hg
  have hgate : arIsType g.ar 4 = false := arIsType_unique htask (by decide)
  have hin : s.inGdt g.gateSel = true := (s.inGdt_iff g.gateSel).mpr ⟨hti, hlim⟩
  rw [← State.gdtAddr_eq] at htd
  simp only [State.farTransferProt, hnull, check_true, run_bind_ok, hdesc, Desc.not_isCode_of_type htask, hgate, htask,
    Bool.false_eq_true, if_false, if_true, State.farTaskGate, State.gateAllowed, gateAllowed_eq, huse, hpres, hin,
    ← htd, htype, hpres']

/-- A far JMP or CALL to an available TSS, or to a task gate that names one, makes the switch (R478, R479). -/
theorem State.switches_of_farForm {kind : FarKind} {off sel tsel : Word} {d td : Desc} (hp : s.prot = true)
    (h4 : 4 ≤ sel.toNat) (hd : s.desc? sel = some d) (huse : s.mayUse sel d = true) (hpres : arPresent d.ar = true)
    (hti : tsel.getLsbD 2 = false) (htype : arIsType td.ar 1 = true)
    (hnames : arIsType d.ar 1 = true ∧ tsel = sel ∧ td = d ∨
      arIsType d.ar 5 = true ∧ tsel = d.gateSel ∧ tsel.toNat / 8 * 8 + 7 ≤ s.gdtr.limit.toNat ∧ arPresent td.ar = true ∧
        td = (s.reading .target).descAt (s.gdtr.base + BitVec.ofNat 24 (tsel.toNat / 8 * 8)))
    (hi : s.farForm kind off sel i) : s.Switches i (s.farSwitched kind tsel td) id := by
  obtain ⟨off', hto⟩ := State.farTo_of_farForm hi
  refine .of_exec ?_
  rw [State.exec_farTo_prot hp hto]
  refine congrArg s.finish (Eq.trans ?_ (s.farSwitch_eq kind tsel td))
  obtain ⟨-, rfl, rfl⟩ | ⟨htask, rfl, hlim, hpres', htd⟩ := hnames
  · exact State.farTransferProt_tss h4 hd huse hpres hti htype
  · exact State.farTransferProt_taskGate h4 hd huse hpres htask hti hlim htd htype hpres'

/-! IRET with NT set -/

theorem exec_iret_task (hp : s.prot = true) (hnt : s.flags.nt = true) : exec .iret s = s.finish s.iretTask := by
  have hexec : exec .iret s = s.finish s.iret := rfl
  rw [hexec, State.iret, hp, hnt]
  rfl

/-- The descriptor that the back link of the current TSS names (R503). -/
def State.backTask (s : State) (bl : Word) : Desc :=
  (s.reading .target).descAt (s.gdtr.base + BitVec.ofNat 24 (bl.toNat / 8 * 8))

/-- The return to the task before, as its tests and its switch (R503). -/
theorem State.iretTask_eq (s : State) :
    let bl := (s.reading .backLink).readPhys16 s.tr.base
    s.iretTask = (do
      check (s.inGdt bl && arIsType (s.backTask bl).ar 3) (excTs (selCode bl))
      check (arPresent (s.backTask bl).ar) (excNp (selCode bl))
      s.switchTasks bl (s.backTask bl) false .iret s.nextIp 0 >>= fun n =>
        n.checkTaskIp 0 >>= fun m => pure m.nmiDone) := by
  intro bl
  have hback : s.backTask bl = (s.reading .target).descAt (s.gdtAddr bl) := by rw [State.backTask, State.gdtAddr_eq]
  simp only [State.iretTask, check_and, hback]
  rfl

/-- A back link that names no busy TSS in the GDT. -/
theorem exec_iret_badLink (hp : s.prot = true) (hnt : s.flags.nt = true) :
    let bl := (s.reading .backLink).readPhys16 s.tr.base
    (bl.getLsbD 2 = true ∨ s.gdtr.limit.toNat < bl.toNat / 8 * 8 + 7 ∨ arIsType (s.backTask bl).ar 3 = false) →
      exec .iret s = s.exception 10 (some (bl &&& 0xFFFC)) := by
  intro bl hbad
  have hfails : (s.inGdt bl && arIsType (s.backTask bl).ar 3) = false := by
    rw [Bool.eq_false_iff, ne_eq, Bool.and_eq_true, State.inGdt_iff]
    rintro ⟨⟨hti, hlim⟩, htype⟩
    rcases hbad with hti' | hlim' | htype'
    · exact absurd (hti.symm.trans hti') (by decide)
    · omega
    · exact absurd (htype.symm.trans htype') (by decide)
  rw [exec_iret_task hp hnt, State.iretTask_eq]
  simp only [bl, hfails] at hfails ⊢
  rfl

/-- A back link that names a busy TSS, with the tests that are left. -/
theorem exec_iret_link (hp : s.prot = true) (hnt : s.flags.nt = true) :
    let bl := (s.reading .backLink).readPhys16 s.tr.base
    bl.getLsbD 2 = false → bl.toNat / 8 * 8 + 7 ≤ s.gdtr.limit.toNat → arIsType (s.backTask bl).ar 3 = true →
      exec .iret s = s.finish (do
        check (arPresent (s.backTask bl).ar) (excNp (selCode bl))
        s.switchTasks bl (s.backTask bl) false .iret s.nextIp 0 >>= fun n =>
          n.checkTaskIp 0 >>= fun m => pure m.nmiDone) := by
  intro bl hti hlim htype
  have hin : s.inGdt bl = true := (s.inGdt_iff bl).mpr ⟨hti, hlim⟩
  rw [exec_iret_task hp hnt, State.iretTask_eq]
  simp only [bl] at hin htype ⊢
  simp only [hin, htype, Bool.and_self, check_true, run_bind_ok]

/-! Entry through a task gate -/

/-- The tests of an entry on its gate when that is a task gate (R840). -/
theorem State.gateTests_pass_task (hlim : 8 * e.vec.toNat + 7 ≤ s.idtr.limit.toNat)
    (htask : arIsType (s.gate e).ar 5 = true) (hsw : e.kind = .sw → s.cpl.toNat ≤ (arDpl (s.gate e).ar).toNat)
    (hpres : arPresent (s.gate e).ar = true) : passTests (s.gateTests e) = .ok () := by
  refine passTests_ok ?_
  simp only [State.gateTests, List.forall_mem_cons, List.not_mem_nil, false_imp_iff, implies_true, and_true]
  refine ⟨decide_eq_true hlim, by rw [htask, Bool.true_or, Bool.true_or], ?_, hpres⟩
  by_cases hk : e.kind = .sw
  · rw [decide_eq_true (hsw hk), Bool.or_true]
  · simp [hk]

/-- An entry through a task gate that passes every test is the nesting switch, the error code and the new offset
(R841). -/
theorem State.enter_task {td : Desc} (hp : s.prot = true) (hlim : 8 * e.vec.toNat + 7 ≤ s.idtr.limit.toNat)
    (htask : arIsType (s.gate e).ar 5 = true) (hsw : e.kind = .sw → s.cpl.toNat ≤ (arDpl (s.gate e).ar).toNat)
    (hpres : arPresent (s.gate e).ar = true) (hti : (s.gate e).gateSel.getLsbD 2 = false)
    (hgdt : (s.gate e).gateSel.toNat / 8 * 8 + 7 ≤ s.gdtr.limit.toNat)
    (htd : td = (s.reading .target).descAt (s.gdtr.base + BitVec.ofNat 24 ((s.gate e).gateSel.toNat / 8 * 8)))
    (htype : arIsType td.ar 1 = true) (hpres' : arPresent td.ar = true) :
    s.enter e = (s.switchTasks (s.gate e).gateSel td true .int e.ret e.ext >>= fun n => n.entryCode e) := by
  have hentry : (s.reading .target).entry (s.gate e).gateSel = td := by
    rw [State.entry, hti, htd]
    rfl
  have htests : passTests ((s.reading .target).systemTests 1 (s.gate e).gateSel e.ext) = .ok () :=
    State.systemTests_pass hti hgdt (by rwa [hentry]) (by rwa [hentry])
  rw [State.enter_prot hp, State.enterProt_eq, State.gateTests_pass_task hlim htask hsw hpres, run_bind_ok,
    if_pos htask, State.taskGateEntry_eq, htests, run_bind_ok, hentry]

theorem State.checkTaskIp_lands {n : State} {x : Word} (h : n.ip.toNat ≤ n.cs.limit.toNat) :
    n.checkTaskIp x = .ok n := by
  rw [State.checkTaskIp, decide_eq_true h]
  rfl

theorem State.checkTaskIp_misses {n : State} {x : Word} (h : n.cs.limit.toNat < n.ip.toNat) :
    n.checkTaskIp x = .error (.exc 13 (some x) (some n)) := by
  rw [State.checkTaskIp, decide_eq_false (Nat.not_le.mpr h)]
  rfl

theorem State.entryCode_none {n : State} (h : e.code = none) : n.entryCode e = n.checkTaskIp e.ext := by
  obtain ⟨vec, kind, ret, code⟩ := e
  cases h
  rfl

theorem State.entryCode_noRoom {n : State} {c : Word} (h : e.code = some c)
    (hroom : n.canWrite .ss (n.regs.sp - 2) 2 = false) : n.entryCode e = .error (.exc 12 (some e.ext) (some n)) := by
  obtain ⟨vec, kind, ret, code⟩ := e
  cases h
  simp only [State.entryCode, State.canPush_one, hroom]
  rfl

theorem State.entryCode_pushed {n : State} {c : Word} (h : e.code = some c)
    (hroom : n.canWrite .ss (n.regs.sp - 2) 2 = true) : n.entryCode e =
      State.checkTaskIp
        { n.writePhys16 (n.stackAddr (-2)) c with regs := { n.regs with sp := n.regs.sp - 2 } } e.ext := by
  obtain ⟨vec, kind, ret, code⟩ := e
  cases h
  simp only [State.entryCode, State.canPush_one, hroom, check_true, run_bind_ok, State.pushRaw_eq]

section
variable {n : State}

/-- What a delivery comes to whose entry has switched to the task `n`. -/
theorem State.entry_lands {r : Run State} (henter : (s.attempt 1).enter e = (r >>= fun n => n.entryCode e))
    (hn : r = .ok n) (hcode : n.entryCode e = .ok t) : s.Takes e { t with use := s.use } :=
  .of_enter (by rw [henter, hn, run_bind_ok, hcode])

theorem State.entry_fails {r : Run State} {stop : Stop}
    (henter : (s.attempt 1).enter e = (r >>= fun n => n.entryCode e)) (hn : r = .ok n)
    (hcode : n.entryCode e = .error stop) : (s.attempt 1).enter e = .error stop := by
  rw [henter, hn, run_bind_ok, hcode]

end

/-- Settles O45. -/
theorem taskSwitchLoadsTheTask : Obligations.TaskSwitchLoadsTheTask := by
  refine ⟨?switch, ?far, ?iret, ?gate⟩
  case switch =>
    intro s t nsel nd nesting cause ip ext m w tests
    have heq := s.switchTasks_eq nsel nd nesting cause ip ext
    refine ⟨fun e he => ?fails, fun hnone => ?passes, s.taskSwitch_leaves t nsel nd nesting cause ip ext⟩
    case fails => rw [heq, passTests_error he]; rfl
    case passes => rw [heq, passTests_ok (firstFailing_none_iff.mp hnone)]; rfl
  case far =>
    intro s n off sel d td tsel hp h4 hd huse hpres hti htype hnames
    refine ⟨fun i hi => ?_, fun i hi => ?_⟩
    all_goals
      have hsw := State.switches_of_farForm hp h4 hd huse hpres hti htype hnames hi
      exact ⟨hsw.stops, fun hn => ⟨hsw.lands n hn, hsw.misses n hn⟩⟩
  case iret =>
    intro s hp hnt bl ec d
    refine ⟨exec_iret_badLink hp hnt, fun hti hlim htype => ?_⟩
    have hexec := exec_iret_link hp hnt hti hlim htype
    have hsw (hpres : arPresent d.ar = true) :
        s.Switches .iret (s.switchTasks bl d false .iret s.nextIp 0) State.nmiDone :=
      .of_exec (by rw [hexec, show arPresent (s.backTask bl).ar = true from hpres, check_true, run_bind_ok]; rfl)
    refine ⟨fun habs => ?absent, fun e hpres => (hsw hpres).stops e,
      fun n hpres hn => ⟨(hsw hpres).lands n hn, (hsw hpres).misses n hn⟩⟩
    case absent =>
      rw [hexec, show arPresent (s.backTask bl).ar = false from habs]
      rfl
  case gate =>
    intro s n e td hp a1 g x hlim htask hsw hpres hti hgdt htd htype hpres'
    have henter : a1.enter e = (a1.switchTasks g.gateSel td true .int e.ret x >>= fun n => n.entryCode e) :=
      State.enter_task (s := a1) hp hlim htask hsw hpres hti hgdt htd htype hpres'
    refine ⟨fun stop hstop => by rw [henter, hstop]; rfl, fun hn => ?_⟩
    intro fails
    refine ⟨fun hcode => ?plain, fun c hcode => ?pushed⟩
    case plain =>
      have hend := State.entryCode_none (n := n) hcode
      exact ⟨fun hle => State.entry_lands henter hn (hend.trans (State.checkTaskIp_lands hle)),
        fun hlt => State.entry_fails henter hn (hend.trans (State.checkTaskIp_misses hlt))⟩
    case pushed =>
      refine ⟨fun hroom => State.entry_fails henter hn (State.entryCode_noRoom hcode hroom), fun hroom => ?_⟩
      intro p
      have hend : n.entryCode e = p.checkTaskIp e.ext := State.entryCode_pushed hcode hroom
      have hsame : p.ip = n.ip ∧ p.cs = n.cs := ⟨State.writePhys16_ip .., State.writePhys16_cs ..⟩
      obtain ⟨hip, hcs⟩ := hsame
      rw [← hip, ← hcs]
      exact ⟨fun hle => State.entry_lands henter hn (hend.trans (State.checkTaskIp_lands hle)),
        fun hlt => State.entry_fails henter hn (hend.trans (State.checkTaskIp_misses hlt))⟩

end Sys2Proof.Machine
end
